-- ==== Sys2Proof/Word.lean ====
section
/-! DEFINITION. The word types of the part: the byte of every record, the 16-bit tag, code and sequence number,
the 32-bit link address and the 64-bit beat. -/

namespace Sys2Proof

/-- One byte of a record, a lens frame or a gyro transaction. -/
abbrev Byte := BitVec 8

/-- A 16-bit value the manual treats as bits: a command code, a command tag, a capture sequence, an initiator set. -/
abbrev Half := BitVec 16

/-- A byte address on the memory link. Window bases and burst addresses are 4-byte fields (R207, R208). -/
abbrev Addr := BitVec 32

/-- The 8 data bytes of one beat, the byte at the lowest address in bits 7..0 (little-endian, 00_scope 3.2). -/
abbrev BeatData := BitVec 64

end Sys2Proof
end

