-- ==== Sys2Proof/Syntax.lean ====
section
/-! DEFINITION. The steps of the part, one constructor per row of spec/opcode_table.json, with what each row takes from
outside: a burst on the upstream link, an answer from DRAM, a character on the LENS line, the bytes of a gyro
transaction, the straps. A row that acts on what the part itself holds (an arbiter issue, a timer expiry, the command
record at the head of the command queue) takes no operand. -/

namespace Sys2Proof

/-- One write beat: 8 data bytes and eight byte enables, bit `i` for byte `i` (R1). -/
structure Beat where
  data : BeatData
  enables : Byte
  deriving DecidableEq, Repr

/-- A write request on the upstream link (R1); its length is the number of beats. -/
structure WriteBurst where
  addr : Addr
  tag : BitVec 4
  beats : List Beat
  deriving DecidableEq, Repr

/-- A read request on the upstream link (R1). -/
structure ReadBurst where
  addr : Addr
  tag : BitVec 4
  len : Nat
  deriving DecidableEq, Repr

/-- One character as read from the LENS line: 8 data bits, the parity bit and the level read at the stop bit (R43). -/
structure LineChar where
  data : Byte
  parity : Bool
  stopHigh : Bool
  deriving DecidableEq, Repr

/-- What the LENS line shows the receiver: a start bit of the lens's, a character read whole at its end, or the line's return
to high after a stop bit read low (R43, R47). -/
inductive LineEvent where
  | startBit
  | character (c : LineChar)
  | returnsHigh
  deriving DecidableEq, Repr

/-- What ends a frame under assembly without a received frame: a character, or a gap of more than 2 byte times (R45). -/
inductive AbandonCause where
  | char (c : LineChar)
  | gap
  deriving DecidableEq, Repr

/-- The six bytes the gyro port reads in one transaction, in the order of R212. -/
structure GyroBytes where
  status : Byte
  yawLow : Byte
  yawHigh : Byte
  pitchLow : Byte
  pitchHigh : Byte
  check : Byte
  deriving DecidableEq, Repr

/-- The level of GDI in the 48 clock periods in which the gyro port reads, at the first edge of each and at its second edge
(R87). The bits stand in the order of the periods, the first period's at the most significant end. -/
structure GdiLevels where
  atFirst : BitVec 48
  atSecond : BitVec 48
  deriving DecidableEq, Repr

/-- One constructor per row of spec/opcode_table.json, in the table's order. -/
inductive Instr where
  | pinReset (cws : BitVec 3) (lensEn : Bool)
  | upstreamWriteAccepted (b : WriteBurst)
  | upstreamReadAccepted (b : ReadBurst)
  | arbiterIssue
  | readReturn (answer : Option (List BeatData))
  | forwardedWriteResponse (done : Bool)
  | injectedWriteResponse (done : Bool)
  | upstreamResponseReturned (tag : BitVec 4)
  | frameMarkTimerExpiry
  | metadataRecordJoins
  | lensFrameAbandoned (cause : AbandonCause)
  | lensFrameDiscarded (check : LineChar)
  | positionTaken (check : LineChar)
  | identityTaken (check : LineChar)
  | noticeTaken (check : LineChar)
  | identityReplyTimeout
  | lensFrameStart
  | lensFrameComplete
  | lensFrameCancelled
  | replyWindowExpiry
  | seekTimerExpiry
  | sampleTimerExpiry
  | sampleEvent (gdi : GdiLevels)
  | quietIntervalEnd
  | reportLeavesQueue
  | heldReportJoins
  | unknownCommand
  | setWindow
  | clearWindow
  | setEventMask
  | ackEvent
  | serviceDone
  | raiseEvent
  | statusRequest
  | resetJobLens
  | resetJobStab
  | resetJobFrame
  | resetJobAudio
  | resetJobOverlay
  | resetJobRecord
  | resetJobReport
  | resetJobPart
  | setFrameRate
  | setTimecode
  | setTimecodeMode
  | lensLinkEnable
  | lensLinkDisable
  | lensLinkReSeek
  | setAxisSource
  | setDirectDemand
  | setRocker
  | setOverride
  | engineAppend
  | engineModeRun
  | engineModeStep
  | engineModeHold
  | engineFlush
  | gyroSetup
  | stabSetup
  | stabMode
  | biasCapture
  | stabRecentre
  | overlayBegin
  | overlayElement
  | overlayCommit
  | setPalette
  | setZebra
  | audioRoute
  | audioLimiter
  | audioMeter
  | audioSyncReset
  | recordSetup
  | recStart
  | recStop
  | clipDiscard
  | lensCharacterReceived (event : LineEvent)
  deriving DecidableEq, Repr

end Sys2Proof
end

