-- ==== Sys2Proof/WellFormed.lean ====
section
/-! DEFINITION. Which steps carry operands the links can carry (R1): a burst's address is aligned to 8 bytes, its length
is 1 to 16 beats, and a read's answer holds 1 to 16 beats. Every other operand is well-formed by its type. -/

namespace Sys2Proof

/-- A write request of R1: aligned to 8 bytes, 1 to 16 beats. -/
def WriteBurst.wellFormed (b : WriteBurst) : Bool :=
  b.addr.toNat % 8 == 0 && 1 ≤ b.beats.length && b.beats.length ≤ 16

/-- A read request of R1: aligned to 8 bytes, 1 to 16 beats. -/
def ReadBurst.wellFormed (b : ReadBurst) : Bool :=
  b.addr.toNat % 8 == 0 && 1 ≤ b.len && b.len ≤ 16

/-- The step's operands are ones the links can carry. -/
def Instr.wellFormed : Instr → Bool
  | .upstreamWriteAccepted b => b.wellFormed
  | .upstreamReadAccepted b => b.wellFormed
  | .readReturn (some beats) => 1 ≤ beats.length && beats.length ≤ 16
  | _ => true

end Sys2Proof
end

