-- ==== Sys2Proof/Decode.lean ====
section
/-! DEFINITION. The step a table word spells. No row of spec/opcode_table.json gives bits (its "fixed" and "fields" are
empty for all 76 rows), so no word spells a step. -/

namespace Sys2Proof

/-- The step that the word `w` of `nbits` bits spells by the table's bits: none, since the table gives no row any bits. -/
def decodeTableWord (_nbits _w : Nat) : Option Instr := none

end Sys2Proof
end

