-- ==== Sys2Proof/Machine/State.lean ====
section
/-! DEFINITION. The state of the part: one structure per block of 00_scope 1.3, plain data throughout, and the state
right after pin reset. -/

namespace Sys2Proof.Machine

/-! ### The path unit (01_windows_on_the_memory_link) -/

/-- The seven window roles (R3, R4). -/
inductive Role where
  | command | report | frame | record | audio | metadata | pass
  deriving DecidableEq, Repr

/-- The buffer geometry of a FRAME window (R22). -/
structure Geometry where
  buffers : Nat
  stride : Nat
  width : Nat
  height : Nat
  pitch : Nat
  marginX : Nat
  marginY : Nat
  deriving DecidableEq, Repr

/-- The ring setup of a RECORD window (R151). -/
structure RingSetup where
  marker : BeatData
  highWater : Nat
  drainLevel : Nat
  button : Bool
  preRoll : Nat
  deriving DecidableEq, Repr

/-- What the low byte of an output word holds (R131). -/
inductive FlagByteMode where
  | clear | keep
  deriving DecidableEq, Repr

/-- The role parameters of a window record: present for FRAME, RECORD and AUDIO (R3). -/
inductive RoleParams where
  | absent
  | frame (g : Geometry)
  | record (r : RingSetup)
  | audio (m : FlagByteMode)
  deriving DecidableEq, Repr

/-- A window record (R3). The size is 2 to the power `sizeExp` (R207); a set is a mask, bit `t` for tag `t` (R207). -/
structure WindowRecord where
  role : Role
  base : Nat
  sizeExp : Nat
  enabled : Bool
  sets : List Half
  params : RoleParams
  deriving DecidableEq, Repr

/-- The classification a read is carried to its end under: the window record in force at its acceptance and the index
of the initiator set it belongs to (R5, R8). -/
structure ReadClass where
  window : WindowRecord
  setIndex : Nat
  deriving DecidableEq, Repr

/-- What a pass-through burst carries: a write its beats (after any rewrite), a read its length and classification. -/
inductive PassBody where
  | write (beats : List Beat)
  | read (len : Nat) (cls : Option ReadClass)
  deriving DecidableEq, Repr

/-- A burst of the pass-through queue. `issued` is the address the master issued and `addr` the address toward DRAM,
which differ for a remapped read alone (R11). `id` is the MODEL's number for the burst (log entry 4). -/
structure PassBurst where
  id : Nat
  tag : BitVec 4
  issued : Nat
  addr : Nat
  body : PassBody
  deriving DecidableEq, Repr

/-- The kind of a record the part writes itself (R16). -/
inductive RecordKind where
  | completion | event | status | metadata
  deriving DecidableEq, Repr

/-- An injected write (R15). `slot` is the report slot of the current ring that the write is for, absent for a metadata
write and for a write composed before the ring last started (R194). `isMemoryFault` marks an event report of kind
MEMORY_FAULT, whose loss makes no report (R16). `tag` is the initiator tag it carries on the memory-side link (R7). -/
structure InjectedWrite where
  kind : RecordKind
  tag : BitVec 4
  isMemoryFault : Bool
  addr : Nat
  bytes : List Byte
  slot : Option Nat
  deriving DecidableEq, Repr

/-- The initiator tag of the part's own writes on the memory-side link (R7). -/
def ownTag : BitVec 4 := 15

/-- A request that the memory-side port has carried to DRAM and DRAM has not answered yet (1.5, R16). -/
inductive MemoryRequest where
  | pass (b : PassBurst)
  | injected (w : InjectedWrite)
  deriving DecidableEq, Repr

/-- The answer to an upstream burst (R2). -/
inductive Answer where
  | data (beats : List BeatData)
  | done
  | error
  deriving DecidableEq, Repr

/-- The response owed for an accepted burst: its answer is absent until its own work is finished (R2). -/
structure Response where
  id : Nat
  tag : BitVec 4
  answer : Option Answer
  deriving DecidableEq, Repr

/-- A response as driven on the upstream link. -/
structure ReturnedResponse where
  tag : BitVec 4
  answer : Answer
  deriving DecidableEq, Repr

/-- A request made on the upstream link and not accepted yet (R1). -/
inductive Request where
  | write (b : WriteBurst)
  | read (b : ReadBurst)
  deriving DecidableEq, Repr

/-- The path unit. `waiting` holds the requests that wait on the upstream link, oldest first (R1); `atMemory` the one request
the memory-side port carries, absent while the port is free (1.5, R195); `beatsBack` the beats of that read that have come
back so far, as they go upstream (R12, R130); `responses` the responses owed, in order of
acceptance (R2); `returned` is the last response driven upstream. -/
structure PathUnit where
  windows : List (Option WindowRecord)
  passQueue : List PassBurst
  injected : List InjectedWrite
  arbiterCount : Nat
  waiting : List Request
  atMemory : Option MemoryRequest
  beatsBack : List BeatData
  responses : List Response
  returned : Option ReturnedResponse
  nextId : Nat
  deriving DecidableEq, Repr

/-! ### Commands, reports and attention (10_commands_reports_and_attention) -/

/-- A taken command record (R187): code, tag, and the 28 parameter bytes 4 to 31. -/
structure CommandRecord where
  code : Half
  tag : Half
  params : List Byte
  deriving DecidableEq, Repr

/-- The completion statuses (R191). -/
inductive Status where
  | done | clamped | refusedUnknown | refusedState | refusedRange | refusedFull | refusedBusy | aborted
  deriving DecidableEq, Repr

/-- The result of a completion report (R191, R208). -/
inductive CommandResult where
  | none
  | bias (x y : Int) (count : Nat)
  | ack (cleared : Bool) (count : Byte)
  | statusReports (n : Nat)
  deriving DecidableEq, Repr

/-- The 25 event kinds, in kind order (R199). -/
inductive EventKind where
  | commandOverflow | commandPartial | reportsDropped | memoryFault | windowStraddle
  | frameBeat | captureAbandoned | lensState | lensNotice | linkCollision
  | engineDone | enginePreempted | engineMark | gyroState | stabLimit
  | panState | overlaySwapped | audioClip | audioMisaligned | avDrift
  | recordState | recordOverrun | ringLevel | stampFault | software
  deriving DecidableEq, Repr

/-- Why a command position was not taken (R188). -/
inductive PartialCause where
  | split | enables
  deriving DecidableEq, Repr

/-- The frame tracker's state (R30). -/
inductive TrackerState where
  | locked | freeWheel
  deriving DecidableEq, Repr

/-- The four link states (R49). -/
inductive LinkState where
  | absent | seeking | online | degraded
  deriving DecidableEq, Repr

/-- The three notices (R57). -/
inductive Notice where
  | recordButton | returnButton | extenderChanged
  deriving DecidableEq, Repr

/-- The two frame types the part sends (R44). -/
inductive SentKind where
  | demand | identifyRequest
  deriving DecidableEq, Repr

/-- The three move engines. -/
inductive EngineId where
  | e1 | e2 | e3
  deriving DecidableEq, Repr

/-- The states of a move engine (R73). -/
inductive EngineState where
  | idle | held | ramping | dwelling | waiting
  deriving DecidableEq, Repr

/-- The three lens axes (R64). -/
inductive Axis where
  | zoom | focus | iris
  deriving DecidableEq, Repr

/-- The five move kinds (R73). -/
inductive MoveKind where
  | ramp | dwell | signal | wait | mark
  deriving DecidableEq, Repr

/-- The gyro port's states (R89). -/
inductive PortState where
  | unconfigured | running | failed
  deriving DecidableEq, Repr

/-- The image axes of the stabiliser. -/
inductive ImageAxis where
  | x | y
  deriving DecidableEq, Repr

/-- Pan states (R91). -/
inductive PanState where
  | steady | panning
  deriving DecidableEq, Repr

/-- The four audio output channels. -/
inductive Channel where
  | c1 | c2 | c3 | c4
  deriving DecidableEq, Repr

/-- Which end of the sample range a clip reached (R139). -/
inductive ClipEnd where
  | positive | negative
  deriving DecidableEq, Repr

/-- A clip's states, with the three removal causes RECORD_STATE reports as states (R160). -/
inductive ClipState where
  | armed | opened | closing | closed | abandoned | drained | discarded
  deriving DecidableEq, Repr

/-- Ring levels (R172). -/
inductive RingLevel where
  | low | ready | high
  deriving DecidableEq, Repr

/-- Why a marker beat raised STAMP_FAULT (R154). -/
inductive StampCause where
  | shape | length
  deriving DecidableEq, Repr

/-- The payload an event report carries (the payload table of R208). `raw` is the payload of RAISE EVENT (R202). -/
inductive EventPayload where
  | commandOverflow (code tag : Half)
  | commandPartial (position : Nat) (cause : PartialCause)
  | reportsDropped (kind : EventKind) (dropped : Nat)
  | memoryFault (lost : RecordKind)
  | windowStraddle (index : Nat) (tag : BitVec 4) (addr : Nat)
  | frameBeat (state : TrackerState) (capture : Option Half)
  | captureAbandoned (seq : Half) (buffer : Nat)
  | lensState (link : LinkState) (miss : Nat) (changed : Bool)
  | lensNotice (n : Notice)
  | linkCollision (k : SentKind)
  | engineDone (e : EngineId) (entered : EngineState)
  | enginePreempted (e : EngineId) (a : Axis) (removed : Option MoveKind)
  | engineMark (e : EngineId) (value : Nat)
  | gyroState (p : PortState)
  | stabLimit (seq : Half) (limitedX limitedY : Bool)
  | panState (a : ImageAxis) (p : PanState)
  | overlaySwapped (slot count : Nat) (frameCount : Half)
  | audioClip (c : Channel) (e : ClipEnd)
  | audioMisaligned (addr len condition : Nat)
  | avDrift (drift : Int) (count expected : Nat)
  | recordState (number : Nat) (state : ClipState) (start stop : Option Nat) (stamped dropped : Nat)
  | recordOverrun (offset charged : Nat)
  | ringLevel (level : RingLevel) (guarded : Nat)
  | stampFault (offset : Nat) (cause : StampCause)
  | raw (bytes : List Byte)
  deriving DecidableEq, Repr

/-- A report record before it takes a slot (R208). A completion of a SET WINDOW on entry 0 carries the window record that
replaces entry 0 when the completion is queued (R20). A STATUS report holds its items, the bytes from byte 4 on. -/
inductive Report where
  | completion (status : Status) (tag code : Half) (result : CommandResult) (moves : Option WindowRecord)
  | event (kind : EventKind) (count : Byte) (payload : EventPayload) (software : Bool)
  | status (block part parts : Nat) (tag : Half) (items : List Byte)
  deriving DecidableEq, Repr

/-- The command interface: the command queue, and the held reports, both oldest first. -/
structure CommandInterface where
  queue : List CommandRecord
  held : List Report
  deriving DecidableEq, Repr

/-- One entry of the event table (R199). -/
structure EventEntry where
  pending : Bool
  masked : Bool
  count : Byte
  deriving DecidableEq, Repr

/-- The states of a report slot that is not FREE (R194). -/
inductive SlotState where
  | queued | written
  deriving DecidableEq, Repr

/-- The waiting drop report (R197): the kind of the first report dropped, the dropped count, and the occurrence count of
its REPORTS_DROPPED occurrence. -/
structure DropReport where
  kind : EventKind
  dropped : Nat
  count : Byte
  deriving DecidableEq, Repr

/-- The report unit. `slots` lists the slots of the report ring that are not FREE, with slot numbers strictly rising; a
slot it does not list is FREE. `events` holds the entries of kinds 1 to 25 in kind order. `quietEnd` is the time the
quiet interval ends, absent while none runs. -/
structure ReportUnit where
  queue : List Report
  nextSlot : Nat
  lap : Bool
  slots : List (Nat × SlotState)
  lost : Bool
  drop : Option DropReport
  events : List EventEntry
  attn : Bool
  quietEnd : Option Nat
  deriving DecidableEq, Repr

/-! ### The frame tracker (02_frame_tracking_and_timecode) -/

/-- The eight frame rates (R30). -/
inductive FrameRate where
  | r23976 | r24 | r25 | r2997 | r30 | r50 | r5994 | r60
  deriving DecidableEq, Repr

/-- The timecode modes (R38). -/
inductive TimecodeMode where
  | freeRun | recRun
  deriving DecidableEq, Repr

/-- A timecode value (R35); the drop-frame flag is the frame tracker's one setting. -/
structure Timecode where
  hours : Nat
  minutes : Nat
  seconds : Nat
  frames : Nat
  deriving DecidableEq, Repr

/-- The states of a capture record (R25, R26). -/
inductive CaptureState where
  | filling | complete | abandoned
  deriving DecidableEq, Repr

/-- The lens snapshot of a capture record (R25). -/
structure LensSnapshot where
  zoom : Nat
  focus : Nat
  iris : Nat
  extender : Nat
  deriving DecidableEq, Repr

/-- A capture record (R25). -/
structure CaptureRecord where
  seq : Half
  buffer : Nat
  state : CaptureState
  dx : Int
  dy : Int
  limited : Bool
  lens : Option LensSnapshot
  focal : Nat
  link : LinkState
  timecode : Timecode
  dropFrame : Bool
  deriving DecidableEq, Repr

/-- The frame tracker. `history` is the frame history, oldest first; `lastMark` and `expiry` are times. -/
structure FrameTracker where
  history : List CaptureRecord
  nextSeq : Half
  tracker : TrackerState
  rate : FrameRate
  lastMark : Nat
  expiry : Nat
  timecode : Timecode
  dropFrame : Bool
  mode : TimecodeMode
  deriving DecidableEq, Repr

/-! ### The lens link controller (03_the_lens_link) -/

/-- A lens identity record (R44, 3.1.1). -/
structure Identity where
  name : List Byte
  zoomMin : Nat
  zoomMax : Nat
  focusMin : Nat
  focusMax : Nat
  irisMin : Nat
  irisMax : Nat
  focal : List Nat
  shiftX : Nat
  shiftY : Nat
  extender : Bool
  deriving DecidableEq, Repr

/-- A position record, as stored (R46). -/
structure Position where
  zoom : Nat
  focus : Nat
  iris : Nat
  fNumber : Nat
  shiftX : Int
  shiftY : Int
  extender : Nat
  rocker : Int
  wheel : Nat
  status : Byte
  deriving DecidableEq, Repr

/-- The provisional identity, and the time by which the POSITION completing the reply must have started (R51). -/
structure Provisional where
  identity : Identity
  deadline : Nat
  deriving DecidableEq, Repr

/-- A frame of the part's own. `cancels` counts its cancellations (R48); `live` says that it still belongs to the current
cycle or request, so that its completion opens a reply window (R54, R56). -/
structure TxFrame where
  kind : SentKind
  bytes : List Byte
  cancels : Nat
  live : Bool
  deriving DecidableEq, Repr

/-- An open reply window, from the end of its DEMAND to 2 ms later (R54). -/
structure ReplyWindow where
  opens : Nat
  closes : Nat
  deriving DecidableEq, Repr

/-- The frame under assembly: the time of its SYNC character's start bit, and the bytes collected after SYNC (R45). -/
structure Assembly where
  start : Nat
  bytes : List Byte
  deriving DecidableEq, Repr

/-- The lens link controller. `focal` is F in µm; `seek` is the seek timer's expiry, absent while it is stopped; `rx` is
absent while the receiver is hunting; `sentAt` is the time the frame being sent began, and `readBack` how many of its
characters the receiver has read (3.2). Of the line it holds `charStart`, the start bit of the character now on it that the
part is not sending; `lineLow`, set while the line has not returned high after a stop bit read low; and `lineSince`, the end
of the last stop bit seen, from which idle time and gaps count (R43, R45, R47). -/
structure LensLink where
  enable : Bool
  link : LinkState
  identity : Option Identity
  position : Option Position
  provisional : Option Provisional
  focal : Nat
  miss : Nat
  waiting : Option TxFrame
  sending : Option TxFrame
  sentAt : Nat
  window : Option ReplyWindow
  seek : Option Nat
  rx : Option Assembly
  charStart : Option Nat
  lineLow : Bool
  lineSince : Nat
  readBack : Nat
  deriving DecidableEq, Repr

/-! ### The axis controller and the move engines (04_axis_control_and_move_engines) -/

/-- The sources of an axis (R64). -/
inductive Source where
  | rocker | wheel | engine (e : EngineId) | direct | hold
  deriving DecidableEq, Repr

/-- An axis record (R64). -/
structure AxisRecord where
  source : Source
  demand : Nat
  direct : Nat
  deriving DecidableEq, Repr

/-- The axis controller: three axis records, the rocker and takeover settings, and the wheel reference (R64, R69, R70). -/
structure AxisController where
  zoom : AxisRecord
  focus : AxisRecord
  iris : AxisRecord
  deadband : Nat
  vmax : Nat
  trim : Nat
  zoomTakeover : Bool
  focusTakeover : Bool
  wheelThreshold : Nat
  wheelRef : Option Nat
  deriving DecidableEq, Repr

/-- Ramp shapes (R73). -/
inductive Shape where
  | linear | eased
  deriving DecidableEq, Repr

/-- A set of engines, bit 0 for engine 1 (11.6). -/
abbrev EngineSet := BitVec 3

/-- A move record (R73). -/
inductive Move where
  | ramp (target frames : Nat) (shape : Shape)
  | dwell (frames : Nat)
  | signal (set : EngineSet)
  | wait (set : EngineSet)
  | mark (value : Nat)
  deriving DecidableEq, Repr

/-- A move in progress with its progress (R73). -/
inductive InProgress where
  | ramp (start target frames : Nat) (shape : Shape) (k : Nat)
  | dwell (frames k : Nat)
  | wait (set : EngineSet)
  deriving DecidableEq, Repr

/-- An engine's mode (R73). -/
inductive EngineMode where
  | run | step
  deriving DecidableEq, Repr

/-- A move engine (R73). -/
structure Engine where
  queue : List Move
  mode : EngineMode
  state : EngineState
  move : Option InProgress
  output : Nat
  received : EngineSet
  deriving DecidableEq, Repr

/-- The three move engines. -/
structure MoveEngines where
  e1 : Engine
  e2 : Engine
  e3 : Engine
  deriving DecidableEq, Repr

/-! ### The gyro port and the stabiliser (05_the_stabiliser) -/

/-- Clock polarity (R86). -/
inductive ClockPolarity where
  | idleLow | idleHigh
  deriving DecidableEq, Repr

/-- Clock phase (R86). -/
inductive ClockPhase where
  | leading | trailing
  deriving DecidableEq, Repr

/-- The port setup (R86). -/
structure PortSetup where
  clockKHz : Nat
  polarity : ClockPolarity
  phase : ClockPhase
  sampleRate : Nat
  command : Byte
  validMask : Byte
  validValue : Byte
  deriving DecidableEq, Repr

/-- The gyro port (5.1). `last` is the last good sample, yaw then pitch; `timer` is the sample timer's expiry, absent while
it is stopped. -/
structure GyroPort where
  setup : PortSetup
  state : PortState
  last : Option (Int × Int)
  badRun : Nat
  goodRun : Nat
  timer : Option Nat
  transaction : Bool
  deriving DecidableEq, Repr

/-- The settings of one stabiliser axis (5.2); `negative` is polarity −1. -/
structure StabSettings where
  gain : Nat
  negative : Bool
  leakSteady : Nat
  leakPan : Nat
  panThreshold : Nat
  panEnter : Nat
  panExit : Nat
  deriving DecidableEq, Repr

/-- One stabiliser axis (5.2). -/
structure StabAxis where
  settings : StabSettings
  bias : Int
  acc : Int
  pan : PanState
  panRun : Nat
  corr16 : Int
  o16 : Int
  a16 : Int
  e16 : Int
  deriving DecidableEq, Repr

/-- The stabiliser's modes (R96). -/
inductive StabMode where
  | off | electronic | hybrid
  deriving DecidableEq, Repr

/-- A bias capture in progress (5.2). -/
structure BiasCapture where
  count : Nat
  sumX : Int
  sumY : Int
  tag : Half
  deriving DecidableEq, Repr

/-- The stabiliser (5.2). -/
structure Stabiliser where
  x : StabAxis
  y : StabAxis
  pixelPitch : Nat
  optical : Bool
  mode : StabMode
  limited : Bool
  capture : Option BiasCapture
  deriving DecidableEq, Repr

/-! ### The overlay unit (06_viewfinder_overlay) -/

/-- Text sources (R114); STATIC carries its glyph codes. -/
inductive TextSource where
  | static (codes : List Nat) | timecode | focal | iris | zoom | clip
  deriving DecidableEq, Repr

/-- Bar sources (R115). -/
inductive BarSource where
  | audio (c : Channel) | zoom | focus | ringFill
  deriving DecidableEq, Repr

/-- An element's kind with the fields that kind uses (R112). -/
inductive ElementKind where
  | box (t : Nat)
  | cross (t : Nat)
  | text (source : TextSource) (scale : Nat)
  | bar (source : BarSource)
  | tally
  deriving DecidableEq, Repr

/-- Visibility conditions (R116). -/
inductive Visibility where
  | always | recording | standby | overrun | lensLost | stabLimit | audioOver | avDrift
  deriving DecidableEq, Repr

/-- An element record (R112). `detail` and `scale` are its two nibbles and `text` its text bytes as OVERLAY ELEMENT named
them: the kind's own fields stand in `kind`, and those the kind does not use are stored here and have no effect. -/
structure Element where
  kind : ElementKind
  x : Nat
  y : Nat
  w : Nat
  h : Nat
  palette : Nat
  visibility : Visibility
  blink : Bool
  detail : Nat
  scale : Nat
  text : List Byte
  deriving DecidableEq, Repr

/-- The states of an element-list slot (R118). -/
inductive OverlayState where
  | shown | edit | pending | free
  deriving DecidableEq, Repr

/-- An element-list slot (R118). -/
structure OverlaySlot where
  state : OverlayState
  list : List Element
  deriving DecidableEq, Repr

/-- A palette colour (R126). -/
structure Colour where
  luma : Byte
  cb : Byte
  cr : Byte
  deriving DecidableEq, Repr

/-- Zebra modes (R125). -/
inductive ZebraMode where
  | off | above | band
  deriving DecidableEq, Repr

/-- The zebra setting (R125). -/
structure Zebra where
  mode : ZebraMode
  level : Byte
  low : Byte
  high : Byte
  luma : Byte
  deriving DecidableEq, Repr

/-- The condition values of a snapshot (R111, R116). -/
structure Conditions where
  recording : Bool
  standby : Bool
  overrun : Bool
  lensLost : Bool
  stabLimit : Bool
  audioOver : Bool
  avDrift : Bool
  deriving DecidableEq, Repr

/-- One value for each audio output channel. -/
structure PerChannel (α : Type) where
  c1 : α
  c2 : α
  c3 : α
  c4 : α
  deriving DecidableEq, Repr

/-- The displayed and the held segment of one meter (R111). -/
structure MeterView where
  displayed : Nat
  held : Nat
  deriving DecidableEq, Repr

/-- The lens values of a snapshot (R111). -/
structure LensView where
  fNumber : Nat
  zoom : Nat
  focus : Nat
  deriving DecidableEq, Repr

/-- The live snapshot (R111). `ring` holds G and the ring size, absent with no RECORD window. -/
structure Snapshot where
  count : Half
  palette : List Colour
  zebra : Zebra
  conditions : Conditions
  timecode : Timecode
  dropFrame : Bool
  focal : Nat
  lens : Option LensView
  zoomMin : Nat
  zoomMax : Nat
  focusMin : Nat
  focusMax : Nat
  clip : Option Nat
  meters : PerChannel MeterView
  ring : Option (Nat × Nat)
  deriving DecidableEq, Repr

/-- The overlay unit. -/
structure Overlay where
  s0 : OverlaySlot
  s1 : OverlaySlot
  s2 : OverlaySlot
  palette : List Colour
  zebra : Zebra
  frameCount : Half
  snapshot : Snapshot
  overrunHold : Nat
  clipHold : Nat
  deriving DecidableEq, Repr

/-! ### The audio unit (07_audio_conditioning) -/

/-- A route entry (R134); an absent gain is MUTE. -/
structure Route where
  source : Channel
  gain : Option Int
  limiter : Bool
  deriving DecidableEq, Repr

/-- One output channel: its route entry, its limiter gain r and its meter. -/
structure AudioOutput where
  route : Route
  r : Nat
  peak : Nat
  clip : Bool
  displayed : Nat
  decay : Nat
  held : Nat
  hold : Nat
  deriving DecidableEq, Repr

/-- The cadence check's states (R146). -/
inductive CadenceState where
  | waiting | running
  deriving DecidableEq, Repr

/-- The audio unit. -/
structure AudioUnit where
  outputs : PerChannel AudioOutput
  threshold : Nat
  release : Nat
  decayInterval : Nat
  holdTime : Nat
  tolerance : Nat
  cadence : CadenceState
  count : Nat
  phase : Nat
  drift : Int
  driftFlag : Bool
  deriving DecidableEq, Repr

/-! ### The record tracker (08_the_record_ring_and_clips) -/

/-- A clip record (R160). -/
structure Clip where
  number : Nat
  state : ClipState
  start : Option Nat
  stop : Option Nat
  stopSeq : Option Half
  chainSeq : Option Half
  stamped : Nat
  dropped : Nat
  deriving DecidableEq, Repr

/-- A frame index entry (R157). -/
structure IndexEntry where
  start : Nat
  seq : Option Half
  randomAccess : Bool
  beforeBoundary : Bool
  deriving DecidableEq, Repr

/-- The record tracker. `drain` is D and `guarded` is G; `episode` holds the ring offset of the running suppression
episode's first held-back write. The ring setup stands in the RECORD window's role parameters (R151). -/
structure RecordTracker where
  writeEnd : Option Nat
  drain : Option Nat
  guarded : Nat
  level : RingLevel
  index : List IndexEntry
  clips : List Clip
  nextClip : Nat
  episode : Option Nat
  timecode : Timecode
  deriving DecidableEq, Repr

/-! ### The metadata writer (09_frame_metadata) -/

/-- A composed record that has no slot yet (R183). -/
structure WaitingMetadata where
  mark : Half
  bytes : List Byte
  deriving DecidableEq, Repr

/-- The metadata writer. -/
structure MetadataWriter where
  cursor : Nat
  mark : Half
  waiting : Option WaitingMetadata
  deriving DecidableEq, Repr

/-! ### The whole part -/

/-- The strap values sampled at the last pin reset (R17, R62). -/
structure Straps where
  cws : BitVec 3
  lensEn : Bool
  deriving DecidableEq, Repr

/-- The state of the part. `now` is the MODEL's own clock, in eighths of a REFCLK count since RESET_N went high (log entry
2), and `pending` the MODEL's own queue of the steps that are to be taken, first in first out. -/
structure State where
  now : Nat
  straps : Straps
  path : PathUnit
  command : CommandInterface
  report : ReportUnit
  frame : FrameTracker
  lens : LensLink
  axis : AxisController
  engines : MoveEngines
  gyro : GyroPort
  stab : Stabiliser
  overlay : Overlay
  audio : AudioUnit
  record : RecordTracker
  metadata : MetadataWriter
  pending : List Instr
  deriving DecidableEq, Repr

/-- Why the machine stops. -/
inductive Fault where
  /-- Raised by READ_RETURN, FORWARDED_WRITE_RESPONSE and INJECTED_WRITE_RESPONSE when the memory-side port carries no request
  of that kind, when DRAM returns no beat of a read, or more than the read's, and when it answers ERROR after beats of the
  same read. DRAM answers each request with its data or with ERROR (R8, R16), so the spec gives such an answer no effect. Safe: the model stops where it says nothing (log entry 7). -/
  | unsolicitedAnswer
  deriving DecidableEq, Repr

/-- Why a step has no meaning. -/
inductive Refusal where
  /-- A row of the table without a meaning yet; raised by no arm of this model. Safe. -/
  | notModelled (mnemonic : String)
  /-- Raised by `exec` for operands that are not well-formed (`Instr.wellFormed`): a burst that is not aligned to 8 bytes or
  is not 1 to 16 beats long, which no request on the links is (R1). Safe. -/
  | malformed
  deriving DecidableEq, Repr

/-! ### Pin reset -/

/-- Entry 0 after pin reset (R17): a 64 KiB COMMAND window at the strapped base, its writer set all tags 0 to 14. -/
def commandWindowAtReset (cws : BitVec 3) : WindowRecord :=
  { role := .command, base := 0x3FF00000 + cws.toNat * 0x10000, sizeExp := 16, enabled := true,
    sets := [0x7FFF], params := .absent }

/-- The path unit after pin reset (R17). R17 drops the bursts that were accepted or queued and says nothing of a request that
still waits on the upstream link; here it is dropped with them (DESIGN CHOICE, log entry 33). -/
def PathUnit.reset (cws : BitVec 3) : PathUnit :=
  { windows := some (commandWindowAtReset cws) :: List.replicate 15 none
    passQueue := [], injected := [], arbiterCount := 0, waiting := [], atMemory := none, beatsBack := [], responses := []
    returned := none, nextId := 0 }

/-- The report unit after pin reset (R205). No ring exists; its next slot and lap are the ones a placed ring starts with
(R194). -/
def ReportUnit.reset : ReportUnit :=
  { queue := [], nextSlot := 0, lap := true, slots := [], lost := false, drop := none
    events := List.replicate 25 { pending := false, masked := true, count := 0 }
    attn := false, quietEnd := none }

/-- Midnight, 00:00:00:00. -/
def Timecode.zero : Timecode := { hours := 0, minutes := 0, seconds := 0, frames := 0 }

/-- The frame tracker after pin reset (R41): the expiry is 40 ms, 1,080,000 REFCLK counts, after RESET_N goes high. -/
def FrameTracker.reset : FrameTracker :=
  { history := [], nextSeq := 0, tracker := .freeWheel, rate := .r25, lastMark := 0, expiry := 8 * 1080000
    timecode := .zero, dropFrame := false, mode := .freeRun }

/-- The lens link controller after pin reset (R62). -/
def LensLink.reset (lensEn : Bool) : LensLink :=
  { enable := lensEn, link := if lensEn then .seeking else .absent
    identity := none, position := none, provisional := none, focal := 0, miss := 0
    waiting := none, sending := none, sentAt := 0, window := none
    seek := if lensEn then some 0 else none, rx := none, charStart := none, lineLow := false, lineSince := 0
    readBack := 0 }

/-- The axis controller after pin reset (R84). -/
def AxisController.reset : AxisController :=
  { zoom := { source := .rocker, demand := 0, direct := 0 }
    focus := { source := .wheel, demand := 0, direct := 0 }
    iris := { source := .hold, demand := 0, direct := 0 }
    deadband := 8, vmax := 1024, trim := 256
    zoomTakeover := true, focusTakeover := true, wheelThreshold := 256, wheelRef := none }

/-- A move engine after pin reset (R84). -/
def Engine.reset : Engine :=
  { queue := [], mode := .run, state := .idle, move := none, output := 0, received := 0 }

/-- The gyro port after pin reset (R106). -/
def GyroPort.reset : GyroPort :=
  { setup := { clockKHz := 1000, polarity := .idleLow, phase := .leading, sampleRate := 1000, command := 0
               validMask := 0, validValue := 0 }
    state := .unconfigured, last := none, badRun := 0, goodRun := 0, timer := none, transaction := false }

/-- One stabiliser axis after pin reset (R106). -/
def StabAxis.reset : StabAxis :=
  { settings := { gain := 1, negative := false, leakSteady := 64, leakPan := 1024, panThreshold := 2000
                  panEnter := 50, panExit := 100 }
    bias := 0, acc := 0, pan := .steady, panRun := 0, corr16 := 0, o16 := 0, a16 := 0, e16 := 0 }

/-- The stabiliser after pin reset (R106). -/
def Stabiliser.reset : Stabiliser :=
  { x := .reset, y := .reset, pixelPitch := 5000, optical := false, mode := .off, limited := false, capture := none }

/-- The default palette (R126). -/
def defaultPalette : List Colour :=
  [⟨235, 128, 128⟩, ⟨16, 128, 128⟩, ⟨81, 90, 240⟩, ⟨145, 54, 34⟩,
   ⟨210, 16, 146⟩, ⟨170, 166, 16⟩, ⟨126, 128, 128⟩, ⟨160, 44, 180⟩]

/-- The same value for every channel. -/
def PerChannel.all {α : Type} (a : α) : PerChannel α := ⟨a, a, a, a⟩

/-- The zebra setting after pin reset (R129). -/
def Zebra.reset : Zebra := { mode := .off, level := 230, low := 180, high := 200, luma := 16 }

/-- The live snapshot after pin reset (R129): the default palette, zebra OFF, count 0, no condition but ALWAYS holding. Its
other items are not stated; they stand as the blocks' own reset values give them (DESIGN CHOICE, log entry 5). -/
def Snapshot.reset : Snapshot :=
  { count := 0, palette := defaultPalette, zebra := .reset
    conditions := ⟨false, false, false, false, false, false, false⟩
    timecode := .zero, dropFrame := false, focal := 0, lens := none
    zoomMin := 0, zoomMax := 65535, focusMin := 0, focusMax := 65535, clip := none
    meters := .all ⟨0, 0⟩, ring := none }

/-- The overlay unit after pin reset (R129). -/
def Overlay.reset : Overlay :=
  { s0 := ⟨.shown, []⟩, s1 := ⟨.edit, []⟩, s2 := ⟨.free, []⟩
    palette := defaultPalette, zebra := .reset, frameCount := 0, snapshot := .reset
    overrunHold := 0, clipHold := 0 }

/-- An output channel after pin reset (R149): input `c` at 0 steps with the limiter off. -/
def AudioOutput.reset (c : Channel) : AudioOutput :=
  { route := { source := c, gain := some 0, limiter := false }
    r := 16384, peak := 0, clip := false, displayed := 0, decay := 0, held := 0, hold := 0 }

/-- The audio unit after pin reset (R149). -/
def AudioUnit.reset : AudioUnit :=
  { outputs := ⟨.reset .c1, .reset .c2, .reset .c3, .reset .c4⟩
    threshold := 7476000, release := 8, decayInterval := 3, holdTime := 50, tolerance := 48
    cadence := .waiting, count := 0, phase := 0, drift := 0, driftFlag := false }

/-- The record tracker after pin reset (R176). -/
def RecordTracker.reset : RecordTracker :=
  { writeEnd := none, drain := none, guarded := 0, level := .low, index := [], clips := [], nextClip := 1
    episode := none, timecode := .zero }

/-- The metadata writer after pin reset (R186). -/
def MetadataWriter.reset : MetadataWriter := { cursor := 0, mark := 0, waiting := none }

/-- The part right after a pin reset with the given strap levels (R17, R41, R62, R84, R106, R129, R149, R176, R186, R205).
The model's clock starts anew, since every time is measured from RESET_N going high. -/
def State.atPinReset (cws : BitVec 3) (lensEn : Bool) : State :=
  { now := 0, straps := { cws := cws, lensEn := lensEn }
    path := .reset cws, command := { queue := [], held := [] }, report := .reset, frame := .reset
    lens := .reset lensEn, axis := .reset, engines := ⟨.reset, .reset, .reset⟩, gyro := .reset
    stab := .reset, overlay := .reset, audio := .reset, record := .reset, metadata := .reset, pending := [] }

/-- The machine right after reset. The straps are board inputs; here both are low, CWS 0 and LENS_EN low (DESIGN CHOICE,
log entry 3). PIN_RESET takes any strap levels. -/
def State.reset : State := .atPinReset 0 false

end Sys2Proof.Machine
end

