-- ==== Sys2Proof/Machine/Ops.lean ====
section
/-! DEFINITION. Arithmetic words (00_scope 3.3), byte encodings (00_scope 3.2, 11 opening), modular sequence numbers, the
model's clock, and the small lookups every block uses. -/

namespace Sys2Proof.Machine

/-! ### Arithmetic words (00_scope 3.3) -/

/-- `a / b` rounded to nearest, halves away from zero; `b` is positive. -/
def roundDiv (a : Int) (b : Nat) : Int :=
  if a < 0 then -(((2 * a.natAbs + b) / (2 * b) : Nat) : Int) else (((2 * a.natAbs + b) / (2 * b) : Nat) : Int)

/-- `a / b` truncated toward zero; `b` is positive. -/
def truncDiv (a : Int) (b : Nat) : Int :=
  if a < 0 then -((a.natAbs / b : Nat) : Int) else ((a.natAbs / b : Nat) : Int)

/-- A value brought into `lo` to `hi`. -/
def clampNat (lo hi v : Nat) : Nat := max lo (min hi v)

/-- A value brought into `lo` to `hi`. -/
def clampInt (lo hi v : Int) : Int := max lo (min hi v)

/-- The distance between two naturals. -/
def absDiff (a b : Nat) : Nat := (a - b) + (b - a)

/-! ### Little-endian bytes (00_scope 3.2) -/

/-- The low `n` bytes of `v`, least significant first. -/
def leNat : Nat → Nat → List Byte
  | 0, _ => []
  | n + 1, v => BitVec.ofNat 8 v :: leNat n (v / 256)

/-- The low `n` bytes of `v` in two's complement, least significant first. -/
def leInt (n : Nat) (v : Int) : List Byte := leNat n (v % ((256 ^ n : Nat) : Int)).toNat

/-- The unsigned value of little-endian bytes. -/
def ofLe : List Byte → Nat
  | [] => 0
  | b :: bs => b.toNat + 256 * ofLe bs

/-- The two's complement value of a `bits`-wide unsigned value. -/
def signed (bits v : Nat) : Int := if v < 2 ^ (bits - 1) then (v : Int) else (v : Int) - ((2 ^ bits : Nat) : Int)

/-- A flag byte: 0 for no, 1 for yes (11 opening). -/
def flagByte (b : Bool) : Byte := if b then 1 else 0

/-- `n` bytes of all ones: an absent value of an `n`-byte field (R208). -/
def ones (n : Nat) : List Byte := List.replicate n 255

/-- `n` bytes of 0. -/
def zeros (n : Nat) : List Byte := List.replicate n 0

/-- A record of exactly `n` bytes: bytes that a layout does not name are written 0 (R208). -/
def padTo (n : Nat) (bs : List Byte) : List Byte := (bs ++ zeros n).take n

/-- The unsigned value of the `n` bytes from byte `at` on. -/
def field (bs : List Byte) (pos n : Nat) : Nat := ofLe ((bs.drop pos).take n)

/-- The 8 bytes of a beat in address order. -/
def beatBytes (d : BeatData) : List Byte := leNat 8 d.toNat

/-- A beat of 8 bytes in address order. -/
def beatOfBytes (bs : List Byte) : BeatData := BitVec.ofNat 64 (ofLe bs)

/-- A record of bytes cut into beats of 8 (R15). -/
def beatsOfBytes : Nat → List Byte → List BeatData
  | 0, _ => []
  | n + 1, bs => beatOfBytes (bs.take 8) :: beatsOfBytes n (bs.drop 8)

/-! ### Sequence numbers (00_scope 3.3) -/

/-- The forward distance from sequence `a` to sequence `b`, modulo 65,536. -/
def forwardSeq (a b : Half) : Nat := (b - a).toNat

/-- `s` is later than `x`: at a forward distance of 1 to 32,767. -/
def laterThan (s x : Half) : Bool := 1 ≤ forwardSeq x s && forwardSeq x s ≤ 32767

/-- `s` lies at or before `x`: the forward distance from `s` to `x` is 0 to 32,767 (R162). -/
def atOrBefore (s x : Half) : Bool := forwardSeq s x ≤ 32767

/-! ### Time (log entry 2)

Times are in eighths of a REFCLK count, so that a bit time of the lens link, 1/115,200 s or 234.375 counts, is a whole
number. -/

/-- `n` REFCLK counts (27 MHz). -/
def refclk (n : Nat) : Nat := 8 * n

/-- One bit time of the lens link, 1/115,200 s (R43). -/
def bitTime : Nat := 1875

/-- One byte time: the 11 bit times of a character (R43). -/
def byteTime : Nat := 11 * bitTime

/-- 2 ms (R51, R54). -/
def twoMs : Nat := refclk 54000

/-- 100 ms, the seek timer's interval (R50). -/
def seekInterval : Nat := refclk 2700000

/-- 540 REFCLK counts, the quiet interval (R204). -/
def quietInterval : Nat := refclk 540

/-- The clock stands at `t` or later: a step that the passage of time brings is taken at its own time (log entry 2). -/
def reachTime (t : Nat) (s : State) : State := { s with now := max s.now t }

/-- One REFCLK count passes (log entry 2). -/
def tick (s : State) : State := { s with now := s.now + refclk 1 }

/-! ### Per-channel, per-engine and per-axis values -/

/-- The value of one channel. -/
def PerChannel.get {α : Type} (p : PerChannel α) : Channel → α
  | .c1 => p.c1
  | .c2 => p.c2
  | .c3 => p.c3
  | .c4 => p.c4

/-- The value of one channel replaced. -/
def PerChannel.set {α : Type} (p : PerChannel α) : Channel → α → PerChannel α
  | .c1, a => { p with c1 := a }
  | .c2, a => { p with c2 := a }
  | .c3, a => { p with c3 := a }
  | .c4, a => { p with c4 := a }

/-- Every channel's value changed by `f`. -/
def PerChannel.map {α β : Type} (f : α → β) (p : PerChannel α) : PerChannel β := ⟨f p.c1, f p.c2, f p.c3, f p.c4⟩

/-- The values of channels 1 to 4. -/
def PerChannel.toList {α : Type} (p : PerChannel α) : List α := [p.c1, p.c2, p.c3, p.c4]

/-- The number of a channel, 1 to 4. -/
def Channel.number : Channel → Nat
  | .c1 => 1
  | .c2 => 2
  | .c3 => 3
  | .c4 => 4

/-- The number of an engine, 1 to 3. -/
def EngineId.number : EngineId → Nat
  | .e1 => 1
  | .e2 => 2
  | .e3 => 3

/-- The set of one engine (11.6). -/
def EngineId.bit : EngineId → EngineSet
  | .e1 => 1
  | .e2 => 2
  | .e3 => 4

/-- The engine of an identifier. -/
def MoveEngines.get (m : MoveEngines) : EngineId → Engine
  | .e1 => m.e1
  | .e2 => m.e2
  | .e3 => m.e3

/-- One engine replaced. -/
def MoveEngines.set (m : MoveEngines) : EngineId → Engine → MoveEngines
  | .e1, e => { m with e1 := e }
  | .e2, e => { m with e2 := e }
  | .e3, e => { m with e3 := e }

/-- The axis record of an axis. -/
def AxisController.get (c : AxisController) : Axis → AxisRecord
  | .zoom => c.zoom
  | .focus => c.focus
  | .iris => c.iris

/-- One axis record replaced. -/
def AxisController.set (c : AxisController) : Axis → AxisRecord → AxisController
  | .zoom, r => { c with zoom := r }
  | .focus, r => { c with focus := r }
  | .iris, r => { c with iris := r }

/-! ### Windows (1.2) -/

/-- The size of a window in bytes (R207). -/
def WindowRecord.size (w : WindowRecord) : Nat := 2 ^ w.sizeExp

/-- The byte address lies in the window's range (R3). -/
def WindowRecord.holds (w : WindowRecord) (a : Nat) : Bool := w.base ≤ a && a < w.base + w.size

/-- The window of a role, with its index: the enabled entry holding that role (R3). -/
def roleWindow (role : Role) : List (Option WindowRecord) → Nat → Option (Nat × WindowRecord)
  | [], _ => none
  | none :: ws, i => roleWindow role ws (i + 1)
  | some w :: ws, i => if w.enabled && w.role == role then some (i, w) else roleWindow role ws (i + 1)

/-- The window of a role in the table as it stands. -/
def State.window (s : State) (role : Role) : Option WindowRecord := (roleWindow role s.path.windows 0).map Prod.snd

/-- The geometry in use: that of the FRAME window (R22). -/
def State.geometry (s : State) : Option (Nat × Geometry) :=
  match s.window .frame with
  | some w => match w.params with
    | .frame g => some (w.base, g)
    | _ => none
  | none => none

/-- The ring setup in use and the ring size: those of the RECORD window (R151). -/
def State.ring (s : State) : Option (Nat × RingSetup) :=
  match s.window .record with
  | some w => match w.params with
    | .record r => some (w.size, r)
    | _ => none
  | none => none

/-- The ring size, 0 with no RECORD window. -/
def State.ringSize (s : State) : Nat :=
  match s.ring with
  | some (size, _) => size
  | none => 0

/-- The link is ONLINE or DEGRADED. -/
def LinkState.up : LinkState → Bool
  | .online => true
  | .degraded => true
  | _ => false

end Sys2Proof.Machine
end

