-- ==== Sys2Proof/Machine/Codes.lean ====
section
/-! DEFINITION. The value codes of 11.6, both ways: what a code names, and the code a value is written as. -/

namespace Sys2Proof.Machine

/-- The number of an event kind, 1 to 25 (R199). -/
def EventKind.number : EventKind → Nat
  | .commandOverflow => 1
  | .commandPartial => 2
  | .reportsDropped => 3
  | .memoryFault => 4
  | .windowStraddle => 5
  | .frameBeat => 6
  | .captureAbandoned => 7
  | .lensState => 8
  | .lensNotice => 9
  | .linkCollision => 10
  | .engineDone => 11
  | .enginePreempted => 12
  | .engineMark => 13
  | .gyroState => 14
  | .stabLimit => 15
  | .panState => 16
  | .overlaySwapped => 17
  | .audioClip => 18
  | .audioMisaligned => 19
  | .avDrift => 20
  | .recordState => 21
  | .recordOverrun => 22
  | .ringLevel => 23
  | .stampFault => 24
  | .software => 25

/-- The kinds in kind order (R199). -/
def EventKind.all : List EventKind :=
  [.commandOverflow, .commandPartial, .reportsDropped, .memoryFault, .windowStraddle, .frameBeat, .captureAbandoned,
   .lensState, .lensNotice, .linkCollision, .engineDone, .enginePreempted, .engineMark, .gyroState, .stabLimit,
   .panState, .overlaySwapped, .audioClip, .audioMisaligned, .avDrift, .recordState, .recordOverrun, .ringLevel,
   .stampFault, .software]

/-- The kind of a number; absent outside 1 to 25. -/
def EventKind.ofNumber (n : Nat) : Option EventKind := if n = 0 then none else EventKind.all[n - 1]?

/-- Role codes. -/
def Role.code : Role → Nat
  | .command => 1
  | .report => 2
  | .frame => 3
  | .record => 4
  | .audio => 5
  | .metadata => 6
  | .pass => 7

/-- The role of a code. -/
def Role.ofCode : Nat → Option Role
  | 1 => some .command
  | 2 => some .report
  | 3 => some .frame
  | 4 => some .record
  | 5 => some .audio
  | 6 => some .metadata
  | 7 => some .pass
  | _ => none

/-- Frame rate codes. -/
def FrameRate.code : FrameRate → Nat
  | .r23976 => 1
  | .r24 => 2
  | .r25 => 3
  | .r2997 => 4
  | .r30 => 5
  | .r50 => 6
  | .r5994 => 7
  | .r60 => 8

/-- The frame rate of a code. -/
def FrameRate.ofCode : Nat → Option FrameRate
  | 1 => some .r23976
  | 2 => some .r24
  | 3 => some .r25
  | 4 => some .r2997
  | 5 => some .r30
  | 6 => some .r50
  | 7 => some .r5994
  | 8 => some .r60
  | _ => none

/-- Tracker state codes; LOCKED is also the mark kind CAPTURE's code and FREE-WHEEL the mark kind SUBSTITUTE's. -/
def TrackerState.code : TrackerState → Nat
  | .locked => 1
  | .freeWheel => 2

/-- Timecode mode codes. -/
def TimecodeMode.code : TimecodeMode → Nat
  | .freeRun => 1
  | .recRun => 2

/-- The timecode mode of a code. -/
def TimecodeMode.ofCode : Nat → Option TimecodeMode
  | 1 => some .freeRun
  | 2 => some .recRun
  | _ => none

/-- Capture state codes (R208, frame tracker part 2). -/
def CaptureState.code : CaptureState → Nat
  | .filling => 1
  | .complete => 2
  | .abandoned => 3

/-- Link state codes. -/
def LinkState.code : LinkState → Nat
  | .absent => 1
  | .seeking => 2
  | .online => 3
  | .degraded => 4

/-- Notice codes (11.5). -/
def Notice.code : Notice → Nat
  | .recordButton => 1
  | .returnButton => 2
  | .extenderChanged => 3

/-- The notice of a code. -/
def Notice.ofCode : Nat → Option Notice
  | 1 => some .recordButton
  | 2 => some .returnButton
  | 3 => some .extenderChanged
  | _ => none

/-- Frame type codes of the frames the part sends (11.5). -/
def SentKind.code : SentKind → Nat
  | .demand => 0x10
  | .identifyRequest => 0x11

/-- Axis codes. -/
def Axis.code : Axis → Nat
  | .zoom => 1
  | .focus => 2
  | .iris => 3

/-- The axis of a code. -/
def Axis.ofCode : Nat → Option Axis
  | 1 => some .zoom
  | 2 => some .focus
  | 3 => some .iris
  | _ => none

/-- The engine of a number. -/
def EngineId.ofNumber : Nat → Option EngineId
  | 1 => some .e1
  | 2 => some .e2
  | 3 => some .e3
  | _ => none

/-- Source codes. -/
def Source.code : Source → Nat
  | .rocker => 1
  | .wheel => 2
  | .engine e => 2 + e.number
  | .direct => 6
  | .hold => 7

/-- The source of a code. -/
def Source.ofCode : Nat → Option Source
  | 1 => some .rocker
  | 2 => some .wheel
  | 3 => some (.engine .e1)
  | 4 => some (.engine .e2)
  | 5 => some (.engine .e3)
  | 6 => some .direct
  | 7 => some .hold
  | _ => none

/-- Move kind codes. -/
def MoveKind.code : MoveKind → Nat
  | .ramp => 1
  | .dwell => 2
  | .signal => 3
  | .wait => 4
  | .mark => 5

/-- Shape codes. -/
def Shape.code : Shape → Nat
  | .linear => 1
  | .eased => 2

/-- The shape of a code. -/
def Shape.ofCode : Nat → Option Shape
  | 1 => some .linear
  | 2 => some .eased
  | _ => none

/-- Engine mode codes. -/
def EngineMode.code : EngineMode → Nat
  | .run => 1
  | .step => 2

/-- Engine state codes. -/
def EngineState.code : EngineState → Nat
  | .idle => 1
  | .held => 2
  | .ramping => 3
  | .dwelling => 4
  | .waiting => 5

/-- Clock polarity codes. -/
def ClockPolarity.code : ClockPolarity → Nat
  | .idleLow => 1
  | .idleHigh => 2

/-- The clock polarity of a code. -/
def ClockPolarity.ofCode : Nat → Option ClockPolarity
  | 1 => some .idleLow
  | 2 => some .idleHigh
  | _ => none

/-- Clock phase codes. -/
def ClockPhase.code : ClockPhase → Nat
  | .leading => 1
  | .trailing => 2

/-- The clock phase of a code. -/
def ClockPhase.ofCode : Nat → Option ClockPhase
  | 1 => some .leading
  | 2 => some .trailing
  | _ => none

/-- Port state codes. -/
def PortState.code : PortState → Nat
  | .unconfigured => 1
  | .running => 2
  | .failed => 3

/-- Stabiliser mode codes. -/
def StabMode.code : StabMode → Nat
  | .off => 1
  | .electronic => 2
  | .hybrid => 3

/-- The stabiliser mode of a code. -/
def StabMode.ofCode : Nat → Option StabMode
  | 1 => some .off
  | 2 => some .electronic
  | 3 => some .hybrid
  | _ => none

/-- Pan state codes. -/
def PanState.code : PanState → Nat
  | .steady => 1
  | .panning => 2

/-- Image axis codes in PAN_STATE (R208). -/
def ImageAxis.code : ImageAxis → Nat
  | .x => 1
  | .y => 2

/-- The visibility condition of a code. -/
def Visibility.ofCode : Nat → Option Visibility
  | 1 => some .always
  | 2 => some .recording
  | 3 => some .standby
  | 4 => some .overrun
  | 5 => some .lensLost
  | 6 => some .stabLimit
  | 7 => some .audioOver
  | 8 => some .avDrift
  | _ => none

/-- The bar source of a code. -/
def BarSource.ofCode : Nat → Option BarSource
  | 1 => some (.audio .c1)
  | 2 => some (.audio .c2)
  | 3 => some (.audio .c3)
  | 4 => some (.audio .c4)
  | 5 => some .zoom
  | 6 => some .focus
  | 7 => some .ringFill
  | _ => none

/-- Zebra mode codes. -/
def ZebraMode.code : ZebraMode → Nat
  | .off => 1
  | .above => 2
  | .band => 3

/-- The zebra mode of a code. -/
def ZebraMode.ofCode : Nat → Option ZebraMode
  | 1 => some .off
  | 2 => some .above
  | 3 => some .band
  | _ => none

/-- Slot state codes. -/
def OverlayState.code : OverlayState → Nat
  | .shown => 1
  | .edit => 2
  | .pending => 3
  | .free => 4

/-- Flag byte mode codes. -/
def FlagByteMode.code : FlagByteMode → Nat
  | .clear => 1
  | .keep => 2

/-- The flag byte mode of a code. -/
def FlagByteMode.ofCode : Nat → Option FlagByteMode
  | 1 => some .clear
  | 2 => some .keep
  | _ => none

/-- The channel of a number. -/
def Channel.ofNumber : Nat → Option Channel
  | 1 => some .c1
  | 2 => some .c2
  | 3 => some .c3
  | 4 => some .c4
  | _ => none

/-- Clip state or cause codes. -/
def ClipState.code : ClipState → Nat
  | .armed => 1
  | .opened => 2
  | .closing => 3
  | .closed => 4
  | .abandoned => 5
  | .drained => 6
  | .discarded => 7

/-- Ring level codes. -/
def RingLevel.code : RingLevel → Nat
  | .low => 1
  | .ready => 2
  | .high => 3

/-- Cadence state codes (R208, audio unit part 4). -/
def CadenceState.code : CadenceState → Nat
  | .waiting => 1
  | .running => 2

/-- Completion status codes. -/
def Status.code : Status → Nat
  | .done => 0
  | .clamped => 1
  | .refusedUnknown => 2
  | .refusedState => 3
  | .refusedRange => 4
  | .refusedFull => 5
  | .refusedBusy => 6
  | .aborted => 7

/-- The lost record kind in MEMORY_FAULT (R208); the first three are also the kind bits of byte 0. -/
def RecordKind.code : RecordKind → Nat
  | .completion => 1
  | .event => 2
  | .status => 3
  | .metadata => 4

/-- STAMP_FAULT causes. -/
def StampCause.code : StampCause → Nat
  | .shape => 1
  | .length => 2

/-- COMMAND_PARTIAL causes. -/
def PartialCause.code : PartialCause → Nat
  | .split => 1
  | .enables => 2

/-- AUDIO_CLIP ends. -/
def ClipEnd.code : ClipEnd → Nat
  | .positive => 1
  | .negative => 2

/-- DONE, or CLAMPED when a value was brought into range (R191). -/
def doneOrClamped (clamped : Bool) : Status := if clamped then .clamped else .done

/-- A flag byte of a command: 0 no, 1 yes, anything else names nothing (R207). -/
def flagOfCode : Nat → Option Bool
  | 0 => some false
  | 1 => some true
  | _ => none

end Sys2Proof.Machine
end

