-- ==== Sys2Proof/Machine/Operands.lean ====
section
/-! DEFINITION. The fields of a command record as R207 lays them out: byte numbers count from the first byte of the
record, and the parameters are its bytes 4 to 31. -/

namespace Sys2Proof.Machine

/-- The byte `n` of a command record, 4 to 31. -/
def CommandRecord.byte (r : CommandRecord) (n : Nat) : Nat := field r.params (n - 4) 1

/-- The unsigned 2-byte field at byte `n`. -/
def CommandRecord.half (r : CommandRecord) (n : Nat) : Nat := field r.params (n - 4) 2

/-- The unsigned 4-byte field at byte `n`. -/
def CommandRecord.word (r : CommandRecord) (n : Nat) : Nat := field r.params (n - 4) 4

/-- The signed 2-byte field at byte `n`. -/
def CommandRecord.signedHalf (r : CommandRecord) (n : Nat) : Int := signed 16 (r.half n)

/-- The `len` bytes from byte `n` on. -/
def CommandRecord.bytes (r : CommandRecord) (n len : Nat) : List Byte := (r.params.drop (n - 4)).take len

/-- The command codes of R207. -/
def commandCodes : List Nat :=
  [0x0001, 0x0002, 0x0010, 0x0011, 0x0012, 0x0013, 0x0014, 0x0015, 0x0020, 0x0021, 0x0022, 0x0028, 0x0030, 0x0031, 0x0032,
   0x0033, 0x0038, 0x0039, 0x003A, 0x0040, 0x0041, 0x0042, 0x0043, 0x0044, 0x0050, 0x0051, 0x0052, 0x0053, 0x0054, 0x0060,
   0x0061, 0x0062, 0x0063, 0x0070, 0x0071, 0x0072, 0x0073]

/-- The record's code names no command (R207). -/
def CommandRecord.isUnknown (r : CommandRecord) : Bool := !commandCodes.contains r.code.toNat

/-- The record's code is `n`. -/
def CommandRecord.is (n : Nat) (r : CommandRecord) : Bool := r.code.toNat == n

/-- The record's code is `n` and its byte 4 is `v`: one of the steps the table splits a command into by its selection. -/
def CommandRecord.selects (n v : Nat) (r : CommandRecord) : Bool := r.is n && r.byte 4 == v

/-- The RESET JOB target (R193) is this one; a target naming none of the eight is refused under RESET_JOB_LENS (log
entry 9). -/
def CommandRecord.targets (v : Nat) (r : CommandRecord) : Bool := r.selects 0x0015 v

/-- A RESET JOB whose target names none (R193). -/
def CommandRecord.targetsNone (r : CommandRecord) : Bool := r.is 0x0015 && !([1, 2, 3, 4, 5, 6, 7, 8].contains (r.byte 4))

/-- A LENS LINK whose action names none of the three (R59). -/
def CommandRecord.linkActionNone (r : CommandRecord) : Bool := r.is 0x0028 && !([1, 2, 3].contains (r.byte 4))

/-- An ENGINE MODE of mode `v` (byte 5). -/
def CommandRecord.engineMode (v : Nat) (r : CommandRecord) : Bool := r.is 0x003A && r.byte 5 == v

/-- An ENGINE MODE whose mode names none of the three (R79). -/
def CommandRecord.engineModeNone (r : CommandRecord) : Bool := r.is 0x003A && !([1, 2, 3].contains (r.byte 5))

/-- The first failed check's status, or what the command does when all pass: the owner's checks stand in order (R191). -/
def firstRefusal : List (Bool × Status) → Option Status
  | [] => none
  | (failed, st) :: rest => if failed then some st else firstRefusal rest

/-- What a command's execution answers with (R191): its status and result, and for a SET WINDOW on entry 0 the record that
replaces entry 0 when the completion report is queued (R20). -/
structure Completion where
  status : Status
  result : CommandResult := .none
  moves : Option WindowRecord := none
  deriving DecidableEq, Repr

/-- A completion of a status alone. -/
def completes (st : Status) (s : State) : State × Completion := (s, { status := st })

/-- A refusal: nothing is changed (R191). -/
def refuses (st : Status) (s : State) : State × Completion := (s, { status := st })

end Sys2Proof.Machine
end

