-- ==== Sys2Proof/Machine/Flags.lean ====
section
/-! DEFINITION. The event table, ATTN, and the report queue: occurrences (R199), the attention condition (R203), report
records and their bytes (R208), offering a report (R196 to R198). -/

namespace Sys2Proof.Machine

/-! ### Payload and record bytes (R208) -/

/-- The kind an owner's payload belongs to. -/
def EventPayload.kind : EventPayload → EventKind
  | .commandOverflow .. => .commandOverflow
  | .commandPartial .. => .commandPartial
  | .reportsDropped .. => .reportsDropped
  | .memoryFault .. => .memoryFault
  | .windowStraddle .. => .windowStraddle
  | .frameBeat .. => .frameBeat
  | .captureAbandoned .. => .captureAbandoned
  | .lensState .. => .lensState
  | .lensNotice .. => .lensNotice
  | .linkCollision .. => .linkCollision
  | .engineDone .. => .engineDone
  | .enginePreempted .. => .enginePreempted
  | .engineMark .. => .engineMark
  | .gyroState .. => .gyroState
  | .stabLimit .. => .stabLimit
  | .panState .. => .panState
  | .overlaySwapped .. => .overlaySwapped
  | .audioClip .. => .audioClip
  | .audioMisaligned .. => .audioMisaligned
  | .avDrift .. => .avDrift
  | .recordState .. => .recordState
  | .recordOverrun .. => .recordOverrun
  | .ringLevel .. => .ringLevel
  | .stampFault .. => .stampFault
  | .raw _ => .software

/-- One byte holding a small number. -/
def byteOf (n : Nat) : Byte := BitVec.ofNat 8 n

/-- The payload from byte 4 of the event report on, by the payload table of R208. -/
def EventPayload.bytes : EventPayload → List Byte
  | .commandOverflow code tag => leNat 2 code.toNat ++ leNat 2 tag.toNat
  | .commandPartial pos cause => leNat 4 pos ++ [byteOf cause.code]
  | .reportsDropped kind dropped => [byteOf kind.number, byteOf dropped]
  | .memoryFault lost => [byteOf lost.code]
  | .windowStraddle index tag addr => [byteOf index, byteOf tag.toNat, 0, 0] ++ leNat 4 addr
  | .frameBeat st (some seq) => [byteOf st.code, 1] ++ leNat 2 seq.toNat
  | .frameBeat st none => [byteOf st.code, 0, 0, 0]
  | .captureAbandoned seq buffer => leNat 2 seq.toNat ++ [byteOf buffer]
  | .lensState link miss changed => [byteOf link.code, byteOf miss, flagByte changed]
  | .lensNotice n => [byteOf n.code]
  | .linkCollision k => [byteOf k.code]
  | .engineDone e entered => [byteOf e.number, byteOf entered.code]
  | .enginePreempted e a (some k) => [byteOf e.number, byteOf a.code, byteOf k.code]
  | .enginePreempted e a none => [byteOf e.number, byteOf a.code, 0]
  | .engineMark e value => [byteOf e.number, 0] ++ leNat 2 value
  | .gyroState p => [byteOf p.code]
  | .stabLimit seq lx ly => leNat 2 seq.toNat ++ [flagByte lx, flagByte ly]
  | .panState a p => [byteOf a.code, byteOf p.code]
  | .overlaySwapped slot count vf => [byteOf slot, byteOf count] ++ leNat 2 vf.toNat
  | .audioClip c .positive => [byteOf c.number, 1]
  | .audioClip c .negative => [byteOf c.number, 2]
  | .audioMisaligned addr len condition => leNat 4 addr ++ [byteOf len, byteOf condition]
  | .avDrift drift count expected => leInt 2 drift ++ leNat 2 count ++ leNat 2 expected
  | .recordState number st start stop stamped dropped =>
      leNat 2 number ++ [byteOf st.code, byteOf ((if start.isSome then 1 else 0) + (if stop.isSome then 2 else 0))]
        ++ leNat 4 (start.getD 0) ++ leNat 4 (stop.getD 0) ++ leNat 4 stamped ++ leNat 2 dropped
  | .recordOverrun offset charged => leNat 4 offset ++ leNat 2 charged
  | .ringLevel level guarded => [byteOf level.code, 0, 0, 0] ++ leNat 4 guarded
  | .stampFault offset cause => leNat 4 offset ++ [byteOf cause.code]
  | .raw bytes => bytes.take 16

/-- The result bytes of a completion, from byte 6 on (R208). -/
def CommandResult.bytes : CommandResult → List Byte
  | .none => []
  | .bias x y count => leInt 2 x ++ leInt 2 y ++ leNat 2 count
  | .ack cleared count => [flagByte cleared, count]
  | .statusReports n => [byteOf n]

/-- Byte 0 of a report record (R208): lap flag, reports lost before this, software-raised, kind. -/
def reportHead (lap lost software : Bool) (kind : Nat) : Byte :=
  byteOf ((if lap then 1 else 0) + (if lost then 2 else 0) + (if software then 4 else 0) + 16 * kind)

/-- The 32 bytes of a report record, composed as it takes its slot (R208). -/
def Report.compose (lap lost : Bool) : Report → List Byte
  | .completion st tag code result _ =>
      padTo 32 ([reportHead lap lost false 1, byteOf st.code] ++ leNat 2 tag.toNat ++ leNat 2 code.toNat ++ result.bytes)
  | .event kind count payload software =>
      padTo 32 ([reportHead lap lost software 2, byteOf kind.number, count, 0] ++ payload.bytes)
  | .status block part parts tag items =>
      padTo 32 ([reportHead lap lost false 3, byteOf (block + 16 * (part - 1) + 64 * (parts - 1))]
        ++ leNat 2 tag.toNat ++ items)

/-- The record kind of a report (R16). -/
def Report.recordKind : Report → RecordKind
  | .completion .. => .completion
  | .event .. => .event
  | .status .. => .status

/-- The report is an event report of kind MEMORY_FAULT (R16). -/
def Report.isMemoryFault : Report → Bool
  | .event .memoryFault .. => true
  | _ => false

/-! ### ATTN (R203) -/

/-- Some kind is pending with its mask no. -/
def unmaskedPending (events : List EventEntry) : Bool := events.any fun e => e.pending && !e.masked

/-- The condition of R203: some kind is pending with its mask no, and no quiet interval runs. -/
def attnCondition (r : ReportUnit) : Bool := unmaskedPending r.events && r.quietEnd.isNone

/-- The line is driven as the condition says (R203). -/
def evaluateAttn (s : State) : State := { s with report := { s.report with attn := attnCondition s.report } }

/-! ### Offering a report (R196, R197, R198) -/

/-- The event table entry of a kind. -/
def eventEntry (s : State) (k : EventKind) : EventEntry :=
  s.report.events.getD (k.number - 1) { pending := false, masked := true, count := 0 }

/-- An occurrence sets its kind pending and advances its count, from 255 to 0, and ATTN is evaluated (R199, R203). -/
def markPending (k : EventKind) (s : State) : State :=
  evaluateAttn { s with report := { s.report with
    events := s.report.events.modify (k.number - 1) fun e => { e with pending := true, count := e.count + 1 } } }

/-- The command window moves: entry 0's whole record is replaced (R20). -/
def moveCommandWindow (w : WindowRecord) (s : State) : State :=
  { s with path := { s.path with windows := s.path.windows.set 0 (some w) } }

/-- The move a report carries, made when it is queued or discarded (R20). -/
def applyMove (r : Report) (s : State) : State :=
  match r with
  | .completion _ _ _ _ (some w) => moveCommandWindow w s
  | _ => s

/-- A report joins the report queue at its end (R196); a completion that moves the command window moves it now (R20). -/
def enqueueReport (r : Report) (s : State) : State :=
  applyMove r { s with report := { s.report with queue := s.report.queue ++ [r] } }

/-- An event report offered to a full queue is dropped (R197). -/
def dropEvent (k : EventKind) (s : State) : State :=
  let s := { s with report := { s.report with lost := true } }
  match s.report.drop with
  | some d => { s with report := { s.report with drop := some { d with dropped := min 255 (d.dropped + 1) } } }
  | none =>
    let s := markPending .reportsDropped s
    { s with report := { s.report with
      drop := some { kind := k, dropped := 1, count := (eventEntry s .reportsDropped).count } } }

/-- A report is offered: it joins a queue of fewer than 16; to a full queue an event report is dropped and any other is
held, behind the reports held already (R196, R197); with no REPORT window it is discarded (R198). -/
def offer (r : Report) (s : State) : State :=
  match s.window .report with
  | none => applyMove r s
  | some _ =>
    match r with
    | .event k _ _ _ => if s.report.queue.length < 16 then enqueueReport r s else dropEvent k s
    | _ =>
      if s.report.queue.length < 16 && s.command.held.isEmpty then enqueueReport r s
      else { s with command := { s.command with held := s.command.held ++ [r] } }

/-- One occurrence of a kind with a payload (R199): pending, counted, reported. -/
def occur (k : EventKind) (payload : EventPayload) (software : Bool) (s : State) : State :=
  let s := markPending k s
  offer (.event k (eventEntry s k).count payload software) s

/-- An occurrence raised by its owner's rule (R199). -/
def raiseEvent (p : EventPayload) (s : State) : State := occur p.kind p false s

/-- Occurrences raised one after another. -/
def raiseAll : List EventPayload → State → State
  | [], s => s
  | p :: ps, s => raiseAll ps (raiseEvent p s)

/-- An injected record is lost (R16): MEMORY_FAULT with the record's kind, and no event report when the lost record is itself
an event report of kind MEMORY_FAULT. -/
def loseRecord (w : InjectedWrite) (s : State) : State :=
  if w.isMemoryFault then markPending .memoryFault s else raiseEvent (.memoryFault w.kind) s

/-! ### The report ring (R194) -/

/-- The state of a slot; a slot not listed is FREE. -/
def slotState : List (Nat × SlotState) → Nat → Option SlotState
  | [], _ => none
  | (j, st) :: rest, k => if j = k then some st else slotState rest k

/-- A slot's state replaced, the list kept in rising slot order. -/
def setSlot : List (Nat × SlotState) → Nat → SlotState → List (Nat × SlotState)
  | [], k, st => [(k, st)]
  | (j, old) :: rest, k, st =>
    if k < j then (k, st) :: (j, old) :: rest
    else if k = j then (k, st) :: rest
    else (j, old) :: setSlot rest k st

/-- The ring starts (R194): next slot 0, lap 1, every slot FREE; report writes composed before it name no slot of it. -/
def startReportRing (s : State) : State :=
  { s with
    report := { s.report with nextSlot := 0, lap := true, slots := [] }
    path := { s.path with injected := s.path.injected.map fun w => { w with slot := none } } }

/-- The REPORT window is cleared or disabled (R21, R198): the queue, the held reports and the waiting drop report are
discarded and the lost flag is cleared; a held completion that moves the command window moves it at its discard (R20). No ring
exists then; the model leaves the next slot and the lap at the old ring's values, which nothing reads until a ring starts
anew (R194; DESIGN CHOICE, log entry 19). -/
def discardReports (s : State) : State :=
  let held := s.command.held
  let s := { s with
    report := { s.report with queue := [], drop := none, lost := false, slots := [] }
    command := { s.command with held := [] }
    path := { s.path with injected := s.path.injected.map fun w => { w with slot := none } } }
  held.foldl (fun s r => applyMove r s) s

/-- The number of slots of the report ring (R194). -/
def reportSlots (w : WindowRecord) : Nat := w.size / 32

/-- The first report of the queue can leave: the next slot is FREE and the injected-write queue has a place (R196). -/
def reportCanLeave (s : State) : Bool :=
  (s.window .report).isSome && !s.report.queue.isEmpty && (slotState s.report.slots s.report.nextSlot).isNone
    && s.path.injected.length < 8

end Sys2Proof.Machine
end

