-- ==== Sys2Proof/Machine/Frame.lean ====
section
/-! DEFINITION. The frame tracker: rates and timecode arithmetic (R30, R35, R36), placing an address in the geometry (R23),
the lookups (R28), the crop remap (R33) and the frame tracker's commands (R32, R37, R38). -/

namespace Sys2Proof.Machine

/-! ### Rates (R30) -/

/-- The nominal period in REFCLK counts (R30). -/
def FrameRate.period : FrameRate → Nat
  | .r23976 => 1126125
  | .r24 => 1125000
  | .r25 => 1080000
  | .r2997 => 900900
  | .r30 => 900000
  | .r50 => 540000
  | .r5994 => 450450
  | .r60 => 450000

/-- The lock deadline in REFCLK counts: one and a half periods rounded down (R30). -/
def FrameRate.deadline (r : FrameRate) : Nat := 3 * r.period / 2

/-- Timecode frames per second (R30). -/
def FrameRate.framesPerSecond : FrameRate → Nat
  | .r23976 => 24
  | .r24 => 24
  | .r25 => 25
  | .r2997 => 30
  | .r30 => 30
  | .r50 => 50
  | .r5994 => 60
  | .r60 => 60

/-- The drop count (R36): 2 at 29.97, 4 at 59.94, and 0 at the rates where drop-frame may not be on (R35). -/
def FrameRate.dropCount : FrameRate → Nat
  | .r2997 => 2
  | .r5994 => 4
  | _ => 0

/-- The rate allows drop-frame (R35). -/
def FrameRate.allowsDrop (r : FrameRate) : Bool := r.dropCount != 0

/-! ### Timecode (R35, R36) -/

/-- The label is dropped: seconds 00, a minute not divisible by 10, and frames below the drop count (R36). -/
def Timecode.isDropped (rate : FrameRate) (drop : Bool) (t : Timecode) : Bool :=
  drop && t.seconds == 0 && t.minutes % 10 != 0 && t.frames < rate.dropCount

/-- A dropped label moved forward to the first valid label of that second (R36, R37). -/
def Timecode.skipDropped (rate : FrameRate) (drop : Bool) (t : Timecode) : Timecode :=
  if t.isDropped rate drop then { t with frames := rate.dropCount } else t

/-- One step of frames, seconds, minutes and hours (R35). -/
def Timecode.carry (rate : FrameRate) (t : Timecode) : Timecode :=
  if t.frames + 1 < rate.framesPerSecond then { t with frames := t.frames + 1 }
  else if t.seconds + 1 < 60 then { t with frames := 0, seconds := t.seconds + 1 }
  else if t.minutes + 1 < 60 then { t with frames := 0, seconds := 0, minutes := t.minutes + 1 }
  else if t.hours + 1 < 24 then { hours := t.hours + 1, minutes := 0, seconds := 0, frames := 0 }
  else .zero

/-- An advance by one (R35, R36). -/
def Timecode.advance (rate : FrameRate) (drop : Bool) (t : Timecode) : Timecode :=
  (t.carry rate).skipDropped rate drop

/-- A counter brought under a new rate and drop-frame setting (R32). -/
def Timecode.adjust (rate : FrameRate) (drop : Bool) (t : Timecode) : Timecode :=
  { t with frames := min t.frames (rate.framesPerSecond - 1) }.skipDropped rate drop

/-- The bytes of a timecode: hours, minutes, seconds, frames (11.6). -/
def Timecode.bytes (t : Timecode) : List Byte := [byteOf t.hours, byteOf t.minutes, byteOf t.seconds, byteOf t.frames]

/-! ### Placing an address (R23) -/

/-- The buffer that holds an address, and the offset in it; absent outside the buffers (R23). -/
def Geometry.place (g : Geometry) (base a : Nat) : Option (Nat × Nat) :=
  if a < base then none else
  let b := (a - base) / g.stride
  let o := (a - base) % g.stride
  if b < g.buffers && o < g.height * g.pitch then some (b, o) else none

/-- The buffer whose first beat is at the address (R23). -/
def Geometry.firstBeatOf (g : Geometry) (base a : Nat) : Option Nat :=
  match g.place base a with
  | some (b, 0) => some b
  | _ => none

/-- The address of the last image beat of buffer `b` (R23). -/
def Geometry.lastImageBeat (g : Geometry) (base b : Nat) : Nat :=
  base + b * g.stride + (g.height - 1) * g.pitch + 2 * g.width - 8

/-- The buffer in whose output area all 8 bytes of the beat at `a` lie (R23). -/
def Geometry.outputBeat (g : Geometry) (base a : Nat) : Option Nat :=
  match g.place base a with
  | some (b, o) =>
    let line := o / g.pitch
    let byte := o % g.pitch
    if g.marginY ≤ line && line + g.marginY < g.height && 2 * g.marginX ≤ byte && byte + 8 ≤ 2 * (g.width - g.marginX)
    then some b else none
  | none => none

/-- The one buffer in whose output area every beat of a burst lies (R33, R108). -/
def Geometry.outputBuffer (g : Geometry) (base addr len : Nat) : Option Nat :=
  match g.outputBeat base addr with
  | some b => if (List.range len).all fun i => g.outputBeat base (addr + 8 * i) == some b then some b else none
  | none => none

/-! ### Lookups (R28) -/

/-- The newest record of a buffer, in any state. -/
def newestOf (b : Nat) (h : List CaptureRecord) : Option CaptureRecord := h.reverse.find? fun r => r.buffer == b

/-- The newest COMPLETE record of a buffer. -/
def newestComplete (b : Nat) (h : List CaptureRecord) : Option CaptureRecord :=
  h.reverse.find? fun r => r.buffer == b && r.state == .complete

/-- The newest record of all. -/
def newestRecord (h : List CaptureRecord) : Option CaptureRecord := h.getLast?

/-! ### The crop remap (R33) -/

/-- The offset in bytes for a read of the output area of buffer `b` (R33). -/
def remapOffset (g : Geometry) (b : Nat) (h : List CaptureRecord) : Int :=
  match newestOf b h with
  | some r => r.dy * (g.pitch : Int) + r.dx * 2
  | none => 0

/-- The address toward DRAM of a FRAME-window read by the encoder or viewfinder set (R33). -/
def remapRead (w : WindowRecord) (addr len : Nat) (h : List CaptureRecord) : Nat :=
  match w.params with
  | .frame g =>
    match g.outputBuffer w.base addr len with
    | some b => ((addr : Int) + remapOffset g b h).toNat
    | none => addr
  | _ => addr

/-! ### The timer (R30) -/

/-- How long after the last mark the expiry lies in a tracker state (R30). -/
def markSpacing (st : TrackerState) (rate : FrameRate) : Nat :=
  match st with
  | .locked => refclk rate.deadline
  | .freeWheel => refclk rate.period

/-- The history is emptied; the next capture sequence is kept (R27). -/
def emptyHistory (s : State) : State := { s with frame := { s.frame with history := [] } }

/-! ### Commands -/

/-- SET FRAME RATE (R32). -/
def setFrameRate (r : CommandRecord) (s : State) : State × Completion :=
  match FrameRate.ofCode (r.byte 4) with
  | none => refuses .refusedRange s
  | some rate =>
    let f := s.frame
    let drop := f.dropFrame && rate.allowsDrop
    let tc := f.timecode.adjust rate drop
    let rtc := s.record.timecode.adjust rate drop
    let clamped := drop != f.dropFrame || tc != f.timecode || rtc != s.record.timecode
    completes (doneOrClamped clamped) { s with
      frame := { f with
        rate := rate, dropFrame := drop, timecode := tc
        expiry := max s.now (f.lastMark + markSpacing f.tracker rate) }
      record := { s.record with timecode := rtc } }

/-- SET TIMECODE (R37). -/
def setTimecode (r : CommandRecord) (s : State) : State × Completion :=
  match flagOfCode (r.byte 8) with
  | none => refuses .refusedRange s
  | some asked =>
    let f := s.frame
    let drop := asked && f.rate.allowsDrop
    let named : Timecode := { hours := r.byte 4, minutes := r.byte 5, seconds := r.byte 6, frames := r.byte 7 }
    let inRange : Timecode :=
      { hours := min 23 named.hours, minutes := min 59 named.minutes, seconds := min 59 named.seconds
        frames := min (f.rate.framesPerSecond - 1) named.frames }
    let tc := inRange.skipDropped f.rate drop
    let rtc := if drop != f.dropFrame then s.record.timecode.skipDropped f.rate drop else s.record.timecode
    completes (doneOrClamped (drop != asked || tc != named)) { s with
      frame := { f with timecode := tc, dropFrame := drop }
      record := { s.record with timecode := rtc } }

/-- SET TIMECODE MODE (R38). -/
def setTimecodeMode (r : CommandRecord) (s : State) : State × Completion :=
  match TimecodeMode.ofCode (r.byte 4) with
  | none => refuses .refusedRange s
  | some m => completes .done { s with frame := { s.frame with mode := m } }

/-- RESET JOB FRAME and the frame tracker's part of RESET JOB PART (R42). -/
def resetFrame (s : State) : State :=
  let wasLocked := s.frame.tracker == .locked
  let s := emptyHistory s
  let s := { s with frame := { s.frame with
    tracker := .freeWheel, expiry := s.now + refclk s.frame.rate.period } }
  if wasLocked then raiseEvent (.frameBeat .freeWheel none) s else s

end Sys2Proof.Machine
end

