-- ==== Sys2Proof/Machine/Record.lean ====
section
/-! DEFINITION. The record tracker: the ring and its level (R151, R159, R172), the frame index (R157), clips (R160 to R165),
one encoder write (R154 to R158, R167, R168), drain (R169, R170), its commands (R152, R161, R164, R171), the record button
(R173) and the reset (R177). -/

namespace Sys2Proof.Machine

/-! ### The ring -/

/-- The forward distance from ring offset `p` to ring offset `q` (R151). -/
def ringForward (size p q : Nat) : Nat := (q + size - p) % size

/-- A forward distance with 0 read as the ring size (R159). -/
def ringSpan (size p q : Nat) : Nat := if ringForward size p q = 0 then size else ringForward size p q

/-- The level after an evaluation (R172): U is ring size / 64 and V ring size / 128. -/
def nextLevel (size highWater drainLevel g : Nat) (cur : RingLevel) : RingLevel :=
  let u := size / 64
  let v := size / 128
  if g ≥ highWater * u then .high else
  match cur with
  | .high => if g < drainLevel * u - v then .low else if g < highWater * u - v then .ready else .high
  | .ready => if g < drainLevel * u - v then .low else .ready
  | .low => if g ≥ drainLevel * u then .ready else .low

/-- The ring level is evaluated; a change raises RING_LEVEL (R172). -/
def evaluateLevel (s : State) : State :=
  match s.ring with
  | some (size, setup) =>
    let l := nextLevel size setup.highWater setup.drainLevel s.record.guarded s.record.level
    if l = s.record.level then s
    else raiseEvent (.ringLevel l s.record.guarded) { s with record := { s.record with level := l } }
  | none => s

/-- A new ring (R153). -/
def newRing (s : State) : State :=
  { s with record := { s.record with
    index := [], writeEnd := none, drain := none, guarded := 0, episode := none, level := .low } }

/-! ### Clips -/

/-- RECORD_STATE for a clip in its state, or with a removal cause as the state (R160, R175). -/
def clipEvent (c : Clip) (st : ClipState) : EventPayload :=
  .recordState c.number st c.start c.stop c.stamped c.dropped

/-- The clip list holds a clip in this state. -/
def hasClip (st : ClipState) (clips : List Clip) : Bool := clips.any fun c => c.state == st

/-- The first clip in this state. -/
def clipIn (st : ClipState) (clips : List Clip) : Option Clip := clips.find? fun c => c.state == st

/-- Every clip in a state changed by `f`; the list holds at most one OPEN, ARMED or CLOSING clip (R160). -/
def changeClips (st : ClipState) (f : Clip → Clip) (clips : List Clip) : List Clip :=
  clips.map fun c => if c.state = st then f c else c

/-- D takes a clip's start when no older clip has one, and G the distance from D to the write end (R159, R162, R163). -/
def defineDrain (start : Nat) (s : State) : State :=
  match s.record.drain with
  | some _ => s
  | none =>
    let g := match s.record.writeEnd with
      | some e => ringSpan s.ringSize start e
      | none => 0
    { s with record := { s.record with drain := some start, guarded := g } }

/-- The oldest clip is removed with a cause (R170, R171): RECORD_STATE is raised, and D moves to the next clip's start, or
becomes absent. -/
def removeOldest (cause : ClipState) (s : State) : State :=
  match s.record.clips with
  | [] => s
  | c :: rest =>
    let s := raiseEvent (clipEvent c cause) { s with record := { s.record with clips := rest } }
    match rest.head?.bind (fun c => c.start), s.record.drain with
    | some st, some d =>
      { s with record := { s.record with
        drain := some st, guarded := s.record.guarded - ringForward s.ringSize d st } }
    | some st, none => { s with record := { s.record with drain := some st } }
    | none, _ => { s with record := { s.record with drain := none, guarded := 0 } }

/-- The oldest clip is CLOSED and D stands at its end (R170). -/
def drained (s : State) : Bool :=
  match s.record.clips, s.record.drain with
  | c :: _, some d => c.state == .closed && c.stop == some d
  | _, _ => false

/-- The clip is drained when D stands at its end (R158 step 7, R170). -/
def drainIfDue (s : State) : State := if drained s then removeOldest .drained s else s

/-! ### Essence headers (R154, R209) -/

/-- What the record tracker reads of a header (R209). -/
structure HeaderFields where
  codedLength : Nat
  buffer : Nat
  randomAccess : Bool
  deriving DecidableEq, Repr

/-- Every byte enable of the beat is set. -/
def beatFull (b : Beat) : Bool := b.enables == 255

/-- The data bytes of a burst in address order. -/
def burstBytes (beats : List Beat) : List Byte := beats.flatMap fun b => beatBytes b.data

/-- The encoder's fields of a 4-beat write (R209). -/
def headerFields (beats : List Beat) : HeaderFields :=
  let bs := burstBytes beats
  { codedLength := field bs 8 4, buffer := field bs 12 1, randomAccess := field bs 13 1 != 0 }

/-- The address of the first marker beat of a write: a full beat at a multiple of 32 whose bytes are the marker (R154). -/
def markerBeat (marker : BeatData) : Nat → List Beat → Option Nat
  | _, [] => none
  | a, b :: bs => if a % 32 = 0 && beatFull b && b.data == marker then some a else markerBeat marker (a + 8) bs

/-- The write has the shape of a header: 4 beats at a multiple of 32, every enable set, first beat the marker (R154). -/
def headerShaped (marker : BeatData) (addr : Nat) (beats : List Beat) : Bool :=
  addr % 32 == 0 && beats.length == 4 && beats.all beatFull && (beats.head?.map fun b => b.data) == some marker

/-- The write is a recognised header; the answer holds what is read of it (R154). -/
def recognise (size : Nat) (marker : BeatData) (addr : Nat) (beats : List Beat) : Option HeaderFields :=
  if headerShaped marker addr beats then
    let h := headerFields beats
    if 32 ≤ h.codedLength && h.codedLength ≤ size / 2 then some h else none
  else none

/-- The STAMP_FAULT a write raises, if any (R154). -/
def stampFault (size : Nat) (marker : BeatData) (base addr : Nat) (beats : List Beat) : Option EventPayload :=
  match markerBeat marker addr beats, recognise size marker addr beats with
  | some a, none =>
    some (.stampFault (a - base) (if headerShaped marker addr beats then .length else .shape))
  | _, _ => none

/-- The capture record a header is stamped from (R155). -/
def captureFor (h : HeaderFields) (s : State) : Option CaptureRecord :=
  if h.buffer ≤ 3 then newestComplete h.buffer s.frame.history else none

/-! ### Hold-back (R167, R168) -/

/-- Any byte of the `len` bytes from ring offset `off` lies in the guarded span (R159, R167). -/
def inSpan (size : Nat) (drain : Option Nat) (guarded off len : Nat) : Bool :=
  match drain with
  | some d => guarded > 0 && (ringForward size d off < guarded || ringForward size off d < len)
  | none => false

/-- The write is held back (R167, R168). -/
def holdsBack (size : Nat) (setup : RingSetup) (base addr : Nat) (beats : List Beat) (s : State) : Bool :=
  let touching := inSpan size s.record.drain s.record.guarded (addr - base) (8 * beats.length)
  match s.record.episode with
  | none => touching
  | some _ => touching || (recognise size setup.marker addr beats).isNone

/-- The state of the clip charged with a held-back write (R168); absent for no clip. -/
def chargedState (h : Option HeaderFields) (s : State) : Option ClipState :=
  if hasClip .opened s.record.clips then some .opened
  else match clipIn .closing s.record.clips, h with
    | some c, some h => match captureFor h s, c.stopSeq with
      | some r, some stopSeq => if laterThan r.seq stopSeq then none else some .closing
      | _, _ => some .closing
    | _, _ => none

/-- The number of the clip charged, or 0 (R168). -/
def chargedNumber (h : Option HeaderFields) (s : State) : Nat :=
  match chargedState h s with
  | some st => match clipIn st s.record.clips with
    | some c => c.number
    | none => 0
  | none => 0

/-- Frames dropped counted, saturating at 65,535 (R160). -/
def Clip.countDropped (c : Clip) : Clip := { c with dropped := min 65535 (c.dropped + 1) }

/-- Frames stamped counted, saturating at 4,294,967,295 (R160). -/
def Clip.countStamped (c : Clip) : Clip := { c with stamped := min 4294967295 (c.stamped + 1) }

/-- A held-back encoder write (R158 step 3, R168): the overrun hold, the start of an episode, a dropped frame. -/
def holdBackWrite (off : Nat) (h : Option HeaderFields) (s : State) : State :=
  let s := { s with overlay := { s.overlay with overrunHold := 50 } }
  let s := match s.record.episode with
    | some _ => s
    | none => raiseEvent (.recordOverrun off (chargedNumber h s))
        { s with record := { s.record with episode := some off } }
  match h, chargedState h s with
  | some _, some st =>
    { s with record := { s.record with clips := changeClips st Clip.countDropped s.record.clips } }
  | _, _ => s

/-! ### A forwarded header (R155, R156, R163, R165) -/

/-- The sequence closes the CLOSING clip: later than its stop sequence (R165). -/
def closesClip (seq : Option Half) (c : Clip) : Bool :=
  match seq, c.stopSeq with
  | some q, some stopSeq => laterThan q stopSeq
  | _, _ => false

/-- The header opens the ARMED clip (R163). -/
def opensClip (seq : Option Half) (ra : Bool) (c : Clip) : Bool :=
  ra && match c.chainSeq, seq with
    | none, _ => true
    | some chain, some q => laterThan q chain
    | some _, none => false

/-- A CLOSING clip that this header closes ends at it, and the index entries then held are marked (R157, R165). -/
def closeAt (off : Nat) (seq : Option Half) (s : State) : State :=
  match clipIn .closing s.record.clips with
  | some c =>
    if closesClip seq c then
      let closed := { c with state := .closed, stop := some off }
      raiseEvent (clipEvent closed .closed) { s with record := { s.record with
        clips := changeClips .closing (fun _ => closed) s.record.clips
        index := s.record.index.map fun e => { e with beforeBoundary := true } } }
    else s
  | none => s

/-- An ARMED clip that this header opens starts at it (R163); D is defined by `forwardTo` once the write end is set. -/
def openAt (off : Nat) (seq : Option Half) (ra : Bool) (s : State) : State × Bool :=
  match clipIn .armed s.record.clips with
  | some c =>
    if opensClip seq ra c then
      let opened := { c with state := .opened, start := some off, chainSeq := none }
      let s := raiseEvent (clipEvent opened .opened) { s with record := { s.record with
        clips := changeClips .armed (fun _ => opened) s.record.clips } }
      ({ s with record := { s.record with
        drain := match s.record.drain with
          | some d => some d
          | none => some off } }, true)
    else (s, false)
  | none => (s, false)

/-- The clip a forwarded header is stamped into after the clip changes it causes (R156): OPEN, else CLOSING. -/
def stampedClip (s : State) : Option Clip :=
  match clipIn .opened s.record.clips with
  | some c => some c
  | none => clipIn .closing s.record.clips

/-- The stamped bytes 14 to 31 of a header (R155, R156, R209). -/
def stampBytes (cap : Option CaptureRecord) (clip : Option Nat) (first droppedBefore : Bool) (s : State) : List Byte :=
  let flags := (if clip.isSome then 1 else 0) + (if first then 2 else 0) + (if droppedBefore then 4 else 0)
  let tc := match s.frame.mode, cap with
    | .recRun, _ => (s.record.timecode, s.frame.dropFrame)
    | .freeRun, some c => (c.timecode, c.dropFrame)
    | .freeRun, none => (Timecode.zero, false)
  let seq := match cap with
    | some c => c.seq.toNat
    | none => 0
  let dx := match cap with
    | some c => c.dx
    | none => 0
  let dy := match cap with
    | some c => c.dy
    | none => 0
  leNat 2 seq ++ tc.1.bytes ++ [flagByte tc.2, byteOf flags] ++ leNat 2 (clip.getD 0) ++ leInt 2 dx ++ leInt 2 dy
    ++ [if cap.isSome then 1 else 2, 0, 0, 0]

/-- The beats of a header as stamped: bytes 0 to 13 as the encoder wrote them (R209). -/
def stampBeats (beats : List Beat) (stamp : List Byte) : List Beat :=
  let bs := (burstBytes beats).take 14 ++ stamp
  (beatsOfBytes 4 bs).map fun d => { data := d, enables := 255 }

/-- An index entry joins, the oldest leaving when 256 are held (R157). -/
def addIndex (e : IndexEntry) (index : List IndexEntry) : List IndexEntry :=
  (if index.length ≥ 256 then index.drop 1 else index) ++ [e]

/-- The entries whose header the write at `off` of `len` bytes does not cover (R157). -/
def keepUncovered (off len : Nat) (index : List IndexEntry) : List IndexEntry :=
  index.filter fun e => !(off < e.start + 32 && e.start < off + len)

/-- Step 5 of R158 for a forwarded recognised header: clip changes, stamp, index entry, episode end, record timecode. -/
def forwardHeader (off : Nat) (h : HeaderFields) (beats : List Beat) (s : State) : State × List Beat :=
  let cap := captureFor h s
  let seq := cap.map fun c => c.seq
  let s := closeAt off seq s
  let (s, first) := openAt off seq h.randomAccess s
  let clip := stampedClip s
  let stamped := stampBeats beats (stampBytes cap (clip.map fun c => c.number) first s.record.episode.isSome s)
  let clips := match clip with
    | some c => changeClips c.state Clip.countStamped s.record.clips
    | none => s.record.clips
  let tc := if clip.isSome then s.record.timecode.advance s.frame.rate s.frame.dropFrame else s.record.timecode
  ({ s with record := { s.record with
      clips := clips
      index := addIndex { start := off, seq := seq, randomAccess := h.randomAccess, beforeBoundary := false } s.record.index
      episode := none, timecode := tc } }, stamped)

/-- Step 6 of R158: the write end and G move (R159). -/
def moveWriteEnd (size off len : Nat) (s : State) : State :=
  let e := (off + len) % size
  { s with record := { s.record with
    writeEnd := some e
    guarded := match s.record.drain with
      | some d => ringSpan size d e
      | none => 0 } }

/-- A forwarded encoder write (R158 steps 4 to 8); the answer gives the beats that reach DRAM. -/
def forwardEncoderWrite (size : Nat) (setup : RingSetup) (base addr : Nat) (beats : List Beat) (s : State) :
    State × List Beat :=
  let off := addr - base
  let len := 8 * beats.length
  let s := { s with record := { s.record with index := keepUncovered off len s.record.index } }
  let (s, out) := match recognise size setup.marker addr beats with
    | some h => forwardHeader off h beats s
    | none => (s, beats)
  (evaluateLevel (drainIfDue (moveWriteEnd size off len s)), out)

/-- One encoder write into the ring (R158): the beats that are forwarded, absent for a held-back write. -/
def encoderWrite (w : WindowRecord) (addr : Nat) (beats : List Beat) (s : State) : State × Option (List Beat) :=
  match w.params with
  | .record setup =>
    let held := holdsBack w.size setup w.base addr beats s
    let s := match stampFault w.size setup.marker w.base addr beats with
      | some p => raiseEvent p s
      | none => s
    if held then
      (holdBackWrite (addr - w.base) (recognise w.size setup.marker addr beats) s, none)
    else
      let (s, out) := forwardEncoderWrite w.size setup w.base addr beats s
      (s, some out)
  | _ => (s, some beats)

/-! ### Drain (R169) -/

/-- How far a card read of `len` bytes at D moves D (R169). -/
def drainAmount (size len : Nat) (d : Nat) (s : State) : Nat :=
  let toEnd := match s.record.clips with
    | c :: _ => match c.state, c.stop with
      | .closed, some e => ringForward size d e
      | _, _ => len
    | [] => len
  min (min len s.record.guarded) toEnd

/-- A card read whose data has returned without error (R169, R170). Ring offsets, the distance to the clip's end and the wrap
are those of the ring in force as the data returns, whatever ring the read was accepted under (log entry 34). The level is
evaluated at each change of G: at the advance of D, and again at a drain's jump of D, after its RECORD_STATE (R172, log entry
35). -/
def cardRead (addr len : Nat) (s : State) : State :=
  match s.window .record, s.record.drain with
  | some w, some d =>
    if addr = w.base + d then
      let k := drainAmount w.size (8 * len) d s
      let s := evaluateLevel { s with record := { s.record with
        drain := some ((d + k) % w.size), guarded := s.record.guarded - k } }
      if drained s then evaluateLevel (removeOldest .drained s) else s
    else s
  | _, _ => s

/-! ### Commands -/

/-- RECORD SETUP (R152): it replaces the RECORD window's role parameters. -/
def recordSetup (r : CommandRecord) (s : State) : State × Completion :=
  match roleWindow .record s.path.windows 0 with
  | none => refuses .refusedState s
  | some (i, w) =>
    match flagOfCode (r.byte 14) with
    | none => refuses .refusedRange s
    | some button =>
      let high := clampNat 1 63 (r.byte 12)
      let drain := clampNat 1 63 (r.byte 13)
      let pre := min 240 (r.byte 15)
      if drain ≥ high then refuses .refusedRange s else
      let setup : RingSetup :=
        { marker := beatOfBytes (r.bytes 4 8), highWater := high, drainLevel := drain, button := button, preRoll := pre }
      completes (doneOrClamped (high != r.byte 12 || drain != r.byte 13 || pre != r.byte 15))
        (evaluateLevel { s with path := { s.path with
          windows := s.path.windows.set i (some { w with params := .record setup }) } })

/-- The start entry of a REC START decided from the frame index (R162). -/
def startEntry (preRoll : Nat) (index : List IndexEntry) : Option IndexEntry :=
  let candidates := index.filter fun e => e.randomAccess && e.seq.isSome
  match (index.reverse.findSome? fun e => e.seq) with
  | none => none
  | some n =>
    let target := n - BitVec.ofNat 16 preRoll
    let atTarget := candidates.reverse.find? fun e => match e.seq with
      | some q => atOrBefore q target
      | none => false
    let chosen := match atTarget with
      | some e => some e
      | none => candidates.head?
    match chosen with
    | some e => if e.beforeBoundary then candidates.find? fun e => !e.beforeBoundary else some e
    | none => none

/-- A clip is added at the end of the list with the next clip number (R160, R161), and RECORD_STATE is raised with its first
state. -/
def addClip (st : ClipState) (start : Option Nat) (chain : Option Half) (s : State) : State :=
  let c : Clip := { number := s.record.nextClip, state := st, start := start, stop := none, stopSeq := none
                    chainSeq := chain, stamped := 0, dropped := 0 }
  raiseEvent (clipEvent c st) { s with record := { s.record with
    clips := s.record.clips ++ [c]
    nextClip := if s.record.nextClip ≥ 9999 then 1 else s.record.nextClip + 1 } }

/-- REC START's checks (R161), in order. -/
def recStartChecks (s : State) : List (Bool × Status) :=
  [(s.ring.isNone, .refusedState),
   (hasClip .armed s.record.clips || hasClip .opened s.record.clips, .refusedState),
   (decide (s.record.clips.length ≥ 4), .refusedFull)]

/-- REC START with a pre-roll, absent for DEFAULT (R161, R162). RECORD_STATE is raised before D and G are set and the level is
evaluated, which no rule orders (DESIGN CHOICE, log entry 48). -/
def recStartWith (named : Option Nat) (s : State) : State × Completion :=
  match firstRefusal (recStartChecks s), s.ring with
  | some st, _ => refuses st s
  | none, none => refuses .refusedState s
  | none, some (_, setup) =>
    let asked := named.getD setup.preRoll
    match clipIn .closing s.record.clips with
    | some c => completes (doneOrClamped (asked != 0)) (addClip .armed none c.stopSeq s)
    | none =>
      if s.frame.mode = .recRun then completes (doneOrClamped (asked != 0)) (addClip .armed none none s)
      else
        let pre := min 240 asked
        let s' := match startEntry pre s.record.index with
          | some e => evaluateLevel (defineDrain e.start (addClip .opened (some e.start) none s))
          | none => addClip .armed none none s
        completes (doneOrClamped (pre != asked)) s'

/-- REC START (R161): 0xFFFF means DEFAULT (R207). -/
def recStart (r : CommandRecord) (s : State) : State × Completion :=
  recStartWith (if r.half 4 = 0xFFFF then none else some (r.half 4)) s

/-- The stop sequence of a REC STOP (R164). -/
def stopSequence (s : State) : Half :=
  match newestRecord s.frame.history with
  | some r => r.seq
  | none => s.frame.nextSeq - 1

/-- REC STOP without its command record (R164, R173). -/
def recStopNow (s : State) : State × Completion :=
  match clipIn .opened s.record.clips with
  | some c =>
    let closing := { c with state := .closing, stopSeq := some (stopSequence s) }
    completes .done (raiseEvent (clipEvent closing .closing) { s with record := { s.record with
      clips := changeClips .opened (fun _ => closing) s.record.clips } })
  | none =>
    match clipIn .armed s.record.clips with
    | some c =>
      completes .done (raiseEvent (clipEvent c .abandoned) { s with record := { s.record with
        clips := s.record.clips.filter fun c => c.state != .armed } })
    | none => refuses .refusedState s

/-- REC STOP (R164). -/
def recStop (_r : CommandRecord) (s : State) : State × Completion := recStopNow s

/-- CLIP DISCARD (R171): RECORD_STATE before the RING_LEVEL of the change of G (DESIGN CHOICE, log entry 48). -/
def clipDiscard (_r : CommandRecord) (s : State) : State × Completion :=
  match s.record.clips with
  | c :: _ => if c.state = .closed then completes .done (evaluateLevel (removeOldest .discarded s))
    else refuses .refusedState s
  | [] => refuses .refusedState s

/-- A RECORD BUTTON notice handed over (R173): REC START with the default pre-roll, or REC STOP, when the record-button enable
is yes; a refused action changes nothing. -/
def recordButton (s : State) : State :=
  match s.ring with
  | some (_, setup) =>
    if !setup.button then s
    else if hasClip .armed s.record.clips || hasClip .opened s.record.clips then (recStopNow s).1
    else (recStartWith none s).1
  | none => s

/-- RESET JOB RECORD and the part of RESET JOB PART (R177). -/
def resetRecord (s : State) : State :=
  let was := s.record.level
  let s := { s with record := { s.record with
    clips := [], index := [], episode := none, drain := none, guarded := 0, level := .low } }
  if was = .low then s else raiseEvent (.ringLevel .low 0) s

end Sys2Proof.Machine
end

