-- ==== Sys2Proof/Machine/Engines.lean ====
section
/-! DEFINITION. The move engines: taking moves (R75 to R78), advancing a move (R76, R77), testing a wait (R78), their
commands (R74, R79, R80), the link loss and the flush (R81). -/

namespace Sys2Proof.Machine

/-- The kind of a move in progress. -/
def InProgress.kind : InProgress → MoveKind
  | .ramp .. => .ramp
  | .dwell .. => .dwell
  | .wait _ => .wait

/-- The state an engine takes for a move in progress (R73). -/
def InProgress.state : InProgress → EngineState
  | .ramp .. => .ramping
  | .dwell .. => .dwelling
  | .wait _ => .waiting

/-- The engine is running (R75). -/
def EngineState.running : EngineState → Bool
  | .ramping => true
  | .dwelling => true
  | .waiting => true
  | _ => false

/-- What one engine's work comes to: the engine, the engines its SIGNAL moves named, and the events raised in order. -/
structure EngineStep where
  engine : Engine
  signalled : EngineSet
  events : List EventPayload
  deriving DecidableEq, Repr

/-- The target a RAMP takes: clamped to the bound axis's range, unclamped with no bound axis (R76). -/
def rampTarget (range : Option (Nat × Nat)) (target : Nat) : Nat :=
  match range with
  | some (lo, hi) => clampNat lo hi target
  | none => target

/-- Beginning a RAMP, DWELL or WAIT: the matching state, with the start and the target fixed (R75, R76, R77, R78). -/
def beginMove (range : Option (Nat × Nat)) (rest : List Move) (g : Engine) (p : Move) : Engine :=
  match p with
  | .ramp target n shape =>
    { g with queue := rest, state := .ramping, move := some (.ramp g.output (rampTarget range target) n shape 0) }
  | .dwell n => { g with queue := rest, state := .dwelling, move := some (.dwell n 0) }
  | .wait set => { g with queue := rest, state := .waiting, move := some (.wait set) }
  | .signal _ => g
  | .mark _ => g

/-- In RUN the engine takes moves at once: SIGNAL and MARK complete as they are taken, up to the next RAMP, DWELL or WAIT, or
to IDLE with ENGINE_DONE at the end of the queue (R75). -/
def takeRun (id : EngineId) (range : Option (Nat × Nat)) (g : Engine) : List Move → EngineStep
  | [] => { engine := { g with queue := [], state := .idle, move := none }, signalled := 0
            events := [.engineDone id .idle] }
  | .signal set :: rest =>
    let r := takeRun id range g rest
    { r with signalled := set ||| r.signalled }
  | .mark v :: rest =>
    let r := takeRun id range g rest
    { r with events := .engineMark id v :: r.events }
  | p :: rest => { engine := beginMove range rest g p, signalled := 0, events := [] }

/-- In STEP the engine takes one move: a SIGNAL or MARK completes at once and leaves it HELD with ENGINE_DONE; with an empty
queue it enters IDLE with ENGINE_DONE (R79). -/
def takeOne (id : EngineId) (range : Option (Nat × Nat)) (g : Engine) : List Move → EngineStep
  | [] => { engine := { g with queue := [], state := .idle, move := none }, signalled := 0
            events := [.engineDone id .idle] }
  | .signal set :: rest =>
    { engine := { g with queue := rest, state := .held, move := none }, signalled := set
      events := [.engineDone id .held] }
  | .mark v :: rest =>
    { engine := { g with queue := rest, state := .held, move := none }, signalled := 0
      events := [.engineMark id v, .engineDone id .held] }
  | p :: rest => { engine := beginMove range rest g p, signalled := 0, events := [] }

/-- A move completes: RUN takes the next moves, STEP enters HELD with ENGINE_DONE (R75). -/
def completeMove (id : EngineId) (range : Option (Nat × Nat)) (g : Engine) : EngineStep :=
  match g.mode with
  | .run => takeRun id range { g with move := none } g.queue
  | .step => { engine := { g with move := none, state := .held }, signalled := 0, events := [.engineDone id .held] }

/-- The eased fraction s of 65,536 at step k of N (R76). -/
def easedFraction (k n : Nat) : Nat :=
  let u := 65536 * k / n
  min 65536 ((3 * u ^ 2 * 65536 - 2 * u ^ 3) / 65536 ^ 2)

/-- The output of a RAMP at step k (R76). -/
def rampOutput (start target n : Nat) (shape : Shape) (k : Nat) : Nat :=
  let delta : Int := (target : Int) - (start : Int)
  match shape with
  | .linear => ((start : Int) + truncDiv (delta * k) n).toNat
  | .eased => ((start : Int) + truncDiv (delta * easedFraction k n) 65536).toNat

/-- Stage 2 for one engine (R66, R76, R77): a RAMPING or DWELLING engine advances its move by one frame. -/
def advanceEngine (id : EngineId) (range : Option (Nat × Nat)) (g : Engine) : EngineStep :=
  match g.state, g.move with
  | .ramping, some (.ramp start target n shape k) =>
    let g := { g with output := rampOutput start target n shape (k + 1)
                      move := some (.ramp start target n shape (k + 1)) }
    if k + 1 ≥ n then completeMove id range g else { engine := g, signalled := 0, events := [] }
  | .dwelling, some (.dwell n k) =>
    let g := { g with move := some (.dwell n (k + 1)) }
    if k + 1 ≥ n then completeMove id range g else { engine := g, signalled := 0, events := [] }
  | _, _ => { engine := g, signalled := 0, events := [] }

/-- Stage 3 for one engine that was WAITING at the mark's arrival (R66, R78): its wait set is compared with the set as it
stood then, which `received` still holds, since the mark's own signals are added after stage 3. -/
def testWait (id : EngineId) (range : Option (Nat × Nat)) (g : Engine) : EngineStep :=
  match g.state, g.move with
  | .waiting, some (.wait set) =>
    if g.received &&& set = set then completeMove id range { g with received := g.received &&& ~~~set }
    else { engine := g, signalled := 0, events := [] }
  | _, _ => { engine := g, signalled := 0, events := [] }

/-- An engine's SIGNALs reach the engines they name (R78). -/
def deliverSignals (sender : EngineId) (targets : EngineSet) (m : MoveEngines) : MoveEngines :=
  { e1 := if targets &&& EngineId.e1.bit = 0 then m.e1 else { m.e1 with received := m.e1.received ||| sender.bit }
    e2 := if targets &&& EngineId.e2.bit = 0 then m.e2 else { m.e2 with received := m.e2.received ||| sender.bit }
    e3 := if targets &&& EngineId.e3.bit = 0 then m.e3 else { m.e3 with received := m.e3.received ||| sender.bit } }

/-- Stages 2 and 3 of a frame mark (R66): every RAMPING or DWELLING engine advances; every engine that was WAITING at the
mark's arrival tests its wait; then the mark's signals are held for the next mark (log entry 13).
A SIGNAL for an engine that already holds the sender, and whose WAIT uses that up at this same mark, is held too: R78's 'left as
it was' and its 'held for the next mark' meet there (DESIGN CHOICE, log entry 13). The events of a stage are
raised engine 1 first, then 2, then 3: the rule orders no engines (DESIGN CHOICE, log entry 38). `range` gives the lens range
of an engine's bound axis. -/
def advanceAll (range : EngineId → Option (Nat × Nat)) (wasWaiting : EngineId → Bool) (m : MoveEngines) :
    MoveEngines × List EventPayload :=
  let step2 := fun id => if wasWaiting id then { engine := m.get id, signalled := 0, events := [] }
    else advanceEngine id (range id) (m.get id)
  let step3 := fun id => if wasWaiting id then testWait id (range id) (m.get id)
    else { engine := m.get id, signalled := 0, events := [] }
  let pick := fun id => if wasWaiting id then step3 id else step2 id
  let m' : MoveEngines := { e1 := (pick .e1).engine, e2 := (pick .e2).engine, e3 := (pick .e3).engine }
  let m' := deliverSignals .e1 (pick .e1).signalled m'
  let m' := deliverSignals .e2 (pick .e2).signalled m'
  let m' := deliverSignals .e3 (pick .e3).signalled m'
  (m', (step2 .e1).events ++ (step2 .e2).events ++ (step2 .e3).events
    ++ (step3 .e1).events ++ (step3 .e2).events ++ (step3 .e3).events)

/-- The axis an engine is bound to (R64). -/
def boundAxis (c : AxisController) (id : EngineId) : Option Axis :=
  if c.zoom.source = .engine id then some .zoom
  else if c.focus.source = .engine id then some .focus
  else if c.iris.source = .engine id then some .iris
  else none

/-- The range of an axis: the stored identity's minimum to maximum, 0 to 65,535 while none is stored (R64). -/
def axisRange (identity : Option Identity) : Axis → Nat × Nat
  | .zoom => match identity with
    | some i => (i.zoomMin, i.zoomMax)
    | none => (0, 65535)
  | .focus => match identity with
    | some i => (i.focusMin, i.focusMax)
    | none => (0, 65535)
  | .iris => match identity with
    | some i => (i.irisMin, i.irisMax)
    | none => (0, 65535)

/-- The lens range of an engine's bound axis, absent for an unbound engine (R76). -/
def engineRange (s : State) (id : EngineId) : Option (Nat × Nat) :=
  (boundAxis s.axis id).map (axisRange s.lens.identity)

/-- A change of one engine by a command: the engine is replaced, its signals reach their engines, its events are raised. -/
def applyEngineStep (id : EngineId) (r : EngineStep) (s : State) : State :=
  raiseAll r.events { s with engines := deliverSignals id r.signalled (s.engines.set id r.engine) }

/-- Link loss (R81): every bound engine enters HELD and keeps its move and queue. -/
def linkLoss (s : State) : State :=
  let hold := fun id => let g := s.engines.get id
    if (boundAxis s.axis id).isSome then { g with state := .held } else g
  { s with engines := { e1 := hold .e1, e2 := hold .e2, e3 := hold .e3 } }

/-- An engine flushed (R80): queue and move gone, IDLE; output, mode and received signals kept. -/
def Engine.flush (g : Engine) : Engine := { g with queue := [], move := none, state := .idle }

/-- All three engines flushed (R81). -/
def flushAll (s : State) : State :=
  { s with engines := { e1 := s.engines.e1.flush, e2 := s.engines.e2.flush, e3 := s.engines.e3.flush } }

/-! ### Commands -/

/-- The checks of an engine set (R74): not empty, not the engine itself, no number outside 1 to 3. -/
def engineSetOk (id : EngineId) (set : Nat) : Bool :=
  set != 0 && set < 8 && (BitVec.ofNat 3 set &&& id.bit == 0)

/-- The move record an ENGINE APPEND names, brought into range, and whether a value was changed; absent for a refused one
(R74, R207). -/
def moveOf (id : EngineId) (r : CommandRecord) : Option (Move × Bool) :=
  let n := r.half 12
  let frames := clampNat 1 4096 n
  match r.byte 5 with
  | 1 => match Shape.ofCode (r.byte 14) with
    | some shape =>
      let target := min 65535 (r.word 8)
      some (.ramp target frames shape, frames != n || target != r.word 8)
    | none => none
  | 2 => some (.dwell frames, frames != n)
  | 3 => if engineSetOk id (r.byte 6) then some (.signal (BitVec.ofNat 3 (r.byte 6)), false) else none
  | 4 => if engineSetOk id (r.byte 6) then some (.wait (BitVec.ofNat 3 (r.byte 6)), false) else none
  | 5 => some (.mark (r.half 8), false)
  | _ => none

/-- ENGINE APPEND (R74). -/
def engineAppend (r : CommandRecord) (s : State) : State × Completion :=
  match EngineId.ofNumber (r.byte 4) with
  | none => refuses .refusedRange s
  | some id =>
    match moveOf id r with
    | none => refuses .refusedRange s
    | some (p, clamped) =>
      let g := s.engines.get id
      if g.queue.length ≥ 16 then refuses .refusedFull s
      else completes (doneOrClamped clamped)
        { s with engines := s.engines.set id { g with queue := g.queue ++ [p] } }

/-- Starting a stopped engine (R79): a kept move resumes in its own state, otherwise the engine takes moves by its mode. -/
def startEngine (id : EngineId) (range : Option (Nat × Nat)) (g : Engine) : EngineStep :=
  match g.move with
  | some p => { engine := { g with state := p.state }, signalled := 0, events := [] }
  | none => match g.mode with
    | .run => takeRun id range g g.queue
    | .step => takeOne id range g g.queue

/-- ENGINE MODE naming RUN or STEP (R79): the mode is set, and a stopped engine is started. -/
def setEngineMode (mode : EngineMode) (r : CommandRecord) (s : State) : State × Completion :=
  match EngineId.ofNumber (r.byte 4) with
  | none => refuses .refusedRange s
  | some id =>
    let g := { s.engines.get id with mode := mode }
    let step := if g.state.running then { engine := g, signalled := 0, events := [] }
      else startEngine id (engineRange s id) g
    completes .done (applyEngineStep id step s)

/-- ENGINE MODE naming RUN, or a mode that names none of the three (R79). -/
def engineModeRun (r : CommandRecord) (s : State) : State × Completion :=
  if r.engineModeNone then refuses .refusedRange s else setEngineMode .run r s

/-- ENGINE MODE naming STEP (R79). -/
def engineModeStep (r : CommandRecord) (s : State) : State × Completion := setEngineMode .step r s

/-- ENGINE MODE naming HOLD (R79): the engine enters HELD; its move in progress and its mode are kept. -/
def engineModeHold (r : CommandRecord) (s : State) : State × Completion :=
  match EngineId.ofNumber (r.byte 4) with
  | none => refuses .refusedRange s
  | some id => completes .done { s with engines := s.engines.set id { s.engines.get id with state := .held } }

/-- ENGINE FLUSH (R80). -/
def engineFlush (r : CommandRecord) (s : State) : State × Completion :=
  match EngineId.ofNumber (r.byte 4) with
  | none => refuses .refusedRange s
  | some id => completes .done { s with engines := s.engines.set id (s.engines.get id).flush }

/-- The engine part of RESET JOB LENS (R85): queues and moves gone, IDLE, RUN, no received signals; outputs kept. -/
def Engine.resetJob (g : Engine) : Engine := { g.flush with mode := .run, received := 0 }

/-- The move engines' part of RESET JOB LENS (R85). -/
def resetEngines (s : State) : State :=
  { s with engines := { e1 := s.engines.e1.resetJob, e2 := s.engines.e2.resetJob, e3 := s.engines.e3.resetJob } }

end Sys2Proof.Machine
end

