-- ==== Sys2Proof/Machine/AxisControl.lean ====
section
/-! DEFINITION. The axis controller: sources (R65), the frame-mark operation (R66 to R68, R70, R71), alignment (R72), settings
(R69) and the reset (R85). -/

namespace Sys2Proof.Machine

/-- A value clamped to the lens range of an axis (R64). -/
def clampAxis (identity : Option Identity) (a : Axis) (v : Nat) : Nat :=
  clampNat (axisRange identity a).1 (axisRange identity a).2 v

/-- The operator inputs of a mark (R67): the position record while the link is ONLINE or DEGRADED. -/
def operatorInputs (s : State) : Option Position := if s.lens.link.up then s.lens.position else none

/-- The rocker deflection of a mark: 0 while it is unavailable (R67). -/
def rockerOf (s : State) : Int :=
  match operatorInputs s with
  | some p => p.rocker
  | none => 0

/-- The focus wheel of a mark, absent while it is unavailable (R67). -/
def wheelOf (s : State) : Option Nat := (operatorInputs s).map fun p => p.wheel

/-- The speed v of the ROCKER source (R67). -/
def rockerSpeed (deadband vmax trim : Nat) (d : Int) : Int :=
  if d.natAbs ≤ deadband then 0 else
  let mag : Nat := vmax * (d.natAbs - deadband) ^ 2 / (127 - deadband) ^ 2 * trim / 256
  if d < 0 then -(mag : Int) else (mag : Int)

/-- The axis's source is an engine or DIRECT, so that the operator may take it over (R70). -/
def Source.takeable : Source → Bool
  | .engine _ => true
  | .direct => true
  | _ => false

/-- An axis taken over changes source; its engine, if it had one, is preempted (R70, R71). -/
def takeOver (a : Axis) (new : Source) (s : State) : State :=
  let rec' := s.axis.get a
  let s := { s with axis := s.axis.set a { rec' with source := new } }
  match rec'.source with
  | .engine id =>
    let g := s.engines.get id
    let s := { s with engines := s.engines.set id { g with move := none, state := .held } }
    raiseEvent (.enginePreempted id a (g.move.map InProgress.kind)) s
  | _ => s

/-- Stage 1 for zoom (R70). -/
def zoomTakeover (s : State) : State :=
  if s.axis.zoomTakeover && s.axis.zoom.source.takeable && decide ((rockerOf s).natAbs > s.axis.deadband)
  then takeOver .zoom .rocker s else s

/-- The wheel has moved by more than the threshold since the wheel reference (R70). -/
def wheelMoved (s : State) : Bool :=
  match wheelOf s, s.axis.wheelRef with
  | some w, some ref => decide (absDiff w ref > s.axis.wheelThreshold)
  | _, _ => false

/-- Stage 1 for focus (R70): the wheel reference follows the wheel whether or not takeover is tested. -/
def focusTakeover (s : State) : State :=
  let moved := wheelMoved s
  let s := match wheelOf s with
    | some w => { s with axis := { s.axis with wheelRef := some w } }
    | none => s
  if s.axis.focusTakeover && s.axis.focus.source.takeable && moved then takeOver .focus .wheel s else s

/-- One axis's demand from its source, clamped to its lens range (R67, R68). -/
def axisDemand (s : State) (a : Axis) : Nat :=
  let r := s.axis.get a
  match r.source with
  | .rocker =>
    let v := rockerSpeed s.axis.deadband s.axis.vmax s.axis.trim (rockerOf s)
    let range := axisRange s.lens.identity a
    (clampInt range.1 range.2 ((r.demand : Int) + v)).toNat
  | .wheel => clampAxis s.lens.identity a ((wheelOf s).getD r.demand)
  | .engine id => clampAxis s.lens.identity a (s.engines.get id).output
  | .direct => clampAxis s.lens.identity a r.direct
  | .hold => clampAxis s.lens.identity a r.demand

/-- Stage 4 (R66): each axis's demand is computed and stored. -/
def storeDemands (s : State) : State :=
  { s with axis := { s.axis with
    zoom := { s.axis.zoom with demand := axisDemand s .zoom }
    focus := { s.axis.focus with demand := axisDemand s .focus }
    iris := { s.axis.iris with demand := axisDemand s .iris } } }

/-- Stages 2 and 3 (R66), on the engines that were WAITING at the mark's arrival. -/
def engineStages (wasWaiting : EngineId → Bool) (s : State) : State :=
  let r := advanceAll (engineRange s) wasWaiting s.engines
  raiseAll r.2 { s with engines := r.1 }

/-- The frame-mark operation (R66): takeover, engine advance, wait tests, demands. Stage 1 gives its two tests no order: here
zoom is taken over first, with its ENGINE_PREEMPTED, and then focus (DESIGN CHOICE, log entry 45). -/
def demandOperation (s : State) : State :=
  let wasWaiting := fun id => (s.engines.get id).state == .waiting
  storeDemands (engineStages wasWaiting (focusTakeover (zoomTakeover s)))

/-! ### Alignment (R72) -/

/-- One axis aligned: its demand, its direct value when DIRECT drives it. -/
def alignRecord (v : Nat) (r : AxisRecord) : AxisRecord :=
  { r with demand := v, direct := if r.source = .direct then v else r.direct }

/-- The outputs of the engines bound to an axis set to its aligned demand. -/
def alignEngines (c : AxisController) (zoom focus iris : Nat) (m : MoveEngines) : MoveEngines :=
  let align := fun id => let g := m.get id
    match boundAxis c id with
    | some .zoom => { g with output := zoom }
    | some .focus => { g with output := focus }
    | some .iris => { g with output := iris }
    | none => g
  { e1 := align .e1, e2 := align .e2, e3 := align .e3 }

/-- Alignment to a POSITION, each value clamped into the stored identity's range (R51, R72). -/
def align (p : Position) (s : State) : State :=
  let zoom := clampAxis s.lens.identity .zoom p.zoom
  let focus := clampAxis s.lens.identity .focus p.focus
  let iris := clampAxis s.lens.identity .iris p.iris
  { s with
    axis := { s.axis with
      zoom := alignRecord zoom s.axis.zoom, focus := alignRecord focus s.axis.focus
      iris := alignRecord iris s.axis.iris, wheelRef := some p.wheel }
    engines := alignEngines s.axis zoom focus iris s.engines }

/-! ### Commands -/

/-- The source may drive the axis: ROCKER drives ZOOM alone, WHEEL drives FOCUS alone (R64, R65). -/
def sourceFits : Axis → Source → Bool
  | .zoom, .wheel => false
  | .focus, .rocker => false
  | .iris, .rocker => false
  | .iris, .wheel => false
  | _, _ => true

/-- Another axis driven by the engine goes to HOLD, its demand kept (R65, step 1). -/
def releaseFrom (id : EngineId) (r : AxisRecord) : AxisRecord :=
  if r.source = .engine id then { r with source := .hold } else r

/-- Step 1 of R65 for all axes: the axis named last takes its own new source afterwards. -/
def releaseEngine (new : Source) (c : AxisController) : AxisController :=
  match new with
  | .engine id => { c with zoom := releaseFrom id c.zoom, focus := releaseFrom id c.focus, iris := releaseFrom id c.iris }
  | _ => c

/-- SET AXIS SOURCE (R65). -/
def setAxisSource (r : CommandRecord) (s : State) : State × Completion :=
  match Axis.ofCode (r.byte 4), Source.ofCode (r.byte 5) with
  | some a, some new =>
    if !sourceFits a new then refuses .refusedRange s
    else if (s.axis.get a).source = new then completes .done s
    else
      let c := releaseEngine new s.axis
      let old := c.get a
      let direct := if new = .direct then old.demand else old.direct
      let engines := match new with
        | .engine id => s.engines.set id { s.engines.get id with output := old.demand }
        | _ => s.engines
      completes .done { s with
        axis := c.set a { old with source := new, direct := direct }
        engines := engines }
  | _, _ => refuses .refusedRange s

/-- SET DIRECT DEMAND (R69). -/
def setDirectDemand (r : CommandRecord) (s : State) : State × Completion :=
  match Axis.ofCode (r.byte 4) with
  | none => refuses .refusedRange s
  | some a =>
    let v := min 65535 (r.word 8)
    completes (doneOrClamped (v != r.word 8))
      { s with axis := s.axis.set a { s.axis.get a with direct := v } }

/-- SET ROCKER (R69). -/
def setRocker (r : CommandRecord) (s : State) : State × Completion :=
  let deadband := min 40 (r.half 4)
  let vmax := clampNat 1 4096 (r.half 6)
  let trim := min 256 (r.half 8)
  completes (doneOrClamped (deadband != r.half 4 || vmax != r.half 6 || trim != r.half 8))
    { s with axis := { s.axis with deadband := deadband, vmax := vmax, trim := trim } }

/-- SET OVERRIDE (R69). -/
def setOverride (r : CommandRecord) (s : State) : State × Completion :=
  match flagOfCode (r.byte 4), flagOfCode (r.byte 5) with
  | some zoom, some focus =>
    let threshold := min 4096 (r.half 6)
    completes (doneOrClamped (threshold != r.half 6))
      { s with axis := { s.axis with zoomTakeover := zoom, focusTakeover := focus, wheelThreshold := threshold } }
  | _, _ => refuses .refusedRange s

/-- The axis controller's part of RESET JOB LENS (R85). -/
def resetAxes (s : State) : State :=
  { s with axis := { s.axis with
    zoom := { source := .rocker, demand := 0, direct := 0 }
    focus := { source := .wheel, demand := 0, direct := 0 }
    iris := { source := .hold, demand := 0, direct := 0 }
    wheelRef := none } }

end Sys2Proof.Machine
end

