-- ==== Sys2Proof/Machine/Stab.lean ====
section
/-! DEFINITION. The gyro port (R86 to R89, R212) and the stabiliser (R90 to R103): a sample event, the frame mark's stages 1
to 6, the commands and the reset (R107). -/

namespace Sys2Proof.Machine

/-! ### The port -/

/-- The sample period in time units (R87). -/
def PortSetup.period (p : PortSetup) : Nat := if p.sampleRate = 2000 then refclk 13500 else refclk 27000

/-- How long GSEL is low: 56 clock periods and one more for the select margins, in the clock's unit of an eighth of a REFCLK
count, rounded up (R87, log entry 43). -/
def PortSetup.transactionTime (p : PortSetup) : Nat := (57 * refclk 27000 + p.clockKHz - 1) / p.clockKHz

/-- When the running transaction began: at the expiry one sample period before the next (R87). -/
def GyroPort.transactionStart (g : GyroPort) : Nat :=
  match g.timer with
  | some t => t - g.setup.period
  | none => 0

/-- When the running transaction ends and GSEL goes high (R87, log entry 43). -/
def GyroPort.transactionEnd (g : GyroPort) : Nat := g.transactionStart + g.setup.transactionTime

/-- How many whole half clock periods of the running transaction are over: the first edge of the first clock period comes at
1, and an edge at each of the 111 after it (R87). -/
def GyroPort.halvesOver (g : GyroPort) (now : Nat) : Nat :=
  (now - g.transactionStart) * g.setup.clockKHz / refclk 13500

/-- Which of a clock period's two edges is the sampling edge, 1 or 2; the port changes GDO on the other (R87). -/
def PortSetup.samplingEdge (p : PortSetup) : Nat :=
  match p.phase with
  | .leading => 1
  | .trailing => 2

/-- The level GSEL is driven at: low while a transaction runs (R87). -/
def GyroPort.gsel (g : GyroPort) : Bool := !g.transaction

/-- The level GCLK rests at: that of IDLE LOW while UNCONFIGURED (R87). -/
def GyroPort.clockIdle (g : GyroPort) : Bool :=
  g.state != .unconfigured && g.setup.polarity == .idleHigh

/-- The level GCLK is driven at: away from its idle level from the first edge of each of a transaction's 56 clock periods to
the second (R87). -/
def GyroPort.gclk (g : GyroPort) (now : Nat) : Bool :=
  g.clockIdle != (g.transaction && min (g.halvesOver now) 112 % 2 == 1)

/-- What a transaction sends on GDO, a bit for each clock period: the command byte, most significant bit first, and a low level
while six bytes are read (R87). -/
def PortSetup.commandBits (p : PortSetup) : List Bool :=
  ((List.range 8).map fun i => p.command.getLsbD (7 - i)) ++ List.replicate 48 false

/-- The level GDO is driven at: each bit goes out half a clock period before its sampling edge and stays until half a period
after it. The first bit of LEADING phase goes out as GSEL goes low; GDO is low before the first bit of TRAILING phase, and
between transactions in every port state (R87, log entry 57). -/
def GyroPort.gdo (g : GyroPort) (now : Nat) : Bool :=
  g.transaction && decide (g.setup.samplingEdge ≤ g.halvesOver now + 1)
    && g.setup.commandBits.getD ((g.halvesOver now + 1 - g.setup.samplingEdge) / 2) false

/-- The bits the port reads from GDI: the levels at the sampling edges (R87). -/
def PortSetup.sampledGdi (p : PortSetup) (gdi : GdiLevels) : BitVec 48 :=
  match p.phase with
  | .leading => gdi.atFirst
  | .trailing => gdi.atSecond

/-- The six bytes the port reads, most significant bit first within each byte, in the order of R212 (R87). -/
def PortSetup.readGdi (p : PortSetup) (gdi : GdiLevels) : GyroBytes :=
  let byte := fun (k : Nat) => (p.sampledGdi gdi).extractLsb' (8 * (5 - k)) 8
  { status := byte 0, yawLow := byte 1, yawHigh := byte 2, pitchLow := byte 3, pitchHigh := byte 4, check := byte 5 }

/-- The rates of a transaction: 16-bit signed, low byte first (R212). -/
def gyroRates (b : GyroBytes) : Int × Int :=
  (signed 16 (ofLe [b.yawLow, b.yawHigh]), signed 16 (ofLe [b.pitchLow, b.pitchHigh]))

/-- The sample is good: its check byte is the exclusive-or of the five before it, and its status passes the mask (R88). -/
def sampleGood (p : PortSetup) (b : GyroBytes) : Bool :=
  b.check == (b.status ^^^ b.yawLow ^^^ b.yawHigh ^^^ b.pitchLow ^^^ b.pitchHigh)
    && (b.status &&& p.validMask) == p.validValue

/-- The port after a sample, its state by R89 and the last good sample by R88. -/
def judgeSample (good : Bool) (rates : Int × Int) (g : GyroPort) : GyroPort :=
  let g := if good then { g with last := some rates } else g
  match g.state with
  | .running =>
    if good then { g with badRun := 0 }
    else if g.badRun + 1 ≥ 16 then { g with state := .failed, badRun := 0 }
    else { g with badRun := g.badRun + 1 }
  | .failed =>
    if good then
      if g.goodRun + 1 ≥ 16 then { g with state := .running, goodRun := 0 } else { g with goodRun := g.goodRun + 1 }
    else { g with goodRun := 0 }
  | .unconfigured => g

/-! ### The stabiliser's sample -/

/-- The corrected rate r of one axis (R90). -/
def correctedRate (state : PortState) (rate : Option Int) (bias : Int) : Int :=
  match state, rate with
  | .running, some v => v - bias
  | _, _ => 0

/-- Pan detection on one axis while the port is RUNNING (R91). -/
def panStep (r : Int) (a : StabAxis) : StabAxis :=
  match a.pan with
  | .steady =>
    let run := if r.natAbs > a.settings.panThreshold then a.panRun + 1 else 0
    if run ≥ a.settings.panEnter then { a with pan := .panning, panRun := 0 } else { a with panRun := run }
  | .panning =>
    let run := if 2 * r.natAbs < a.settings.panThreshold then a.panRun + 1 else 0
    if run ≥ a.settings.panExit then { a with pan := .steady, panRun := 0 } else { a with panRun := run }

/-- The leak coefficient of one axis (R92). -/
def leakCoefficient (state : PortState) (a : StabAxis) : Nat :=
  if state = .failed then a.settings.leakPan else match a.pan with
  | .steady => a.settings.leakSteady
  | .panning => a.settings.leakPan

/-- The accumulator's range (R92). -/
def accMax : Int := 16777215

/-- Integration of one axis (R92). -/
def integrate (state : PortState) (r : Int) (a : StabAxis) : StabAxis :=
  let leak := truncDiv (a.acc * leakCoefficient state a) 65536
  { a with acc := clampInt (-accMax) accMax (a.acc + r * a.settings.gain - leak) }

/-- The bias capture ends: its completion report is made with the tag of the command that began it (R94). -/
def endCapture (st : Status) (count : Nat) (tag : Half) (s : State) : State :=
  offer (.completion st tag 0x0043 (.bias s.stab.x.bias s.stab.y.bias count) none)
    { s with stab := { s.stab with capture := none } }

/-- A bias capture in progress ends ABORTED, its biases as they were (R94). -/
def abortCapture (s : State) : State :=
  match s.stab.capture with
  | some c => endCapture .aborted c.count c.tag s
  | none => s

/-- Collecting for a bias capture (R94): a good sample that carries RUNNING is added; the 256th ends the capture DONE,
and the new biases are used from the next sample event. -/
def collectSample (good : Bool) (rates : Int × Int) (s : State) : State :=
  match s.stab.capture with
  | some c =>
    if good && s.gyro.state == .running then
      let sx := c.sumX + rates.1
      let sy := c.sumY + rates.2
      if c.count + 1 ≥ 256 then
        endCapture .done 256 c.tag { s with stab := { s.stab with
          x := { s.stab.x with bias := roundDiv sx 256 }, y := { s.stab.y with bias := roundDiv sy 256 } } }
      else { s with stab := { s.stab with capture := some { c with count := c.count + 1, sumX := sx, sumY := sy } } }
    else s
  | none => s

/-- An axis's pan state changed: PAN_STATE is raised, and entering PANNING then ends a capture (R91, R94), in this order
(DESIGN CHOICE, log entry 51). -/
def reportPan (axis : ImageAxis) (before after : PanState) (s : State) : State :=
  if before = after then s else
  let s := raiseEvent (.panState axis after) s
  if after = .panning then abortCapture s else s

/-- The port's entry into FAILED during a sample sets both pan runs to 0 and ends a capture (R91, R94), after the port has
raised GYRO_STATE (DESIGN CHOICE, log entry 51). -/
def enterFailed (s : State) : State :=
  abortCapture { s with stab := { s.stab with
    x := { s.stab.x with panRun := 0 }, y := { s.stab.y with panRun := 0 } } }

/-- Pan detection on both axes at the corrected rates (R91); it does not run while the port is FAILED. When both pan states
change at one sample, x is reported first, with the completion of a capture it ends, and y after it (DESIGN CHOICE, log entry
39). -/
def detectPans (rx ry : Int) (s : State) : State :=
  if s.gyro.state != .running then s else
  let x := panStep rx s.stab.x
  let y := panStep ry s.stab.y
  let bx := s.stab.x.pan
  let byy := s.stab.y.pan
  reportPan .y byy y.pan (reportPan .x bx x.pan { s with stab := { s.stab with x := x, y := y } })

/-- Integration of both axes (R92). -/
def integrateBoth (rx ry : Int) (s : State) : State :=
  { s with stab := { s.stab with
    x := integrate s.gyro.state rx s.stab.x, y := integrate s.gyro.state ry s.stab.y } }

/-- The sample event of a transaction's end (R88 to R94): judged, the port state updated, then collecting, pan detection and
integration in that order. -/
def sampleEnds (b : GyroBytes) (s : State) : State :=
  let good := sampleGood s.gyro.setup b
  let before := s.gyro.state
  let g := judgeSample good (gyroRates b) s.gyro
  let s := { s with gyro := { g with transaction := false } }
  let s := if g.state != before then raiseEvent (.gyroState g.state) s else s
  let s := if g.state == .failed && before != .failed then enterFailed s else s
  let rx := correctedRate g.state (g.last.map Prod.fst) s.stab.x.bias
  let ry := correctedRate g.state (g.last.map Prod.snd) s.stab.y.bias
  integrateBoth rx ry (detectPans rx ry (collectSample good (gyroRates b) s))

/-! ### The frame mark (R98 to R102) -/

/-- What a frame mark's computation gives the other blocks (R100, R101, R102). -/
structure Correction where
  demandX : Int
  demandY : Int
  enable : Bool
  dx : Int
  dy : Int
  limitedX : Bool
  limitedY : Bool
  deriving DecidableEq, Repr

/-- Stage 1: the displacement corr16 (R99). -/
def displacement (focal pitch : Nat) (a : StabAxis) : Int :=
  let p16 := roundDiv (a.acc * focal) (16000 * pitch)
  if a.settings.negative then -p16 else p16

/-- Stage 2: the optical range S16 of a shift range in µm (R99). -/
def opticalRange (pitch shift : Nat) : Int := ((shift * 16000 / pitch : Nat) : Int)

/-- The optical path is active (R100). -/
def opticalActive (s : State) : Bool :=
  s.stab.mode == .hybrid && s.stab.optical && s.lens.link.up
    && (match s.lens.identity with
        | some i => i.shiftX != 0 || i.shiftY != 0
        | none => false)

/-- The shift ranges of the stored identity, 0 while none is stored (R99). -/
def shiftRanges (identity : Option Identity) : Nat × Nat :=
  match identity with
  | some i => (i.shiftX, i.shiftY)
  | none => (0, 0)

/-- Stage 4: the actual shift a16 of one axis (R101). -/
def actualShift (s : State) (actual : Position → Int) : Int :=
  if s.stab.mode = .off then 0 else
  match operatorInputs s with
  | some p => roundDiv (actual p * 16000) s.stab.pixelPitch
  | none => 0

/-- Stage 5: the electronic share of one axis and whether its clamp acted (R101). -/
def electronicShare (mode : StabMode) (corr a16 : Int) (margin : Nat) : Int × Bool :=
  if mode = .off then (0, false) else
  let e := corr - a16
  let lim : Int := 16 * margin
  (clampInt (-lim) lim e, clampInt (-lim) lim e != e)

/-- The stabiliser's work for a frame mark (R98): stages 1 to 3, and with the margins of a capture mark stages 4 to 6. -/
def stabMark (margins : Option (Nat × Nat)) (s : State) : State × Correction :=
  let st := s.stab
  let p := st.pixelPitch
  let cx := displacement s.lens.focal p st.x
  let cy := displacement s.lens.focal p st.y
  let ranges := shiftRanges s.lens.identity
  let active := opticalActive s
  let ox := if active then clampInt (-(opticalRange p ranges.1)) (opticalRange p ranges.1) cx else 0
  let oy := if active then clampInt (-(opticalRange p ranges.2)) (opticalRange p ranges.2) cy else 0
  let demX := if active then roundDiv (ox * p) 16000 else 0
  let demY := if active then roundDiv (oy * p) 16000 else 0
  match margins with
  | none =>
    ({ s with stab := { st with x := { st.x with corr16 := cx, o16 := ox }, y := { st.y with corr16 := cy, o16 := oy } } },
     { demandX := demX, demandY := demY, enable := active, dx := 0, dy := 0, limitedX := false, limitedY := false })
  | some (mx, my) =>
    let ax := actualShift s fun q => q.shiftX
    let ay := actualShift s fun q => q.shiftY
    let ex := electronicShare st.mode cx ax mx
    let ey := electronicShare st.mode cy ay my
    ({ s with stab := { st with
        x := { st.x with corr16 := cx, o16 := ox, a16 := ax, e16 := ex.1 }
        y := { st.y with corr16 := cy, o16 := oy, a16 := ay, e16 := ey.1 } } },
     { demandX := demX, demandY := demY, enable := active, dx := 4 * roundDiv ex.1 64, dy := roundDiv ey.1 16
       limitedX := ex.2, limitedY := ey.2 })

/-- The correction is limited (R101). -/
def Correction.limited (c : Correction) : Bool := c.limitedX || c.limitedY

/-- The last latched limited flag takes the new value, and a newly limited capture raises STAB_LIMIT (R103). -/
def latchLimited (seq : Half) (c : Correction) (s : State) : State :=
  let was := s.stab.limited
  let s := { s with stab := { s.stab with limited := c.limited } }
  if c.limited && !was then raiseEvent (.stabLimit seq c.limitedX c.limitedY) s else s

/-! ### Commands -/

/-- GYRO SETUP (R86). -/
def gyroSetup (r : CommandRecord) (s : State) : State × Completion :=
  match ClockPolarity.ofCode (r.byte 6), ClockPhase.ofCode (r.byte 7) with
  | some polarity, some phase =>
    let rate := r.half 8
    if rate ≠ 1000 ∧ rate ≠ 2000 then refuses .refusedRange s else
    let clock := clampNat 1000 10000 (r.half 4)
    let was := s.gyro.state
    let setup : PortSetup :=
      { clockKHz := clock, polarity := polarity, phase := phase, sampleRate := rate, command := byteOf (r.byte 10)
        validMask := byteOf (r.byte 11), validValue := byteOf (r.byte 12) }
    let s := abortCapture { s with gyro := { s.gyro with
      setup := setup, transaction := false, badRun := 0, goodRun := 0, timer := some s.now
      state := if was = .unconfigured then .running else was } }
    let s := if was = .unconfigured then raiseEvent (.gyroState .running) s else s
    completes (doneOrClamped (clock != r.half 4)) s
  | _, _ => refuses .refusedRange s

/-- The settings of one axis, from byte `n` of STAB SETUP, and whether a value was changed; absent for a polarity that
names neither (R95, R207). -/
def stabSettingsOf (r : CommandRecord) (n : Nat) : Option (StabSettings × Bool) :=
  let k := clampNat 1 65535 (r.half n)
  let steady := min 4095 (r.half (n + 3))
  let pan := min 4095 (r.half (n + 5))
  let threshold := clampNat 1 32767 (r.half (n + 7))
  let enter := clampNat 1 255 (r.byte (n + 9))
  let leave := clampNat 1 255 (r.byte (n + 10))
  let changed := k != r.half n || steady != r.half (n + 3) || pan != r.half (n + 5) || threshold != r.half (n + 7)
    || enter != r.byte (n + 9) || leave != r.byte (n + 10)
  let settings := fun neg => ({ gain := k, negative := neg, leakSteady := steady, leakPan := pan
                                panThreshold := threshold, panEnter := enter, panExit := leave } : StabSettings)
  match r.byte (n + 2) with
  | 1 => some (settings false, changed)
  | 255 => some (settings true, changed)
  | _ => none

/-- STAB SETUP (R95). -/
def stabSetup (r : CommandRecord) (s : State) : State × Completion :=
  match stabSettingsOf r 4, stabSettingsOf r 15, flagOfCode (r.byte 28) with
  | some x, some y, some optical =>
    let pitch := clampNat 1000 20000 (r.half 26)
    completes (doneOrClamped (x.2 || y.2 || pitch != r.half 26)) { s with stab := { s.stab with
      x := { s.stab.x with settings := x.1 }, y := { s.stab.y with settings := y.1 }
      pixelPitch := pitch, optical := optical } }
  | _, _, _ => refuses .refusedRange s

/-- Both accumulators set to 0 (R96, R97). -/
def recentre (s : State) : State :=
  { s with stab := { s.stab with x := { s.stab.x with acc := 0 }, y := { s.stab.y with acc := 0 } } }

/-- STAB MODE (R96). -/
def stabMode (r : CommandRecord) (s : State) : State × Completion :=
  match StabMode.ofCode (r.byte 4) with
  | none => refuses .refusedRange s
  | some m =>
    let s := if s.stab.mode = .off ∧ m ≠ .off then recentre s else s
    completes .done { s with stab := { s.stab with mode := m } }

/-- STAB RECENTRE (R97). -/
def stabRecentre (_r : CommandRecord) (s : State) : State × Completion := completes .done (recentre s)

/-- BIAS CAPTURE's checks (R93), in order. -/
def biasChecks (s : State) : List (Bool × Status) :=
  [(s.stab.capture.isSome, .refusedBusy),
   (s.gyro.state != .running, .refusedState),
   (s.stab.x.pan == .panning || s.stab.y.pan == .panning, .refusedState)]

/-- BIAS CAPTURE (R93): a capture that begins makes no completion report at its execution. -/
def biasCapture (r : CommandRecord) (s : State) : State × Option Completion :=
  match firstRefusal (biasChecks s) with
  | some st => (s, some { status := st })
  | none =>
    ({ s with stab := { s.stab with capture := some { count := 0, sumX := 0, sumY := 0, tag := r.tag } } }, none)

/-- One stabiliser axis after RESET JOB STAB: settings and last computed values kept (R107). -/
def StabAxis.resetJob (a : StabAxis) : StabAxis := { a with bias := 0, acc := 0, pan := .steady, panRun := 0 }

/-- RESET JOB STAB and the part of RESET JOB PART (R107). A capture in progress ends ABORTED with the biases in force, before
they are zeroed (R94, log entry 15), and its completion is offered before GYRO_STATE (DESIGN CHOICE, log entry 40). -/
def resetStab (s : State) : State :=
  let was := s.gyro.state
  let s := abortCapture s
  let s := { s with
    gyro := { s.gyro with transaction := false, timer := none, state := .unconfigured, last := none, badRun := 0
                          goodRun := 0 }
    stab := { s.stab with x := s.stab.x.resetJob, y := s.stab.y.resetJob, mode := .off, limited := false } }
  if was != .unconfigured then raiseEvent (.gyroState .unconfigured) s else s

end Sys2Proof.Machine
end

