-- ==== Sys2Proof/Machine/Lens.lean ====
section
/-! DEFINITION. The lens link controller: receiving (R43 to R46), sending (R47, R48), link states (R49, R50), identity (R51,
R52), cycles (R53 to R56), focal length (R58), its commands (R59) and the reset (R63). -/

namespace Sys2Proof.Machine

/-! ### The wire (R43) -/

/-- The bits of a character on the line, in the order they are sent: the start bit (low), 8 data bits with the least
significant first, the parity bit and the stop bit; true is a released line, false a line driven low (R43). -/
def characterBits (c : LineChar) : List Bool :=
  false :: (List.range 8).map (fun i => c.data.getLsbD i) ++ [c.parity, c.stopHigh]

/-- The level of the line, pulled high where both ends release it: a zero driven by either end is seen by both (R43). -/
def lensLine (part lens : Bool) : Bool := part && lens

/-! ### Frames (R44, 11.5) -/

/-- The SYNC byte. -/
def syncByte : Byte := 0xA5

/-- Frame type codes of received frames (11.5). -/
def positionType : Byte := 0x20
/-- IDENTITY. -/
def identityType : Byte := 0x21
/-- NOTICE. -/
def noticeType : Byte := 0x22

/-- The sum of bytes modulo 256. -/
def sumBytes (bs : List Byte) : Byte := bs.foldl (fun a b => a + b) 0

/-- A whole frame: SYNC, TYPE, LEN, payload and the CHECK that makes the sum 0 modulo 256 (R44, R211). -/
def composeFrame (ty : Nat) (payload : List Byte) : List Byte :=
  let body := byteOf ty :: byteOf payload.length :: payload
  syncByte :: body ++ [0 - sumBytes body]

/-- An IDENTIFY REQUEST (R211). -/
def identifyRequestFrame : TxFrame :=
  { kind := .identifyRequest, bytes := composeFrame 0x11 [], cancels := 0, live := true }

/-- The number of ones among the data bits and the parity bit of a character. -/
def onesOf (c : LineChar) : Nat :=
  ((List.range 8).filter fun i => c.data.getLsbD i).length + (if c.parity then 1 else 0)

/-- The character has a parity error, or its stop bit is read low (R43). -/
def LineCharBad (c : LineChar) : Bool := onesOf c % 2 == 0 || !c.stopHigh

/-- What a character does to the receiver (R45). -/
inductive Reception where
  | hunting
  | assembling (a : Assembly)
  | abandoned
  | received (start : Nat) (ty : Byte) (payload : List Byte)
  deriving DecidableEq, Repr

/-- The receiver reads a character whose start bit lies at `start` (R45). -/
def receive (rx : Option Assembly) (start : Nat) (c : LineChar) : Reception :=
  match rx with
  | none =>
    if LineCharBad c then .hunting
    else if c.data = syncByte then .assembling { start := start, bytes := [] } else .hunting
  | some a =>
    if LineCharBad c then .abandoned else
    match a.bytes with
    | [] => .assembling { a with bytes := [c.data] }
    | [ty] => if c.data.toNat > 64 then .abandoned else .assembling { a with bytes := [ty, c.data] }
    | ty :: len :: payload =>
      if payload.length < len.toNat then .assembling { a with bytes := a.bytes ++ [c.data] }
      else if sumBytes (a.bytes ++ [c.data]) = 0 then .received a.start ty payload else .abandoned

/-- A POSITION payload as stored (R46, 11.5). -/
def positionOf (p : List Byte) : Position :=
  { zoom := field p 0 2, focus := field p 2 2, iris := field p 4 2, fNumber := field p 6 2
    shiftX := signed 16 (field p 8 2), shiftY := signed 16 (field p 10 2)
    extender := clampNat 100 400 (field p 12 2), rocker := max (-127) (signed 8 (field p 14 1))
    wheel := field p 15 2, status := byteOf (field p 17 1) }

/-- An IDENTITY payload (R211, 11.5). -/
def identityOf (p : List Byte) : Identity :=
  { name := p.take 12
    zoomMin := field p 12 2, zoomMax := field p 14 2, focusMin := field p 16 2, focusMax := field p 18 2
    irisMin := field p 20 2, irisMax := field p 22 2
    focal := (List.range 9).map fun i => field p (24 + 3 * i) 3
    shiftX := min 32767 (field p 51 2), shiftY := min 32767 (field p 53 2), extender := field p 55 1 != 0 }

/-- What a received frame is (R45): a valid POSITION, IDENTITY or NOTICE, or one to be discarded. -/
inductive Received where
  | position (p : Position)
  | identity (i : Identity)
  | notice (n : Notice)
  | discarded
  deriving DecidableEq, Repr

/-- A received frame is checked for its type (R45). -/
def classifyFrame (ty : Byte) (payload : List Byte) : Received :=
  if ty = positionType ∧ payload.length = 18 then .position (positionOf payload)
  else if ty = identityType ∧ payload.length = 56 then
    let i := identityOf payload
    if i.zoomMin ≤ i.zoomMax ∧ i.focusMin ≤ i.focusMax ∧ i.irisMin ≤ i.irisMax then .identity i else .discarded
  else if ty = noticeType ∧ payload.length = 1 then
    match Notice.ofCode (field payload 0 1) with
    | some n => .notice n
    | none => .discarded
  else .discarded

/-! ### What the part drives (R43) -/

/-- A character the part sends: its data with odd parity and a high stop bit (R43). -/
def ownCharacter (b : Byte) : LineChar :=
  { data := b, parity := onesOf { data := b, parity := false, stopHigh := true } % 2 == 0, stopHigh := true }

/-- The bits of a frame of the part's own, its characters back to back with no gap (R43). -/
def TxFrame.bits (f : TxFrame) : List Bool := f.bytes.flatMap fun b => characterBits (ownCharacter b)

/-- What the part does with the LENS line now: the bit of the frame being sent whose bit time this is, false driving the line
low; it releases the line while it sends none (R43, R47). -/
def State.drivesLens (s : State) : Bool :=
  match s.lens.sending with
  | some f => f.bits.getD ((s.now - s.lens.sentAt) / bitTime) true
  | none => true

/-- The start bit of the character now on the line, whoever sends it; absent between characters (R43). -/
def characterOnLine (s : State) : Option Nat :=
  match s.lens.sending with
  | some f =>
    let passed := s.now - s.lens.sentAt
    if passed / byteTime < f.bytes.length ∧ passed % byteTime ≠ 0
    then some (s.lens.sentAt + passed / byteTime * byteTime) else none
  | none => s.lens.charStart

/-! ### Focal length (R58) -/

/-- The extender factor e (R58). -/
def extenderFactor (i : Identity) (p : Position) : Nat := if i.extender then p.extender else 100

/-- F at a POSITION (R58). -/
def focalLength (i : Identity) (p : Position) : Nat :=
  let k := p.zoom / 8192
  let f := p.zoom % 8192
  let lo := i.focal.getD k 0
  let hi := i.focal.getD (k + 1) 0
  let bare : Int := (lo : Int) + truncDiv (((hi : Int) - (lo : Int)) * f) 8192
  (truncDiv (bare * extenderFactor i p) 100).toNat

/-- F is recomputed while an identity is stored (R58). -/
def recomputeFocal (l : LensLink) : LensLink :=
  match l.identity, l.position with
  | some i, some p => { l with focal := focalLength i p }
  | _, _ => l

/-! ### Link states (R49, R50, R59) -/

/-- LENS_STATE is raised with the state and the miss count as they now stand (R49). -/
def raiseLensState (changed : Bool) (s : State) : State :=
  raiseEvent (.lensState s.lens.link s.lens.miss changed) s

/-- A DEMAND among the transmitter's frames. -/
def isDemand (f : TxFrame) : Bool := f.kind == .demand

/-- A frame being sent completes without a reply window or a retry: its cycle or request is over (R50, R56). -/
def TxFrame.over (f : TxFrame) : TxFrame := { f with live := false }

/-- Entering SEEKING (R50): a waiting DEMAND is discarded, the window closes, the miss count is 0, the seek timer expires at
once; a DEMAND being sent completes and opens no window. -/
def enterSeeking (s : State) : State :=
  { s with lens := { s.lens with
    link := .seeking, waiting := s.lens.waiting.filter fun f => !isDemand f, window := none, miss := 0
    sending := s.lens.sending.map fun f => if isDemand f then f.over else f
    seek := some s.now } }

/-- Becoming ONLINE; from SEEKING a waiting IDENTIFY REQUEST is discarded and the seek timer stops (R50). -/
def becomeOnline (s : State) : State :=
  { s with lens := { s.lens with
    link := .online, seek := none
    waiting := s.lens.waiting.filter isDemand
    sending := s.lens.sending.map fun f => if isDemand f then f else f.over } }

/-- A missed cycle (R55): the window closes, the count grows; ONLINE goes to DEGRADED, the eighth miss to SEEKING, which is a
link loss (R49, R81). -/
def missCycle (s : State) : State :=
  let counted := { s with lens := { s.lens with window := none, miss := s.lens.miss + 1 } }
  match s.lens.link with
  | .online => raiseLensState false { counted with lens := { counted.lens with link := .degraded } }
  | .degraded =>
    if counted.lens.miss ≥ 8 then linkLoss (raiseLensState false (enterSeeking counted)) else counted
  | _ => s

/-- The frame that started at `start` started within the window (R54). -/
def ReplyWindow.contains (w : ReplyWindow) (start : Nat) : Bool := w.opens ≤ start && start ≤ w.closes

/-- A frame that is no valid POSITION ends (R54): a window it held open past its 2 ms closes with a miss. -/
def endHeldWindow (start : Nat) (s : State) : State :=
  match s.lens.window with
  | some w => if w.contains start && decide (w.closes ≤ s.now) then missCycle s else s
  | none => s

/-- The provisional identity is dropped when its 2 ms are over (R51). -/
def lapseProvisional (s : State) : State :=
  match s.lens.provisional with
  | some q => if q.deadline ≤ s.now then { s with lens := { s.lens with provisional := none } } else s
  | none => s

/-- The frame under assembly is abandoned (R45): hunting again; a window it held open closes (R54), and a POSITION that was
to complete an identity reply drops the provisional identity (R51). Of a frame abandoned before its TYPE is read nobody knows
whether it was the POSITION: the model keeps the provisional identity until its 2 ms are over (DESIGN CHOICE, log entry 56). -/
def abandonFrame (a : Assembly) (s : State) : State :=
  let s := { s with lens := { s.lens with rx := none } }
  let s := match s.lens.provisional with
    | some q => if a.bytes.head? = some positionType ∧ a.start ≤ q.deadline
        then { s with lens := { s.lens with provisional := none } } else s
    | none => s
  endHeldWindow a.start (lapseProvisional s)

/-- A frame whose last character ended more than 2 byte times ago, with no start bit since, is abandoned (R45). -/
def abandonOnGap (s : State) : State :=
  match s.lens.rx with
  | some a => if s.now > s.lens.lineSince + 2 * byteTime then abandonFrame a s else s
  | none => s

/-! ### Taking a frame (R46, R51, R52, R57) -/

/-- The position record is replaced, the miss count is 0 and F is recomputed (R46). -/
def storePosition (p : Position) (s : State) : State :=
  { s with lens := recomputeFocal { s.lens with position := some p, miss := 0 } }

/-- A POSITION taken in ONLINE or DEGRADED that completes no identity reply (R46). -/
def takePosition (p : Position) (s : State) : State :=
  let was := s.lens.link
  let s := storePosition p s
  if was = .degraded then raiseLensState false (becomeOnline s) else s

/-- The two identities differ in name, in an axis minimum or maximum, or in a shift range (R51, R52). -/
def identityDiffers (a b : Identity) : Bool :=
  a.name != b.name || a.zoomMin != b.zoomMin || a.zoomMax != b.zoomMax || a.focusMin != b.focusMin
    || a.focusMax != b.focusMax || a.irisMin != b.irisMin || a.irisMax != b.irisMax
    || a.shiftX != b.shiftX || a.shiftY != b.shiftY

/-- An identity reply is completed by a POSITION (R51, R52). -/
def completeReply (i : Identity) (p : Position) (s : State) : State :=
  let was := s.lens.link
  let stored := s.lens.identity
  let s := { s with lens := { s.lens with identity := some i, provisional := none } }
  let s := becomeOnline (storePosition p s)
  match stored with
  | some old =>
    if identityDiffers old i then raiseLensState true (align p (flushAll s))
    else
      let s := if was = .seeking then align p s else s
      if was = .online then s else raiseLensState false s
  | none =>
    let s := align p s
    if was = .online then s else raiseLensState false s

/-- The cycle is answered by a POSITION that started within the window (R54). -/
def answerCycle (start : Nat) (s : State) : State :=
  match s.lens.window with
  | some w => if w.contains start then { s with lens := { s.lens with window := none } } else s
  | none => s

/-- A valid POSITION that started at `start` (R46, R51, R54). -/
def positionArrives (start : Nat) (p : Position) (s : State) : State :=
  let completing := match s.lens.provisional with
    | some q => if start ≤ q.deadline then some q.identity else none
    | none => none
  match s.lens.link, completing with
  | .absent, _ => s
  | _, some i => answerCycle start (completeReply i p s)
  | .seeking, none => lapseProvisional s
  | _, none => lapseProvisional (answerCycle start (takePosition p s))

/-- A valid IDENTITY (R51): the provisional identity, its 2 ms running from now; discarded in ABSENT. -/
def identityArrives (start : Nat) (i : Identity) (s : State) : State :=
  if s.lens.link = .absent then s else
  endHeldWindow start
    { s with lens := { s.lens with provisional := some { identity := i, deadline := s.now + twoMs } } }

/-- A valid NOTICE (R57): LENS_NOTICE, and a RECORD BUTTON is handed to the record tracker; discarded in ABSENT. LENS_NOTICE
comes first, then the record tracker's events, then the LENS_STATE of a cycle missed at this frame's end (R54); no rule
orders them (DESIGN CHOICE, log entry 50). -/
def noticeArrives (start : Nat) (n : Notice) (s : State) : State :=
  if s.lens.link = .absent then s else
  let s := raiseEvent (.lensNotice n) s
  let s := if n = .recordButton then recordButton s else s
  endHeldWindow start (lapseProvisional s)

/-- Nothing is taken of what started at `start`: a received frame that is discarded, or a character that starts no frame
(R45). A window it held open past its 2 ms closes with a miss (R54), and a provisional identity it kept past its 2 ms is
dropped (R51). -/
def nothingTaken (start : Nat) (s : State) : State := endHeldWindow start (lapseProvisional s)

/-- A received frame takes effect (R45, R46, R51, R57). -/
def frameTaken (start : Nat) (r : Received) (s : State) : State :=
  match r with
  | .position p => positionArrives start p s
  | .identity i => identityArrives start i s
  | .notice n => noticeArrives start n s
  | .discarded => nothingTaken start s

/-! ### The part's own characters read back (3.2) -/

/-- What the receiver makes of the character that started at `begun` changes the state (R45). -/
def applyReception (begun : Nat) (r : Reception) (s : State) : State :=
  match r with
  | .hunting => nothingTaken begun s
  | .assembling a => { s with lens := { s.lens with rx := some a } }
  | .abandoned => match s.lens.rx with
    | some a => abandonFrame a s
    | none => s
  | .received start ty payload =>
    frameTaken start (classifyFrame ty payload) { s with lens := { s.lens with rx := none } }

/-- The receiver reads the next character of the frame being sent: characters follow one another with no gap (R43, 3.2). -/
def readOwn (s : State) (b : Byte) : State :=
  let start := s.lens.sentAt + s.lens.readBack * byteTime
  applyReception start (receive s.lens.rx start (ownCharacter b))
    { s with lens := { s.lens with readBack := s.lens.readBack + 1, lineSince := start + byteTime } }

/-- The receiver has read every character of the frame being sent that ended by `t` (3.2). The model reads them back where the
next character, the frame's end or its stopping comes (DESIGN CHOICE, log entry 44). -/
def readBackUntil (t : Nat) (s : State) : State :=
  match s.lens.sending with
  | some f => ((f.bytes.take ((t - s.lens.sentAt) / byteTime)).drop s.lens.readBack).foldl readOwn s
  | none => s

/-- The part stops driving a frame at once: the whole characters it sent have been read back, and the one it was sending, if
any, goes on with the line released, to end as a character on the line (R47, R48, R59, log entry 36). -/
def stopDriving (s : State) : State :=
  match s.lens.sending with
  | some _ =>
    let s := readBackUntil s.now s
    { s with lens := { s.lens with sending := none, charStart := characterOnLine s } }
  | none => s

/-- Entering ABSENT, once the part has stopped driving any frame (R59): an IDENTIFY REQUEST being sent stops too, which R50
would let complete (DESIGN CHOICE, log entry 37). -/
def enterAbsent (s : State) : State :=
  { s with lens := { s.lens with
    link := .absent, waiting := none, sending := none, window := none, provisional := none, miss := 0, seek := none } }

/-! ### The lens's characters (R43, R45, R47) -/

/-- The line after the character `c`, whose stop bit ends now: idle time counts from here, or from the line's return to high
where the stop bit was read low (R43, R47). -/
def lineHeard (c : LineChar) (s : State) : State :=
  { s with lens := { s.lens with charStart := none, lineLow := !c.stopHigh, lineSince := s.now } }

/-- The character `c`, whose start bit stands on the line, ends: where it started, what the receiver makes of it, and the
state it is read in, at the earliest one byte time after that start bit (R43, R45). No character ends without its start
bit. -/
def readCharacter (c : LineChar) (s : State) : Option (Nat × Reception × State) :=
  s.lens.charStart.map fun start =>
    (start, receive s.lens.rx start c, lineHeard c (reachTime (start + byteTime) s))

/-- A start bit of the lens's falls: the line is no longer idle (R47). A frame under assembly whose gap had run out is
abandoned first (R45). No start bit falls in a character, in a frame of the part's own, or on a line that has not returned
high (DESIGN CHOICE, log entry 53). -/
def startBitFalls (s : State) : State :=
  if s.lens.charStart.isSome || s.lens.lineLow || s.lens.sending.isSome then s else
  let s := abandonOnGap (reachTime s.lens.lineSince s)
  { s with lens := { s.lens with charStart := some s.now } }

/-- The line returns high after a stop bit read low: only now can it be idle (R43). -/
def lineReturnsHigh (s : State) : State :=
  if s.lens.lineLow then
    let s := reachTime s.lens.lineSince s
    { s with lens := { s.lens with lineLow := false, lineSince := s.now } }
  else s

/-! ### The transmitter (R47, R48, R54) -/

/-- A frame joins the transmitter and replaces any frame waiting (R47). -/
def joinTransmitter (f : TxFrame) (s : State) : State := { s with lens := { s.lens with waiting := some f } }

/-- The waiting frame starts after 2 byte times of idle line (R47). A frame under assembly whose gap has run out is abandoned
first, which may discard a waiting DEMAND (R45, R50). -/
def startFrame (s : State) : State :=
  let s := abandonOnGap (reachTime (s.lens.lineSince + 2 * byteTime) s)
  match s.lens.waiting with
  | some f => { s with lens := { s.lens with waiting := none, sending := some f, sentAt := s.now, readBack := 0 } }
  | none => s

/-- When the last stop bit of a frame being sent ends (R43, R47). -/
def TxFrame.stop (f : TxFrame) (s : State) : Nat := s.lens.sentAt + f.bytes.length * byteTime

/-- The frame being sent leaves the transmitter; a current DEMAND opens its reply window, at the end of its last stop bit (R47,
R54). -/
def completeFrame (f : TxFrame) (s : State) : State :=
  { s with lens := { s.lens with
    sending := none
    window := if isDemand f && f.live && s.lens.link.up then some { opens := f.stop s, closes := f.stop s + twoMs }
      else s.lens.window } }

/-- The frame being sent is cancelled (R48): retried once; the cancellation of its retry gives it up with LINK_COLLISION. A
frame whose cycle or request is over, or that a newer frame already waits behind, is not retried (log entry 14). -/
def cancelFrame (f : TxFrame) (s : State) : State :=
  let s := stopDriving s
  if f.cancels ≠ 0 then raiseEvent (.linkCollision f.kind) s
  else if !f.live || s.lens.waiting.isSome then s
  else joinTransmitter { f with cancels := 1 } s

/-! ### Cycles (R53, R56) -/

/-- The previous cycle of a frame mark is settled (R56). -/
def settleCycle (s : State) : State :=
  if !s.lens.link.up then s
  else if s.lens.window.isSome then missCycle s
  else if (s.lens.waiting.map isDemand).getD false then missCycle s
  else match s.lens.sending with
    | some f => if isDemand f && f.live
        then missCycle { s with lens := { s.lens with sending := some f.over } } else s
    | none => s

/-- A shift demand clamped to ± the shift range (R53). -/
def clampShift (range : Nat) (v : Int) : Int := clampInt (-(range : Int)) range v

/-- The DEMAND of a cycle (R53, R211). -/
def demandFrame (c : Correction) (s : State) : TxFrame :=
  let i := s.lens.identity
  let ranges := shiftRanges i
  let enable := c.enable && (ranges.1 != 0 || ranges.2 != 0)
  let sx := if ranges.1 = 0 ∧ ranges.2 = 0 then 0 else clampShift ranges.1 c.demandX
  let sy := if ranges.1 = 0 ∧ ranges.2 = 0 then 0 else clampShift ranges.2 c.demandY
  { kind := .demand, cancels := 0, live := true
    bytes := composeFrame 0x10
      (leNat 2 (clampAxis i .zoom s.axis.zoom.demand) ++ leNat 2 (clampAxis i .focus s.axis.focus.demand)
        ++ leNat 2 (clampAxis i .iris s.axis.iris.demand) ++ leInt 2 sx ++ leInt 2 sy ++ [flagByte enable]) }

/-- A cycle opens while the link is ONLINE or DEGRADED: its DEMAND joins the transmitter (R53). -/
def openCycle (c : Correction) (s : State) : State :=
  if s.lens.link.up then joinTransmitter (demandFrame c s) s else s

/-! ### Commands (R59) -/

/-- LENS LINK naming enable, or an action that names none of the three (R59). -/
def lensEnable (r : CommandRecord) (s : State) : State × Completion :=
  if r.linkActionNone then refuses .refusedRange s
  else if s.lens.link = .absent then
    completes .done (raiseLensState false (enterSeeking { s with lens := { s.lens with enable := true } }))
  else completes .done s

/-- LENS LINK naming disable (R59). -/
def lensDisable (_r : CommandRecord) (s : State) : State × Completion :=
  if s.lens.link = .absent then completes .done s else
  let s := stopDriving s
  let was := s.lens.link
  let s := raiseLensState false (enterAbsent { s with lens := { s.lens with enable := false } })
  completes .done (if was.up then linkLoss s else s)

/-- LENS LINK naming re-seek (R59). -/
def lensReSeek (_r : CommandRecord) (s : State) : State × Completion :=
  let was := s.lens.link
  if was = .absent then refuses .refusedState s
  else if was.up then completes .done (linkLoss (raiseLensState false (enterSeeking s)))
  else completes .done (enterSeeking s)

/-- RESET JOB LENS and the part of RESET JOB PART (R63, R85). -/
def resetLens (s : State) : State :=
  let s := stopDriving s
  let was := s.lens.link
  let s := resetEngines (resetAxes s)
  let s := { s with lens := { s.lens with
    identity := none, provisional := none, position := none, waiting := none, window := none, miss := 0
    enable := s.straps.lensEn } }
  let s := if s.straps.lensEn then enterSeeking s else enterAbsent s
  let s := if s.lens.link != was then raiseLensState false s else s
  if was.up then linkLoss s else s

end Sys2Proof.Machine
end

