-- ==== Sys2Proof/Machine/Audio.lean ====
section
/-! DEFINITION. The audio unit: words and routing (R131, R134, R135), the limiter (R137), saturation and clips (R139), a
processed burst (R132, R133), the frame mark (R140 to R146), its commands (R136, R138, R143, R147) and the reset (R150). -/

namespace Sys2Proof.Machine

/-! ### Tables -/

/-- The multipliers round(16,384 × 10^(steps / 40)) of −96 to +48 half-decibel steps (R135). -/
def gainTable : List Nat :=
  [
    65, 69, 73, 78, 82, 87, 92, 98, 103, 110, 116, 123, 130, 138, 146, 155, 164, 174, 184, 195, 206, 218, 231, 245,
    260, 275, 291, 309, 327, 346, 367, 389, 412, 436, 462, 489, 518, 549, 581, 616, 652, 691, 732, 775, 821, 870,
    921, 976, 1034, 1095, 1160, 1229, 1301, 1379, 1460, 1547, 1638, 1735, 1838, 1947, 2063, 2185, 2314, 2451, 2597,
    2751, 2914, 3086, 3269, 3463, 3668, 3885, 4115, 4359, 4618, 4891, 5181, 5488, 5813, 6158, 6523, 6909, 7318,
    7752, 8211, 8698, 9213, 9759, 10338, 10950, 11599, 12286, 13014, 13785, 14602, 15467, 16384, 17355, 18383,
    19472, 20626, 21848, 23143, 24514, 25967, 27506, 29135, 30862, 32690, 34627, 36679, 38853, 41155, 43593, 46176,
    48913, 51811, 54881, 58133, 61577, 65226, 69091, 73185, 77521, 82115, 86980, 92134, 97593, 103376, 109501,
    115990, 122863, 130143, 137854, 146023, 154675, 163840, 173548, 183832, 194724, 206262, 218484, 231430, 245143,
    259669]

/-- The multiplier G of a gain; MUTE, absent, gives 0 (R135). -/
def gainMultiplier (gain : Option Int) : Nat :=
  match gain with
  | some steps => gainTable.getD (steps + 96).toNat 0
  | none => 0

/-- The meter thresholds L_1 to L_32, floor(8,388,607 × 10^((2i − 64) / 20)) (R140). -/
def meterTable : List Nat :=
  [
    6663, 8388, 10560, 13295, 16737, 21071, 26527, 33395, 42042, 52928, 66633, 83886, 105606, 132950, 167374,
    210712, 265271, 333956, 420426, 529285, 666330, 838860, 1056063, 1329504, 1673747, 2107122, 2652710, 3339564,
    4204262, 5292853, 6663307, 8388607]

/-- The segment count c of a period peak (R140). -/
def segmentCount (peak : Nat) : Nat := (meterTable.filter fun l => l ≤ peak).length

/-- The expected count of a period (R145). -/
def expectedCount (rate : FrameRate) (phase : Nat) : Nat :=
  match rate with
  | .r23976 => 2002
  | .r24 => 2000
  | .r25 => 1920
  | .r2997 => if phase = 1 ∨ phase = 3 then 1601 else 1602
  | .r30 => 1600
  | .r50 => 960
  | .r5994 => if phase = 4 then 800 else 801
  | .r60 => 800

/-! ### One sample (R131, R135, R137, R139) -/

/-- Full scale, 8,388,607 (R139). -/
def fullScale : Int := 8388607

/-- The sample of a word: its upper three bytes (R131). -/
def wordSample (word : Nat) : Int := signed 24 (word / 256)

/-- The gained sample y (R135). -/
def gainedSample (multiplier : Nat) (x : Int) : Int := roundDiv (x * multiplier) 16384

/-- The limiter gain that results from a gained sample (R137). -/
def limiterGain (threshold release r : Nat) (y : Int) : Nat :=
  if y.natAbs * r > threshold * 16384 then threshold * 16384 / y.natAbs else min 16384 (r + release)

/-- The output sample: the limited sample clamped to full scale (R139). -/
def saturate (v : Int) : Int := clampInt (-fullScale) fullScale v

/-- The end of the sample range an output sample lies at, if any: a clip (R139). -/
def clipEnd (out : Int) : Option ClipEnd :=
  if out = fullScale then some .positive else if out = -fullScale then some .negative else none

/-- The limiter gain of an output after a gained sample: it stays while the limiter is off (R137). -/
def nextGain (threshold release : Nat) (o : AudioOutput) (y : Int) : Nat :=
  if o.route.limiter then limiterGain threshold release o.r y else o.r

/-- The limited sample of an output with the gain that results (R137). -/
def limitedSample (o : AudioOutput) (r : Nat) (y : Int) : Int :=
  if o.route.limiter then roundDiv (y * r) 16384 else y

/-- What one output does with one sample frame's inputs: the output after it, its output sample, and the clip, if any. -/
def processOutput (threshold release : Nat) (inputs : PerChannel Int) (o : AudioOutput) :
    AudioOutput × Int × Option ClipEnd :=
  let y := gainedSample (gainMultiplier o.route.gain) (inputs.get o.route.source)
  let r := nextGain threshold release o y
  let out := saturate (limitedSample o r y)
  let clip := clipEnd out
  ({ o with r := r, peak := max o.peak out.natAbs, clip := o.clip || clip.isSome }, out, clip)

/-! ### A processed burst (R132, R133) -/

/-- The first of the three conditions a write fails, 1 to 3; absent for a processed burst (R132). -/
def audioFault (addr : Nat) (beats : List Beat) : Option Nat :=
  if addr % 16 ≠ 0 then some 1
  else if beats.length % 2 ≠ 0 then some 2
  else if beats.all fun b => b.enables == 255 then none else some 3

/-- The four words of a sample frame of two beats (7.1). -/
def frameWords (a b : BeatData) : PerChannel Nat :=
  ⟨a.toNat % 2 ^ 32, a.toNat / 2 ^ 32, b.toNat % 2 ^ 32, b.toNat / 2 ^ 32⟩

/-- The output word at a position: the output sample, and the low byte by the flag byte mode (R131). -/
def outputWord (mode : FlagByteMode) (input : Nat) (out : Int) : Nat :=
  (out % 16777216).toNat * 256 + (match mode with
    | .clear => 0
    | .keep => input % 256)

/-- The two beats of a sample frame's output words. -/
def frameBeats (w : PerChannel Nat) : List Beat :=
  [{ data := BitVec.ofNat 64 (w.c1 + w.c2 * 2 ^ 32), enables := 255 },
   { data := BitVec.ofNat 64 (w.c3 + w.c4 * 2 ^ 32), enables := 255 }]

/-- A clip on output `c` (R139): the clip hold is set, and AUDIO_CLIP is raised when the period clip flag was clear. -/
def handClip (c : Channel) (clip : Option ClipEnd) (wasClear : Bool) (s : State) : State :=
  match clip with
  | some e =>
    let s := { s with overlay := { s.overlay with clipHold := 50 } }
    if wasClear then raiseEvent (.audioClip c e) s else s
  | none => s

/-- One sample frame: every output reads the original inputs (R134). R133 and R139 give the outputs of one frame no order:
their AUDIO_CLIP are raised for output 1 first, then 2, 3 and 4 (DESIGN CHOICE, log entry 46). -/
def processFrame (mode : FlagByteMode) (a b : BeatData) (s : State) : State × List Beat :=
  let words := frameWords a b
  let inputs := words.map wordSample
  let u := s.audio
  let run := fun c => processOutput u.threshold u.release inputs (u.outputs.get c)
  let r1 := run .c1
  let r2 := run .c2
  let r3 := run .c3
  let r4 := run .c4
  let s := { s with audio := { u with outputs := ⟨r1.1, r2.1, r3.1, r4.1⟩ } }
  let s := handClip .c1 r1.2.2 (!u.outputs.c1.clip) s
  let s := handClip .c2 r2.2.2 (!u.outputs.c2.clip) s
  let s := handClip .c3 r3.2.2 (!u.outputs.c3.clip) s
  let s := handClip .c4 r4.2.2 (!u.outputs.c4.clip) s
  (s, frameBeats ⟨outputWord mode words.c1 r1.2.1, outputWord mode words.c2 r2.2.1, outputWord mode words.c3 r3.2.1,
    outputWord mode words.c4 r4.2.1⟩)

/-- The sample frames of a burst, in address order (R133). -/
def processFrames (mode : FlagByteMode) : List Beat → State → State × List Beat
  | a :: b :: rest, s =>
    let r := processFrame mode a.data b.data s
    let t := processFrames mode rest r.1
    (t.1, r.2 ++ t.2)
  | beats, s => (s, beats)

/-- A write by the audio writer set (R132, R133): the beats that are forwarded. The period count has no range in R133, and is
kept unbounded (DESIGN CHOICE, log entry 47). -/
def audioWrite (w : WindowRecord) (addr : Nat) (beats : List Beat) (s : State) : State × List Beat :=
  match w.params with
  | .audio mode =>
    match audioFault addr beats with
    | some condition => (raiseEvent (.audioMisaligned addr beats.length condition) s, beats)
    | none =>
      let r := processFrames mode beats s
      ({ r.1 with audio := { r.1.audio with count := r.1.audio.count + beats.length / 2 } }, r.2)
  | _ => (s, beats)

/-! ### The frame mark (R140 to R146) -/

/-- The displayed segment and its decay counter after a period of count `c` (R141). -/
def moveDisplayed (interval c : Nat) (o : AudioOutput) : AudioOutput :=
  if c ≥ o.displayed then { o with displayed := c, decay := 0 }
  else if o.decay + 1 ≥ interval then { o with displayed := o.displayed - 1, decay := 0 }
  else { o with decay := o.decay + 1 }

/-- The held segment and its hold counter after the displayed segment has moved (R142). -/
def moveHeld (time : Nat) (o : AudioOutput) : AudioOutput :=
  if o.displayed > o.held then { o with held := o.displayed, hold := time }
  else if o.hold - 1 = 0 then { o with held := o.displayed, hold := 0 }
  else { o with hold := o.hold - 1 }

/-- One output at a mark: its meter moved, its peak and period clip flag cleared (R144). -/
def closeOutput (u : AudioUnit) (o : AudioOutput) : AudioOutput :=
  { moveHeld u.holdTime (moveDisplayed u.decayInterval (segmentCount o.peak) o) with peak := 0, clip := false }

/-- The drift after a compared period (R146). -/
def nextDrift (drift : Int) (count expected : Nat) : Int :=
  clampInt (-32768) 32767 (drift + (count : Int) - (expected : Int))

/-- The cadence check settles the closed period (R146). -/
def settleCadence (s : State) : State :=
  let u := s.audio
  match u.cadence with
  | .waiting =>
    if u.count > 0 then { s with audio := { u with cadence := .running, phase := 0 } } else s
  | .running =>
    let expected := expectedCount s.frame.rate u.phase
    let drift := nextDrift u.drift u.count expected
    let phase := if u.phase ≥ 4 then 0 else u.phase + 1
    if drift.natAbs > u.tolerance && !u.driftFlag then
      raiseEvent (.avDrift drift u.count expected)
        { s with audio := { u with drift := drift, phase := phase, driftFlag := true } }
    else { s with audio := { u with drift := drift, phase := phase } }

/-- The audio unit's work at a frame mark (R144). -/
def audioMark (s : State) : State :=
  let u := s.audio
  let s := settleCadence { s with audio := { u with outputs := u.outputs.map (closeOutput u) } }
  { s with audio := { s.audio with count := 0 } }

/-! ### Commands -/

/-- The gain a gain field names: −32,768 is MUTE, any other is clamped into −96 to +48 (R136, R207). -/
def gainOf (v : Int) : Option Int := if v = -32768 then none else some (clampInt (-96) 48 v)

/-- AUDIO ROUTE (R136). -/
def audioRoute (r : CommandRecord) (s : State) : State × Completion :=
  match Channel.ofNumber (r.byte 4), Channel.ofNumber (r.byte 5), flagOfCode (r.byte 8) with
  | some out, some source, some limiter =>
    let v := r.signedHalf 6
    let gain := gainOf v
    let o := s.audio.outputs.get out
    completes (doneOrClamped (gain.isSome && gain != some v)) { s with audio := { s.audio with
      outputs := s.audio.outputs.set out { o with
        route := { source := source, gain := gain, limiter := limiter }
        r := if limiter = o.route.limiter then o.r else 16384 } } }
  | _, _, _ => refuses .refusedRange s

/-- AUDIO LIMITER (R138). -/
def audioLimiter (r : CommandRecord) (s : State) : State × Completion :=
  let threshold := clampNat 1 8388607 (r.word 4)
  let release := clampNat 1 1024 (r.half 8)
  completes (doneOrClamped (threshold != r.word 4 || release != r.half 8))
    { s with audio := { s.audio with threshold := threshold, release := release } }

/-- AUDIO METER (R143). -/
def audioMeter (r : CommandRecord) (s : State) : State × Completion :=
  let interval := clampNat 1 15 (r.byte 4)
  let time := min 255 (r.half 6)
  let tolerance := clampNat 1 2000 (r.half 8)
  completes (doneOrClamped (interval != r.byte 4 || time != r.half 6 || tolerance != r.half 8))
    { s with audio := { s.audio with decayInterval := interval, holdTime := time, tolerance := tolerance } }

/-- The cadence check back in WAITING (R147, R150). -/
def AudioUnit.restart (u : AudioUnit) : AudioUnit :=
  { u with cadence := .waiting, count := 0, phase := 0, drift := 0, driftFlag := false }

/-- AUDIO SYNC RESET (R147). -/
def audioSyncReset (_r : CommandRecord) (s : State) : State × Completion :=
  completes .done { s with audio := s.audio.restart }

/-- One output after RESET JOB AUDIO: its route is kept (R150). -/
def AudioOutput.resetJob (o : AudioOutput) : AudioOutput :=
  { o with r := 16384, peak := 0, clip := false, displayed := 0, decay := 0, held := 0, hold := 0 }

/-- RESET JOB AUDIO and the part of RESET JOB PART (R150). -/
def resetAudio (s : State) : State :=
  { s with audio := { s.audio.restart with outputs := s.audio.outputs.map AudioOutput.resetJob } }

end Sys2Proof.Machine
end

