-- ==== Sys2Proof/Config.lean ====
section
/-! DEFINITION. What the part fixes and the manual does not state: the dot patterns of the printing glyphs (R113). -/

namespace Sys2Proof

/-- The glyph pattern the part holds for a printing code 33 to 126: whether the position at column `col` (0 to 7) and
row `row` (0 to 15) is set (R113). The manual says what the codes draw and prints no pattern, so the pattern is a free
value: nothing constrains it. DESIGN CHOICE, safe (log entry 1). -/
opaque Config.glyph : (code col row : Nat) → Bool

end Sys2Proof
end

