-- ==== Sys2Proof/Machine/OverlayUnit.lean ====
section
/-! DEFINITION. The overlay unit: the live snapshot (R111), the viewfinder frame start (R110, R122), text, bars and
visibility (R113 to R116), drawing and zebra (R123, R124), its commands (R119 to R121, R125, R126) and the reset (R130). -/

namespace Sys2Proof.Machine

/-! ### Strings (R114), as glyph codes -/

/-- The decimal digits of a number below 10 to the power `n`, without leading zeros. -/
def decimal : Nat → Nat → List Nat
  | 0, _ => []
  | n + 1, v => if v < 10 then [48 + v] else decimal n (v / 10) ++ [48 + v % 10]

/-- The last `n` decimal digits of a number, with leading zeros. -/
def fixedDecimal : Nat → Nat → List Nat
  | 0, _ => []
  | n + 1, v => fixedDecimal n (v / 10) ++ [48 + v % 10]

/-- A string right-aligned with spaces in `n` characters. -/
def rightAlign (n : Nat) (cs : List Nat) : List Nat := List.replicate (n - cs.length) 32 ++ cs

/-- The TIMECODE string (R114). -/
def timecodeText (t : Timecode) (drop : Bool) : List Nat :=
  fixedDecimal 2 t.hours ++ [58] ++ fixedDecimal 2 t.minutes ++ [58] ++ fixedDecimal 2 t.seconds
    ++ [if drop then 59 else 58] ++ fixedDecimal 2 t.frames

/-- The FOCAL string (R114). -/
def focalText (focal : Nat) : List Nat := rightAlign 4 (decimal 4 (min 9999 (focal / 1000))) ++ [109, 109]

/-- The IRIS string (R114): "F-.-" when no position record is held. -/
def irisText (lens : Option LensView) : List Nat :=
  match lens with
  | some v => [70] ++ decimal 5 (v.fNumber / 10) ++ [46] ++ decimal 1 (v.fNumber % 10)
  | none => [70, 45, 46, 45]

/-- The zoom percent (R114). -/
def zoomPercent (lo hi zoom : Nat) : Nat := if hi = lo then 0 else (clampNat lo hi zoom - lo) * 100 / (hi - lo)

/-- The ZOOM string (R114): "Z--" when no position record is held. -/
def zoomText (snap : Snapshot) : List Nat :=
  match snap.lens with
  | some v => [90] ++ rightAlign 3 (decimal 3 (zoomPercent snap.zoomMin snap.zoomMax v.zoom))
  | none => [90, 45, 45]

/-- The CLIP string (R114): "C----" when the clip list is empty. -/
def clipText (clip : Option Nat) : List Nat :=
  match clip with
  | some n => [67] ++ fixedDecimal 4 n
  | none => [67, 45, 45, 45, 45]

/-- The string of a text source (R114). -/
def sourceText (snap : Snapshot) : TextSource → List Nat
  | .static codes => codes
  | .timecode => timecodeText snap.timecode snap.dropFrame
  | .focal => focalText snap.focal
  | .iris => irisText snap.lens
  | .zoom => zoomText snap
  | .clip => clipText snap.clip

/-! ### Coverage (R112, R113, R115) -/

/-- Whether a glyph has the position at a column and row set (R113): 32 none, 127 every one, 33 to 126 the part's patterns. -/
def glyphSet (code col row : Nat) : Bool :=
  if code = 127 then true
  else if 33 ≤ code ∧ code ≤ 126 then Config.glyph code col row
  else false

/-- The output pixel (p, q) lies in the element's rectangle (R112). -/
def Element.inRect (e : Element) (p q : Nat) : Bool := e.x ≤ p && p < e.x + e.w && e.y ≤ q && q < e.y + e.h

/-- A text stroke covers the position `dx`, `dy` from the rectangle's corner (R113). -/
def textCovers (text : List Nat) (scale dx dy : Nat) : Bool :=
  match text[dx / (8 * scale)]? with
  | some code => dy < 16 * scale && glyphSet code (dx % (8 * scale) / scale) (dy / scale)
  | none => false

/-- The value and the maximum of a bar (R115). -/
def barValue (snap : Snapshot) : BarSource → Nat × Nat
  | .audio c => ((snap.meters.get c).displayed, 32)
  | .zoom => match snap.lens with
    | some v => (clampNat snap.zoomMin snap.zoomMax v.zoom - snap.zoomMin, snap.zoomMax - snap.zoomMin)
    | none => (0, snap.zoomMax - snap.zoomMin)
  | .focus => match snap.lens with
    | some v => (clampNat snap.focusMin snap.focusMax v.focus - snap.focusMin, snap.focusMax - snap.focusMin)
    | none => (0, snap.focusMax - snap.focusMin)
  | .ringFill => snap.ring.getD (0, 0)

/-- The fill length of a bar over an extent (R115). -/
def barFill (snap : Snapshot) (source : BarSource) (extent : Nat) : Nat :=
  let v := barValue snap source
  if v.2 = 0 then 0 else v.1 * extent / v.2

/-- The length m of the peak-hold mark of an AUDIO bar, 0 for no mark (R115). -/
def barMark (snap : Snapshot) (source : BarSource) (extent : Nat) : Nat :=
  match source with
  | .audio c => (snap.meters.get c).held * extent / 32
  | _ => 0

/-- The position `d` along a bar's extent, counted from its start, is covered: it lies in the fill or is the mark (R115). -/
def barCovers (snap : Snapshot) (source : BarSource) (extent d : Nat) : Bool :=
  d < barFill snap source extent || (barMark snap source extent > 0 && d + 1 == barMark snap source extent)

/-- A pixel lies in a band of `t` positions centred in an extent (R112, CROSS); the band is the whole extent when `t` is
greater. -/
def inBand (extent t d : Nat) : Bool :=
  if t > extent then true else (extent - t) / 2 ≤ d && d < (extent - t) / 2 + t

/-- The element's kind covers the position `dx`, `dy` from the corner of its rectangle (R112, R113, R115). -/
def kindCovers (snap : Snapshot) (e : Element) (dx dy : Nat) : Bool :=
  match e.kind with
  | .tally => true
  | .box t => dx < t || dx + t ≥ e.w || dy < t || dy + t ≥ e.h
  | .cross t => inBand e.h t dy || inBand e.w t dx
  | .text source scale => textCovers (sourceText snap source) scale dx dy
  | .bar source =>
    if e.w ≥ e.h then barCovers snap source e.w dx else barCovers snap source e.h (e.h - 1 - dy)

/-- A visibility condition holds in a snapshot (R116). -/
def Conditions.holds (c : Conditions) : Visibility → Bool
  | .always => true
  | .recording => c.recording
  | .standby => c.standby
  | .overrun => c.overrun
  | .lensLost => c.lensLost
  | .stabLimit => c.stabLimit
  | .audioOver => c.audioOver
  | .avDrift => c.avDrift

/-- The element is visible in the frame of a snapshot (R116). -/
def Element.visible (snap : Snapshot) (e : Element) : Bool :=
  snap.conditions.holds e.visibility && (!e.blink || snap.count.toNat / 16 % 2 == 0)

/-- A visible element covers an output pixel (R112). -/
def Element.covers (snap : Snapshot) (p q : Nat) (e : Element) : Bool :=
  e.visible snap && e.inRect p q && kindCovers snap e (p - e.x) (q - e.y)

/-! ### Drawing (R123, R124) -/

/-- The topmost element at an output pixel (R123). -/
def topmost (snap : Snapshot) (list : List Element) (p q : Nat) : Option Element :=
  list.reverse.find? fun e => e.covers snap p q

/-- The snapshot's colour of an element. -/
def elementColour (snap : Snapshot) (e : Element) : Colour := snap.palette.getD e.palette ⟨0, 0, 0⟩

/-- A returned Y is bright (R124). -/
def Zebra.bright (z : Zebra) (y : Byte) : Bool :=
  match z.mode with
  | .off => false
  | .above => z.level ≤ y
  | .band => z.low ≤ y && y ≤ z.high

/-- The Y of a pixel with no topmost element (R124). -/
def zebraLuma (snap : Snapshot) (p q : Nat) (y : Byte) : Byte :=
  if snap.zebra.bright y && (p + q + 2 * snap.count.toNat) / 4 % 2 == 0 then snap.zebra.luma else y

/-- The Y delivered for a pixel (R123, R124). -/
def drawLuma (snap : Snapshot) (list : List Element) (p q : Nat) (y : Byte) : Byte :=
  match topmost snap list p q with
  | some e => (elementColour snap e).luma
  | none => zebraLuma snap p q y

/-- The pair (p, p + 1) on line q: Y of the even pixel, Cb, Y of the odd pixel, Cr (R23, R123). -/
def drawPair (snap : Snapshot) (list : List Element) (p q : Nat) (y0 cb y1 cr : Byte) : List Byte :=
  let chroma := match topmost snap list p q with
    | some e => ((elementColour snap e).cb, (elementColour snap e).cr)
    | none => (cb, cr)
  [drawLuma snap list p q y0, chroma.1, drawLuma snap list (p + 1) q y1, chroma.2]

/-- A beat of output line `q` from output pixel `p` on (R109, R123). -/
def drawBeat (snap : Snapshot) (list : List Element) (p q : Nat) (d : BeatData) : BeatData :=
  match beatBytes d with
  | [y0, cb0, y1, cr0, y2, cb1, y3, cr1] =>
    beatOfBytes (drawPair snap list p q y0 cb0 y1 cr0 ++ drawPair snap list (p + 2) q y2 cb1 y3 cr1)
  | _ => d

/-- The output line of an offset in a buffer (R109). -/
def outputLine (g : Geometry) (o : Nat) : Nat := o / g.pitch - g.marginY

/-- The first output pixel of the beat at an offset in a buffer (R109). -/
def outputPixel (g : Geometry) (o : Nat) : Nat := o % g.pitch / 2 - g.marginX

/-- The beats of an overlaid read, the first at offset `o` of its buffer (R109, R123). -/
def drawBeats (snap : Snapshot) (list : List Element) (g : Geometry) : Nat → List BeatData → List BeatData
  | _, [] => []
  | o, d :: ds => drawBeat snap list (outputPixel g o) (outputLine g o) d :: drawBeats snap list g (o + 8) ds

/-! ### Slots (R118, R121, R122) -/

/-- The three slots, each changed by `f`. -/
def Overlay.mapSlots (f : OverlaySlot → OverlaySlot) (o : Overlay) : Overlay :=
  { o with s0 := f o.s0, s1 := f o.s1, s2 := f o.s2 }

/-- Slots 0 to 2. -/
def Overlay.slots (o : Overlay) : List OverlaySlot := [o.s0, o.s1, o.s2]

/-- Some slot is in a state. -/
def Overlay.has (st : OverlayState) (o : Overlay) : Bool := o.slots.any fun x => x.state == st

/-- The list of the first slot in a state, empty if there is none. -/
def Overlay.listIn (st : OverlayState) (o : Overlay) : List Element :=
  match o.slots.find? (fun x => x.state == st) with
  | some x => x.list
  | none => []

/-- The number of the slot now SHOWN. -/
def Overlay.shownNumber (o : Overlay) : Nat := o.slots.findIdx fun x => x.state == .shown

/-- One slot at the swap (R122): PENDING becomes SHOWN, SHOWN becomes FREE and keeps its list. -/
def swapSlot (x : OverlaySlot) : OverlaySlot :=
  match x.state with
  | .pending => { x with state := .shown }
  | .shown => { x with state := .free }
  | _ => x

/-- One slot at OVERLAY COMMIT (R121): EDIT becomes PENDING; the PENDING slot, or the FREE slot when none was PENDING, becomes
EDIT and is emptied. -/
def commitSlot (wasPending : Bool) (x : OverlaySlot) : OverlaySlot :=
  match x.state with
  | .edit => { x with state := .pending }
  | .pending => { state := .edit, list := [] }
  | .free => if wasPending then x else { state := .edit, list := [] }
  | .shown => x

/-- The list of the EDIT slot changed. -/
def editSlot (f : List Element → List Element) (x : OverlaySlot) : OverlaySlot :=
  match x.state with
  | .edit => { x with list := f x.list }
  | _ => x

/-! ### The viewfinder frame start (R110, R111, R122) -/

/-- The conditions as they stand (R116). -/
def conditionsNow (s : State) : Conditions :=
  { recording := s.record.clips.any fun c => c.state == .opened
    standby := !(s.record.clips.any fun c => c.state == .opened || c.state == .armed)
    overrun := s.overlay.overrunHold > 0
    lensLost := !s.lens.link.up
    stabLimit := s.stab.limited
    audioOver := s.overlay.clipHold > 0
    avDrift := s.audio.driftFlag }

/-- The counter that the timecode mode names (R38). -/
def timecodeShown (s : State) : Timecode :=
  match s.frame.mode with
  | .freeRun => s.frame.timecode
  | .recRun => s.record.timecode

/-- The live snapshot as the values stand (R111). -/
def takeSnapshot (s : State) : Snapshot :=
  let o := s.overlay
  let i := s.lens.identity
  { count := o.frameCount, palette := o.palette, zebra := o.zebra, conditions := conditionsNow s
    timecode := timecodeShown s, dropFrame := s.frame.dropFrame, focal := s.lens.focal
    lens := s.lens.position.map fun p => { fNumber := p.fNumber, zoom := p.zoom, focus := p.focus }
    zoomMin := (i.map fun i => i.zoomMin).getD 0, zoomMax := (i.map fun i => i.zoomMax).getD 65535
    focusMin := (i.map fun i => i.focusMin).getD 0, focusMax := (i.map fun i => i.focusMax).getD 65535
    clip := s.record.clips.getLast?.map fun c => c.number
    meters := s.audio.outputs.map fun a => { displayed := a.displayed, held := a.held }
    ring := s.ring.map fun r => (s.record.guarded, r.1) }

/-- The swap of a committed list (R122). -/
def swapOverlay (s : State) : State :=
  if s.overlay.has .pending then
    let o := s.overlay.mapSlots swapSlot
    raiseEvent (.overlaySwapped o.shownNumber (o.listIn .shown).length o.frameCount) { s with overlay := o }
  else s

/-- A viewfinder frame start (R110): the count, the swap, then the snapshot. -/
def frameStart (s : State) : State :=
  let s := swapOverlay { s with overlay := { s.overlay with frameCount := s.overlay.frameCount + 1 } }
  { s with overlay := { s.overlay with snapshot := takeSnapshot s } }

/-- The address of the output origin beat of buffer `b` (R110). -/
def originBeat (g : Geometry) (base b : Nat) : Nat := base + b * g.stride + g.marginY * g.pitch + 2 * g.marginX

/-- The beats of a viewfinder read of `len` beats as they return, `back` beats of it having returned before (R108): an overlaid
read takes its frame start before its first beat, and each beat is drawn under the state that stands when it is handled (R110,
R130); the beats of any other read are kept. -/
def overlayRead (w : WindowRecord) (addr len back : Nat) (beats : List BeatData) (s : State) : State × List BeatData :=
  match w.params with
  | .frame g =>
    match g.outputBuffer w.base addr len with
    | some b =>
      let starts := (List.range len).any fun i => addr + 8 * i == originBeat g w.base b
      let s := if back = 0 && starts then frameStart s else s
      (s, drawBeats s.overlay.snapshot (s.overlay.listIn .shown) g (addr + 8 * back - (w.base + b * g.stride)) beats)
    | none => (s, beats)
  | _ => (s, beats)

/-- The two hold counters decrease by one at each frame mark (R117). -/
def holdsAtMark (s : State) : State :=
  { s with overlay := { s.overlay with
    overrunHold := s.overlay.overrunHold - 1, clipHold := s.overlay.clipHold - 1 } }

/-! ### Commands -/

/-- OVERLAY BEGIN (R119). -/
def overlayBegin (_r : CommandRecord) (s : State) : State × Completion :=
  completes .done { s with overlay := s.overlay.mapSlots (editSlot fun _ => []) }

/-- The text source of a code with the static text of the record (R112, R207); STATIC is refused for a length above 16 or a
code outside 32 to 127 (R120). -/
def textSourceOf (r : CommandRecord) : Nat → Option TextSource
  | 1 =>
    let codes := (r.bytes 16 (r.byte 7)).map fun b => b.toNat
    if r.byte 7 ≤ 16 && codes.all (fun c => 32 ≤ c && c ≤ 127) then some (.static codes) else none
  | 2 => some .timecode
  | 3 => some .focal
  | 4 => some .iris
  | 5 => some .zoom
  | 6 => some .clip
  | _ => none

/-- The kind of an OVERLAY ELEMENT and whether its thickness was clamped; absent for one refused REFUSED_RANGE (R120). -/
def elementKindOf (r : CommandRecord) : Option (ElementKind × Bool) :=
  let detail := r.byte 6 % 16
  let scale := r.byte 6 / 16
  let t := clampNat 1 8 detail
  match r.byte 4 % 16 with
  | 1 => some (.box t, t != detail)
  | 2 => some (.cross t, t != detail)
  | 3 => match textSourceOf r detail with
    | some source => if scale = 1 ∨ scale = 2 then some (.text source scale, false) else none
    | none => none
  | 4 => (BarSource.ofCode detail).map fun b => (.bar b, false)
  | 5 => some (.tally, false)
  | _ => none

/-- The static text bytes an element stores (R112): those the text length names; static text is present in a TEXT element
only with source STATIC. -/
def storedText (r : CommandRecord) (kind : ElementKind) : List Byte :=
  match kind with
  | .text source _ => match source with
    | .static _ => r.bytes 16 (r.byte 7)
    | _ => []
  | _ => r.bytes 16 (r.byte 7)

/-- The element an OVERLAY ELEMENT names, brought into range, and whether a value was changed; absent for one refused
REFUSED_RANGE (R120). -/
def elementOf (r : CommandRecord) : Option (Element × Bool) :=
  match elementKindOf r, Visibility.ofCode (r.byte 5 % 16), flagOfCode (r.byte 5 / 16) with
  | some (kind, tChanged), some visibility, some blink =>
    let palette := r.byte 4 / 16
    if palette > 7 then none else
    let x := min 4095 (r.half 8)
    let y := min 4095 (r.half 10)
    let w := clampNat 1 4096 (r.half 12)
    let h := clampNat 1 4096 (r.half 14)
    some ({ kind := kind, x := x, y := y, w := w, h := h, palette := palette, visibility := visibility, blink := blink
            detail := r.byte 6 % 16, scale := r.byte 6 / 16, text := storedText r kind },
      tChanged || x != r.half 8 || y != r.half 10 || w != r.half 12 || h != r.half 14)
  | _, _, _ => none

/-- OVERLAY ELEMENT (R120): every check before the last refuses REFUSED_RANGE. -/
def overlayElement (r : CommandRecord) (s : State) : State × Completion :=
  match elementOf r with
  | none => refuses .refusedRange s
  | some (e, clamped) =>
    if (s.overlay.listIn .edit).length ≥ 32 then refuses .refusedFull s
    else completes (doneOrClamped clamped) { s with overlay := s.overlay.mapSlots (editSlot fun l => l ++ [e]) }

/-- OVERLAY COMMIT (R121). -/
def overlayCommit (_r : CommandRecord) (s : State) : State × Completion :=
  completes .done { s with overlay := s.overlay.mapSlots (commitSlot (s.overlay.has .pending)) }

/-- A 2-byte value stored as at most 255. -/
def byteClamped (n : Nat) : Byte := byteOf (min 255 n)

/-- SET PALETTE (R126). -/
def setPalette (r : CommandRecord) (s : State) : State × Completion :=
  if r.byte 4 > 7 then refuses .refusedRange s else
  completes (doneOrClamped (r.half 6 > 255 || r.half 8 > 255 || r.half 10 > 255)) { s with overlay := { s.overlay with
    palette := s.overlay.palette.set (r.byte 4)
      { luma := byteClamped (r.half 6), cb := byteClamped (r.half 8), cr := byteClamped (r.half 10) } } }

/-- SET ZEBRA (R125). -/
def setZebra (r : CommandRecord) (s : State) : State × Completion :=
  match ZebraMode.ofCode (r.byte 4) with
  | none => refuses .refusedRange s
  | some mode =>
    let z : Zebra := { mode := mode, level := byteClamped (r.half 6), low := byteClamped (r.half 8)
                       high := byteClamped (r.half 10), luma := byteClamped (r.half 12) }
    if mode = .band ∧ z.low > z.high then refuses .refusedRange s
    else completes (doneOrClamped (r.half 6 > 255 || r.half 8 > 255 || r.half 10 > 255 || r.half 12 > 255))
      { s with overlay := { s.overlay with zebra := z } }

/-- RESET JOB OVERLAY and the part of RESET JOB PART (R130). -/
def resetOverlay (s : State) : State :=
  { s with overlay := { s.overlay with
    s0 := ⟨.shown, []⟩, s1 := ⟨.edit, []⟩, s2 := ⟨.free, []⟩, palette := defaultPalette } }

end Sys2Proof.Machine
end

