-- ==== Sys2Proof/Machine/Metadata.lean ====
section
/-! DEFINITION. The metadata writer: what a record holds (R180 to R182), its 64 bytes (R210), and its way into the
injected-write queue (R178, R183). -/

namespace Sys2Proof.Machine

/-- What a mark hands the metadata writer (R180, R181, R182): the capture record it made, absent at a substitute mark; the
lens's values as they stood when the mark was made; the stabiliser's stage 3; and the audio unit's closed period. -/
structure MarkData where
  capture : Option CaptureRecord
  timecode : Timecode
  dropFrame : Bool
  tracker : TrackerState
  position : Option Position
  focal : Nat
  link : LinkState
  correction : Correction
  segments : PerChannel Nat
  clips : PerChannel Bool
  deriving DecidableEq, Repr

/-- Bytes 2 to 16 of a record: the mark and its capture (R180, R210). -/
def markBytes (d : MarkData) : List Byte :=
  let head := fun (kind : Byte) (seq : Nat) (buffer : Byte) =>
    [kind, byteOf d.tracker.code] ++ leNat 2 seq ++ [buffer, flagByte d.dropFrame] ++ d.timecode.bytes
  match d.capture with
  | some r => head 1 r.seq.toNat (byteOf r.buffer) ++ leInt 2 r.dx ++ leInt 2 r.dy ++ [flagByte r.limited]
  | none => head 2 0 0 ++ zeros 5

/-- Bytes 17 to 41 of a record: the lens (R181, R210). -/
def lensBytes (d : MarkData) : List Byte :=
  (match d.position with
    | some p => [1] ++ leNat 2 p.zoom ++ leNat 2 p.focus ++ leNat 2 p.iris ++ leNat 2 p.fNumber ++ leNat 2 p.extender
        ++ leInt 2 p.shiftX ++ leInt 2 p.shiftY
    | none => zeros 15)
    ++ leNat 4 d.focal ++ [byteOf d.link.code, flagByte d.correction.enable]
    ++ leInt 2 d.correction.demandX ++ leInt 2 d.correction.demandY

/-- The clip flags of the four outputs: bit n − 1 for output n (R210). -/
def clipFlagBits (p : PerChannel Bool) : Byte :=
  byteOf ((if p.c1 then 1 else 0) + (if p.c2 then 2 else 0) + (if p.c3 then 4 else 0) + (if p.c4 then 8 else 0))

/-- The ring fill, 0 with no RECORD window (R182). -/
def ringFill (s : State) : Nat :=
  match s.ring with
  | some (size, _) => s.record.guarded * 64 / size
  | none => 0

/-- The newest clip's number and state, 0 and NONE with the list empty (R182). -/
def newestClipBytes (clips : List Clip) : List Byte :=
  match clips.getLast? with
  | some c => leNat 2 c.number ++ [byteOf c.state.code]
  | none => zeros 3

/-- Bytes 42 to 57 of a record: the other blocks' running state (R182, R210). -/
def runningBytes (d : MarkData) (s : State) : List Byte :=
  [byteOf s.stab.mode.code, byteOf s.stab.x.pan.code, byteOf s.stab.y.pan.code, byteOf s.gyro.state.code]
    ++ (d.segments.toList.map byteOf)
    ++ [clipFlagBits d.clips, flagByte s.audio.driftFlag] ++ leInt 2 s.audio.drift
    ++ newestClipBytes s.record.clips ++ [byteOf (ringFill s)]

/-- The 64 bytes of a metadata record (R210). -/
def composeMetadata (mark : Half) (d : MarkData) (s : State) : List Byte :=
  padTo 64 (leNat 2 mark.toNat ++ markBytes d ++ lensBytes d ++ runningBytes d s)

/-- The number of slots of a metadata ring (R178). -/
def metadataSlots (w : WindowRecord) : Nat := w.size / 64

/-- A record joins the injected-write queue at its end with the slot the cursor names, and the cursor advances (R178,
R183). -/
def joinMetadata (w : WindowRecord) (bytes : List Byte) (s : State) : State :=
  let k := s.metadata.cursor
  let write : InjectedWrite :=
    { kind := .metadata, tag := ownTag, isMemoryFault := false, addr := w.base + 64 * k, bytes := bytes, slot := none }
  { s with
    path := { s.path with injected := s.path.injected ++ [write] }
    metadata := { s.metadata with cursor := if k + 1 < metadataSlots w then k + 1 else 0 } }

/-- A composed record is queued: a record that still waits is discarded and the new one waits in its place; otherwise it
joins a queue with a free place, or waits (R183). -/
def queueMetadata (w : WindowRecord) (mark : Half) (bytes : List Byte) (s : State) : State :=
  if s.metadata.waiting.isNone && s.path.injected.length < 8 then joinMetadata w bytes s
  else { s with metadata := { s.metadata with waiting := some { mark := mark, bytes := bytes } } }

/-- The metadata writer's work at a frame mark (R179, R183). -/
def metadataMark (d : MarkData) (s : State) : State :=
  let mark := s.metadata.mark + 1
  let s := { s with metadata := { s.metadata with mark := mark } }
  match s.window .metadata with
  | some w => queueMetadata w mark (composeMetadata mark d s) s
  | none => s

/-- The waiting record takes an opened place of the injected-write queue, unless a report write takes it first (R15,
R183). -/
def waitingMetadataJoins (s : State) : State :=
  match s.metadata.waiting, s.window .metadata with
  | some r, some w =>
    if s.path.injected.length < 8 && !reportCanLeave s then
      joinMetadata w r.bytes { s with metadata := { s.metadata with waiting := none } }
    else s
  | _, _ => s

end Sys2Proof.Machine
end

