-- ==== Sys2Proof/Machine/Mark.lean ====
section
/-! DEFINITION. Frame marks: what every block does at one (R29, with R53, R66, R98, R117, R144, R179), the capture start
(R25), the capture completion (R26) and the timer (R30, R31). The blocks are not ordered among themselves (2.3); the order
taken here is log entry 12. -/

namespace Sys2Proof.Machine

/-- The closed period's segment counts (R140). -/
def periodSegments (s : State) : PerChannel Nat := s.audio.outputs.map fun o => segmentCount o.peak

/-- The closed period's clip flags (R144). -/
def periodClips (s : State) : PerChannel Bool := s.audio.outputs.map fun o => o.clip

/-- The timecode of a mark is the counter's value before it; making the mark advances the counter by one (R29). -/
def advanceTimecode (s : State) : State :=
  { s with frame := { s.frame with timecode := s.frame.timecode.advance s.frame.rate s.frame.dropFrame } }

/-- The first part of a mark: the previous cycle settled (R56), the demands (R66), and the stabiliser's computation (R98),
which so reads the link state that the settling leaves (DESIGN CHOICE, log entry 41). -/
def markDemands (margins : Option (Nat × Nat)) (s : State) : State × Correction :=
  stabMark margins (demandOperation (settleCycle s))

/-- What a mark hands the metadata writer, from the state `before` the mark and the state `s` in its course. -/
def markData (before : State) (capture : Option CaptureRecord) (c : Correction) (s : State) : MarkData :=
  { capture := capture, timecode := before.frame.timecode, dropFrame := before.frame.dropFrame
    tracker := s.frame.tracker, position := before.lens.position, focal := before.lens.focal, link := before.lens.link
    correction := c, segments := periodSegments s, clips := periodClips s }

/-- The last part of a mark: the cycle opens (R53), the audio period closes (R144), the hold counters fall (R117), the
counter advances (R29) and the metadata record is composed (R179). -/
def markRest (before : State) (capture : Option CaptureRecord) (c : Correction) (s : State) : State :=
  let d := markData before capture c s
  metadataMark d (advanceTimecode (holdsAtMark (audioMark (openCycle c s))))

/-! ### Captures -/

/-- The FILLING record of the history becomes ABANDONED with CAPTURE_ABANDONED (R25 step 1). -/
def abandonCapture (s : State) : State :=
  match s.frame.history.find? (fun r => r.state == .filling) with
  | some r =>
    raiseEvent (.captureAbandoned r.seq r.buffer) { s with frame := { s.frame with
      history := s.frame.history.map fun r => if r.state = .filling then { r with state := .abandoned } else r } }
  | none => s

/-- The new capture record (R25 step 3). -/
def newCapture (before : State) (b : Nat) (c : Correction) : CaptureRecord :=
  { seq := before.frame.nextSeq, buffer := b, state := .filling, dx := c.dx, dy := c.dy, limited := c.limited
    lens := before.lens.position.map fun p =>
      { zoom := p.zoom, focus := p.focus, iris := p.iris, extender := p.extender }
    focal := before.lens.focal, link := before.lens.link
    timecode := before.frame.timecode, dropFrame := before.frame.dropFrame }

/-- The record joins as the newest, the oldest of 16 leaving, and the next capture sequence moves on (R25 steps 2 to 4). -/
def appendCapture (r : CaptureRecord) (s : State) : State :=
  { s with frame := { s.frame with
    history := (if s.frame.history.length ≥ 16 then s.frame.history.drop 1 else s.frame.history) ++ [r]
    nextSeq := r.seq + 1 } }

/-- A capture mark's part in the tracker (R30, R31): LOCKED, the expiry one lock deadline on, FRAME_BEAT at a change. -/
def captureBeat (s : State) : State :=
  let was := s.frame.tracker
  let s := { s with frame := { s.frame with
    tracker := .locked, lastMark := s.now, expiry := s.now + refclk s.frame.rate.deadline } }
  if was = .freeWheel then raiseEvent (.frameBeat .locked (some s.frame.nextSeq)) s else s

/-- A capture start into buffer `b` and its frame mark, as one event (R25). -/
def captureStart (g : Geometry) (b : Nat) (s : State) : State :=
  let r := markDemands (some (g.marginX, g.marginY)) (captureBeat (abandonCapture s))
  let record := newCapture s b r.2
  markRest s (some record) r.2 (latchLimited record.seq r.2 (appendCapture record r.1))

/-- A burst covers the beat at an address. -/
def coversBeat (addr len beat : Nat) : Bool := addr ≤ beat && beat < addr + 8 * len

/-- A capture completion (R26): the FILLING record whose buffer's last image beat the burst covers becomes COMPLETE. -/
def captureCompletes (g : Geometry) (base addr len : Nat) (s : State) : State :=
  { s with frame := { s.frame with history := s.frame.history.map fun r =>
      if r.state = .filling && r.buffer < g.buffers && coversBeat addr len (g.lastImageBeat base r.buffer)
      then { r with state := .complete } else r } }

/-- A sensor write (R24, R26). -/
def sensorWrite (w : WindowRecord) (addr len : Nat) (s : State) : State :=
  match w.params with
  | .frame g =>
    match g.firstBeatOf w.base addr with
    | some b => captureStart g b s
    | none => captureCompletes g w.base addr len s
  | _ => s

/-! ### The timer (R30) -/

/-- A substitute mark's part in the tracker: FREE-WHEEL, the mark at the expiry, the next expiry one nominal period on,
FRAME_BEAT at a change. -/
def substituteBeat (s : State) : State :=
  let was := s.frame.tracker
  let s := { s with frame := { s.frame with
    tracker := .freeWheel, lastMark := s.frame.expiry, expiry := s.frame.expiry + refclk s.frame.rate.period } }
  if was = .locked then raiseEvent (.frameBeat .freeWheel none) s else s

/-- The expiry is reached: a substitute mark (R30). -/
def timerExpiry (s : State) : State :=
  let s := reachTime s.frame.expiry s
  let r := markDemands none (substituteBeat s)
  markRest s none r.2 r.1

end Sys2Proof.Machine
end

