-- ==== Sys2Proof/Machine/Path.lean ====
section
/-! DEFINITION. The path unit: classification (R5, R6), acceptance with the owners' effects (R8 to R13, R187 to R189), the
requests that wait (R1), the arbiter (R14), answers from memory (R16, R195), responses (R2), and the window commands (R18 to
R21). -/

namespace Sys2Proof.Machine

/-! ### Classification (R5, R6) -/

/-- The deciding window: the enabled window of lowest index whose range holds the address, with its index (R5). -/
def decidingWindow (addr : Nat) : List (Option WindowRecord) → Nat → Option (Nat × WindowRecord)
  | [], _ => none
  | none :: ws, i => decidingWindow addr ws (i + 1)
  | some w :: ws, i => if w.enabled && w.holds addr then some (i, w) else decidingWindow addr ws (i + 1)

/-- The initiator set of a window that a tag is in; METADATA and PASS windows have none (R4, R5). -/
def memberSet (w : WindowRecord) (tag : BitVec 4) : Option Nat :=
  match w.role with
  | .metadata => none
  | .pass => none
  | _ => w.sets.findIdx? fun m => m.getLsbD tag.toNat

/-- What a burst is (R5, R6). -/
inductive Verdict where
  | unmatched
  | straddles (index : Nat)
  | belongs (cls : ReadClass)
  deriving DecidableEq, Repr

/-- A burst is classified against the table as it stands (R5, R6). -/
def classify (s : State) (addr len : Nat) (tag : BitVec 4) : Verdict :=
  match decidingWindow addr s.path.windows 0 with
  | some (i, w) => match memberSet w tag with
    | some k => if addr + 8 * len > w.base + w.size then .straddles i else .belongs { window := w, setIndex := k }
    | none => .unmatched
  | none => .unmatched

/-- A straddling burst that would otherwise have belonged to its deciding window raises WINDOW_STRADDLE (R6). -/
def raiseStraddle (index : Nat) (tag : BitVec 4) (addr : Nat) (s : State) : State :=
  raiseEvent (.windowStraddle index tag addr) s

/-! ### Taking command records (R187, R188, R189) -/

/-- The beats of a burst that lie in the 32-byte position at address `pos`. -/
def positionBeats (addr : Nat) (beats : List Beat) (pos : Nat) : List Beat :=
  (beats.drop ((pos - addr) / 8)).take (4 - (addr - pos) / 8)

/-- A record of 32 bytes (R187). -/
def commandRecordOf (beats : List Beat) : CommandRecord :=
  let bs := burstBytes beats
  { code := BitVec.ofNat 16 (field bs 0 2), tag := BitVec.ofNat 16 (field bs 2 2), params := bs.drop 4 }

/-- A taken record is offered to the command queue; one offered to a queue of 8 is lost with COMMAND_OVERFLOW (R189). -/
def offerCommand (r : CommandRecord) (s : State) : State :=
  if s.command.queue.length < 8 then { s with command := { s.command with queue := s.command.queue ++ [r] } }
  else raiseEvent (.commandOverflow r.code r.tag) s

/-- One position that a write touches (R187, R188): taken when wholly covered with every enable set and a code other than 0;
COMMAND_PARTIAL when only partly covered or with an enable clear. -/
def takePosition32 (addr : Nat) (beats : List Beat) (pos : Nat) (s : State) : State :=
  let own := positionBeats addr beats pos
  if addr ≤ pos && pos + 32 ≤ addr + 8 * beats.length then
    if own.all beatFull then
      let r := commandRecordOf own
      if r.code = 0 then s else offerCommand r s
    else raiseEvent (.commandPartial pos .enables) s
  else raiseEvent (.commandPartial pos .split) s

/-- The addresses of the positions a burst touches, rising. -/
def touchedPositions (addr len : Nat) : List Nat :=
  (List.range ((addr + 8 * len - 1) / 32 + 1 - addr / 32)).map fun i => 32 * (addr / 32 + i)

/-- A command-window write (R187): its positions in ascending address order. R188 gives COMMAND_PARTIAL no order against the
events of the other positions: both kinds are raised in this one pass (DESIGN CHOICE, log entry 49). -/
def commandWrite (addr : Nat) (beats : List Beat) (s : State) : State :=
  (touchedPositions addr beats.length).foldl (fun s pos => takePosition32 addr beats pos s) s

/-! ### Acceptance (R1, R8) -/

/-- A burst joins the pass-through queue, and its response is owed (R1, R2). -/
def forwardBurst (tag : BitVec 4) (issued addr : Nat) (body : PassBody) (s : State) : State :=
  { s with path := { s.path with
    passQueue := s.path.passQueue ++ [{ id := s.path.nextId, tag := tag, issued := issued, addr := addr, body := body }]
    responses := s.path.responses ++ [{ id := s.path.nextId, tag := tag, answer := none }]
    nextId := s.path.nextId + 1 } }

/-- A held-back write is answered DONE in its place in its tag's response order (R13). -/
def answerHeldBack (tag : BitVec 4) (s : State) : State :=
  { s with path := { s.path with
    responses := s.path.responses ++ [{ id := s.path.nextId, tag := tag, answer := some .done }]
    nextId := s.path.nextId + 1 } }

/-- A write observed or left unaltered, forwarded as written (R9). -/
def forwardWrite (b : WriteBurst) (beats : List Beat) (s : State) : State :=
  forwardBurst b.tag b.addr.toNat b.addr.toNat (.write beats) s

/-- What the owner of a window does with a write that belongs to it (R4, R8): the beats to be forwarded, absent for a write
held back. -/
def ownerWrite (cls : ReadClass) (addr : Nat) (beats : List Beat) (s : State) : State × Option (List Beat) :=
  match cls.window.role, cls.setIndex with
  | .command, _ => (commandWrite addr beats s, some beats)
  | .frame, 0 => (sensorWrite cls.window addr beats.length s, some beats)
  | .record, 0 => encoderWrite cls.window addr beats s
  | .audio, _ =>
    let r := audioWrite cls.window addr beats s
    (r.1, some r.2)
  | _, _ => (s, some beats)

/-- A write is accepted and classified, and its owner acts (R8). -/
def acceptWrite (b : WriteBurst) (s : State) : State :=
  match classify s b.addr.toNat b.beats.length b.tag with
  | .unmatched => forwardWrite b b.beats s
  | .straddles i => forwardWrite b b.beats (raiseStraddle i b.tag b.addr.toNat s)
  | .belongs cls =>
    match ownerWrite cls b.addr.toNat b.beats s with
    | (s, some beats) => forwardWrite b beats s
    | (s, none) => answerHeldBack b.tag s

/-- The address toward DRAM of a read that belongs to a window: the crop remap of FRAME reads by the encoder and viewfinder
sets, decided at acceptance (R8, R33). -/
def readAddress (cls : ReadClass) (addr len : Nat) (s : State) : Nat :=
  match cls.window.role, cls.setIndex with
  | .frame, 1 => remapRead cls.window addr len s.frame.history
  | .frame, 2 => remapRead cls.window addr len s.frame.history
  | _, _ => addr

/-- A read is accepted and classified, and joins the pass-through queue (R8). -/
def acceptRead (b : ReadBurst) (s : State) : State :=
  match classify s b.addr.toNat b.len b.tag with
  | .unmatched => forwardBurst b.tag b.addr.toNat b.addr.toNat (.read b.len none) s
  | .straddles i =>
    forwardBurst b.tag b.addr.toNat b.addr.toNat (.read b.len none) (raiseStraddle i b.tag b.addr.toNat s)
  | .belongs cls =>
    forwardBurst b.tag b.addr.toNat (readAddress cls b.addr.toNat b.len s) (.read b.len (some cls)) s

/-- A request is accepted. -/
def acceptRequest (r : Request) (s : State) : State :=
  match r with
  | .write b => acceptWrite b s
  | .read b => acceptRead b s

/-- The initiator tag of a request. -/
def Request.tag : Request → BitVec 4
  | .write b => b.tag
  | .read b => b.tag

/-- The write would be held back if it were accepted now (R1, R13). -/
def wouldHoldBack (b : WriteBurst) (s : State) : Bool :=
  match classify s b.addr.toNat b.beats.length b.tag with
  | .belongs cls => match cls.window.role, cls.setIndex, cls.window.params with
    | .record, 0, .record setup =>
      holdsBack cls.window.size setup cls.window.base b.addr.toNat b.beats s
    | _, _, _ => false
  | _ => false

/-- The requests ahead of one that may be accepted though the queue is full, that one, and those behind it (R1): the first
waiting write that would be held back with no request of its own tag ahead of it. -/
def overtaking (s : State) : List Request → List Request → Option (List Request × WriteBurst × List Request)
  | _, [] => none
  | ahead, .write b :: rest =>
    if wouldHoldBack b s && !(ahead.any fun r => r.tag == b.tag) then some (ahead, b, rest)
    else overtaking s (ahead ++ [.write b]) rest
  | ahead, .read b :: rest => overtaking s (ahead ++ [.read b]) rest

/-- Waiting requests are accepted as far as they may be (R1): the oldest while the queue has a place, and a write that would
be held back though it has none. `n` bounds the number of acceptances. -/
def settleWaiting : Nat → State → State
  | 0, s => s
  | n + 1, s =>
    match s.path.waiting with
    | [] => s
    | r :: rest =>
      if s.path.passQueue.length < 16 then
        settleWaiting n (acceptRequest r { s with path := { s.path with waiting := rest } })
      else match overtaking s [] s.path.waiting with
        | some (ahead, b, behind) =>
          settleWaiting n (acceptWrite b { s with path := { s.path with waiting := ahead ++ behind } })
        | none => s

/-- Every waiting request that may be accepted now is accepted (R1). -/
def settle (s : State) : State := settleWaiting s.path.waiting.length s

/-- A request is made on the upstream link: accepted at once, or left to wait (R1). -/
def presentRequest (r : Request) (s : State) : State :=
  settle { s with path := { s.path with waiting := s.path.waiting ++ [r] } }

/-! ### The arbiter (R14) -/

/-- The injected write has been issued: its slot is WRITTEN (R194). -/
def slotWritten (w : InjectedWrite) (s : State) : State :=
  match w.slot with
  | some k => { s with report := { s.report with slots := setSlot s.report.slots k .written } }
  | none => s

/-- The oldest pass-through burst is issued (R14). -/
def issuePass (s : State) : State :=
  match s.path.passQueue with
  | b :: rest =>
    settle { s with path := { s.path with
      passQueue := rest, atMemory := some (.pass b), arbiterCount := min 4 (s.path.arbiterCount + 1) } }
  | [] => s

/-- The first injected burst is issued (R14). -/
def issueInjected (s : State) : State :=
  match s.path.injected with
  | w :: rest =>
    slotWritten w { s with path := { s.path with
      injected := rest, atMemory := some (.injected w), arbiterCount := 0 } }
  | [] => s

/-- The arbiter's choice is an injected burst (R14). -/
def injectedNext (p : PathUnit) : Bool :=
  !p.injected.isEmpty && (p.passQueue.isEmpty || decide (p.arbiterCount ≥ 4))

/-- The memory-side port is free once DRAM has answered the request before: the arbiter then issues one burst if either queue
holds one (1.5, R14, R195). -/
def issueNext (s : State) : State :=
  match s.path.atMemory with
  | some _ => s
  | none => if injectedNext s.path then issueInjected s else issuePass s

/-! ### Answers from memory (R16) -/

/-- The request is answered: the memory-side port is free. -/
def answered (s : State) : State := { s with path := { s.path with atMemory := none, beatsBack := [] } }

/-- The response of a burst has its answer; it waits for its tag's order (R2). -/
def finishResponse (id : Nat) (a : Answer) (s : State) : State :=
  { s with path := { s.path with
    responses := s.path.responses.map fun r => if r.id = id then { r with answer := some a } else r } }

/-- A reader's read of the REPORT window frees each WRITTEN slot whose final beat is one of its beats (R195). -/
def freeSlots (addr len : Nat) (s : State) : State :=
  match s.window .report with
  | some w => { s with report := { s.report with slots := s.report.slots.filter fun e =>
      !(e.2 == .written && coversBeat addr len (w.base + 32 * e.1 + 24)) } }
  | none => s

/-- What the owner of a window puts in place of the beats of a read of `len` beats that belongs to it, before which `back`
beats came (R8, R12): the state after, and the beats that go upstream. -/
def substituteBeats (cls : Option ReadClass) (addr len back : Nat) (beats : List BeatData) (s : State) :
    State × List BeatData :=
  match cls with
  | some c => match c.window.role, c.setIndex with
    | .frame, 2 => overlayRead c.window addr len back beats s
    | _, _ => (s, beats)
  | none => (s, beats)

/-- What the owner of a window observes once the data of a read that belongs to it has come back whole (R8, R169, R195). -/
def observeRead (cls : Option ReadClass) (addr len : Nat) (s : State) : State :=
  match cls with
  | some c => match c.window.role, c.setIndex with
    | .report, _ => freeSlots addr len s
    | .record, 1 => cardRead addr len s
    | _, _ => s
  | none => s

/-- Beats of the read at the port return from memory (R8, R12): they are handled under the state that stands now, and with
the last of them the read is answered. -/
def beatsReturn (b : PassBurst) (len : Nat) (cls : Option ReadClass) (beats : List BeatData) (s : State) : State :=
  let r := substituteBeats cls b.issued len s.path.beatsBack.length beats s
  let back := s.path.beatsBack ++ r.2
  if back.length < len then { r.1 with path := { r.1.path with beatsBack := back } }
  else finishResponse b.id (.data back) (answered (observeRead cls b.issued len r.1))

/-! ### Responses (R2) -/

/-- The first response owed to a tag. -/
def firstResponse (tag : BitVec 4) (rs : List Response) : Option Response := rs.find? fun r => r.tag == tag

/-- A finished response is returned once every earlier response to its tag has been (R2). -/
def returnResponse (tag : BitVec 4) (s : State) : State :=
  match firstResponse tag s.path.responses with
  | some r => match r.answer with
    | some a => { s with path := { s.path with
        responses := s.path.responses.eraseP fun r => r.tag == tag, returned := some { tag := tag, answer := a } } }
    | none => s
  | none => s

/-! ### SET WINDOW and CLEAR WINDOW (R18 to R21) -/

/-- The number of initiator sets a role requires (R4). -/
def Role.setCount : Role → Nat
  | .frame => 3
  | .record => 2
  | .metadata => 0
  | .pass => 0
  | _ => 1

/-- The entry of an index. -/
def State.entry (s : State) (i : Nat) : Option WindowRecord := (s.path.windows[i]?).join

/-- Another non-empty entry holds the role (R18). -/
def roleElsewhere (role : Role) (index : Nat) (windows : List (Option WindowRecord)) : Bool :=
  windows.zipIdx.any fun e => e.2 != index && match e.1 with
    | some w => w.role == role
    | none => false

/-- The three masks of a SET WINDOW (R207). -/
def windowMasks (r : CommandRecord) : List Half :=
  [BitVec.ofNat 16 (r.half 12), BitVec.ofNat 16 (r.half 14), BitVec.ofNat 16 (r.half 16)]

/-- The masks are ones the role accepts: exactly the first k non-empty, none naming tag 15 (R18, R207). -/
def masksOk (role : Role) (masks : List Half) : Bool :=
  ((masks.take role.setCount).all fun m => m != 0 && !m.getLsbD 15) && (masks.drop role.setCount).all fun m => m == 0

/-- Two of the sets share a tag (R18). -/
def masksShare : List Half → Bool
  | [] => false
  | m :: ms => (ms.any fun n => m &&& n != 0) || masksShare ms

/-- The geometry of a SET WINDOW for FRAME (R207). -/
def geometryOf (r : CommandRecord) : Geometry :=
  { buffers := r.byte 18, stride := r.word 28, width := r.half 20, height := r.half 22, pitch := r.half 24
    marginX := r.half 26, marginY := r.byte 19 }

/-- The frame tracker's checks of a geometry (R22). -/
def Geometry.ok (g : Geometry) (size : Nat) : Bool :=
  (2 ≤ g.buffers && g.buffers ≤ 4)
    && (64 ≤ g.width && g.width ≤ 4096 && g.width % 4 == 0)
    && (64 ≤ g.height && g.height ≤ 2304)
    && (g.pitch % 64 == 0 && 2 * g.width ≤ g.pitch)
    && (g.marginX ≤ 256 && g.marginX % 4 == 0)
    && g.marginY ≤ 255
    && (2 * g.marginX + 64 ≤ g.width && 2 * g.marginY + 64 ≤ g.height)
    && (g.stride % 4096 == 0 && g.height * g.pitch ≤ g.stride)
    && (g.buffers - 1) * g.stride + g.height * g.pitch ≤ size

/-- The role parameters of a SET WINDOW; absent for ones that the owning block refuses (R18, R22, R131, R151). -/
def windowParams (role : Role) (size : Nat) (r : CommandRecord) : Option RoleParams :=
  match role with
  | .frame => if (geometryOf r).ok size then some (.frame (geometryOf r)) else none
  | .record =>
    match flagOfCode (r.byte 28) with
    | some button =>
      let high := r.byte 26
      let drain := r.byte 27
      let pre := r.byte 29
      if size ≥ 1048576 ∧ 1 ≤ high ∧ high ≤ 63 ∧ 1 ≤ drain ∧ drain < high ∧ pre ≤ 240 then
        some (.record { marker := beatOfBytes (r.bytes 18 8), highWater := high, drainLevel := drain, button := button
                        preRoll := pre })
      else none
    | none => none
  | .audio => (FlagByteMode.ofCode (r.byte 18)).map RoleParams.audio
  | _ => some .absent

/-- The entry holds a RECORD window. -/
def holdsRecord (e : Option WindowRecord) : Bool :=
  match e with
  | some w => w.role == .record
  | none => false

/-- The base and the size pass the check of R18. -/
def placeOk (base sizeExp : Nat) : Bool := 12 ≤ sizeExp && sizeExp ≤ 30 && base % 2 ^ sizeExp == 0

/-- SET WINDOW's checks for a role and an enabled flag that are named, in the order of R18. -/
def setWindowChecks (r : CommandRecord) (role : Role) (enabled : Bool) (params : Option RoleParams) (s : State) :
    List (Bool × Status) :=
  [(decide (r.byte 4 > 15), .refusedRange),
   (r.byte 4 == 0 && (role != .command || !enabled), .refusedState),
   (role != .pass && roleElsewhere role (r.byte 4) s.path.windows, .refusedState),
   (!placeOk (r.word 8) (r.byte 7), .refusedRange),
   (!masksOk role (windowMasks r), .refusedRange),
   (masksShare (windowMasks r), .refusedRange),
   (params.isNone, .refusedRange),
   ((holdsRecord (s.entry (r.byte 4)) || role == .record) && !s.record.clips.isEmpty, .refusedState)]

/-- The role of an entry is this one. -/
def entryIs (role : Role) (e : Option WindowRecord) : Bool :=
  match e with
  | some w => w.role == role
  | none => false

/-- The waiting metadata record and the cursor at a change of the METADATA window (R21, R184). -/
def restartMetadata (s : State) : State := { s with metadata := { s.metadata with cursor := 0, waiting := none } }

/-- The consequences of a change of an entry, once the table holds the new one (R21). -/
def windowChanged (old new : Option WindowRecord) (s : State) : State :=
  let involves := fun role => entryIs role old || entryIs role new
  let s := if involves .frame then emptyHistory s else s
  let s := if involves .record then newRing s else s
  let s := if involves .report then
      (if (s.window .report).isSome then startReportRing s else discardReports s) else s
  if involves .metadata then restartMetadata s else s

/-- An entry other than 0 is replaced or emptied, with the consequences of R21 (R20). -/
def replaceEntry (i : Nat) (new : Option WindowRecord) (s : State) : State :=
  windowChanged (s.entry i) new { s with path := { s.path with windows := s.path.windows.set i new } }

/-- SET WINDOW (R18, R20): entry 0 keeps its record until the completion report is queued or discarded. -/
def setWindow (r : CommandRecord) (s : State) : State × Completion :=
  match Role.ofCode (r.byte 5), flagOfCode (r.byte 6) with
  | some role, some enabled =>
    let params := windowParams role (2 ^ r.byte 7) r
    match firstRefusal (setWindowChecks r role enabled params s) with
    | some st => refuses st s
    | none =>
      let w : WindowRecord :=
        { role := role, base := r.word 8, sizeExp := r.byte 7, enabled := enabled
          sets := (windowMasks r).take role.setCount, params := params.getD .absent }
      if r.byte 4 = 0 then (s, { status := .done, moves := some w })
      else completes .done (replaceEntry (r.byte 4) (some w) s)
  | _, _ => refuses .refusedRange s

/-- CLEAR WINDOW's checks (R19). -/
def clearWindowChecks (i : Nat) (s : State) : List (Bool × Status) :=
  [(decide (i > 15), .refusedRange), (i == 0, .refusedState),
   (holdsRecord (s.entry i) && !s.record.clips.isEmpty, .refusedState)]

/-- CLEAR WINDOW (R19): clearing an entry that is already empty changes nothing. -/
def clearWindow (r : CommandRecord) (s : State) : State × Completion :=
  match firstRefusal (clearWindowChecks (r.byte 4) s) with
  | some st => refuses st s
  | none => match s.entry (r.byte 4) with
    | some _ => completes .done (replaceEntry (r.byte 4) none s)
    | none => completes .done s

end Sys2Proof.Machine
end

