-- ==== Sys2Proof/Machine/StatusReports.lean ====
section
/-! DEFINITION. STATUS REQUEST (R192): the items of the 31 STATUS parts, from byte 4 on, by the STATUS table of R208. An
absent value is all ones in its field's width, or 0 where the layout gives a flag that tells its absence (R208, log
entry 18). -/

namespace Sys2Proof.Machine

/-- The bits of a list, the first in bit 0. -/
def bitsOf : List Bool → Nat
  | [] => 0
  | b :: bs => (if b then 1 else 0) + 2 * bitsOf bs

/-- A value of `n` bytes, all ones when absent. -/
def leOption (n : Nat) (v : Option Nat) : List Byte :=
  match v with
  | some v => leNat n v
  | none => ones n

/-! ### Path unit -/

/-- The sets of an entry, 0 for a set the role does not have (R208). -/
def setBytes (sets : List Half) : List Byte := padTo 6 (sets.flatMap fun m => leNat 2 m.toNat)

/-- Role parameters in the layout of SET WINDOW bytes 18 to 31 (R207, R208). -/
def paramBytes (p : RoleParams) : List Byte :=
  padTo 14 (match p with
    | .absent => []
    | .frame g => [byteOf g.buffers, byteOf g.marginY] ++ leNat 2 g.width ++ leNat 2 g.height ++ leNat 2 g.pitch
        ++ leNat 2 g.marginX ++ leNat 4 g.stride
    | .record r => beatBytes r.marker ++ [byteOf r.highWater, byteOf r.drainLevel, flagByte r.button, byteOf r.preRoll]
    | .audio m => [byteOf m.code])

/-- The two parts of the path unit for an index. -/
def pathStatus (i : Nat) (s : State) : List (List Byte) :=
  let tail := [byteOf s.path.passQueue.length, byteOf s.path.injected.length, byteOf s.path.arbiterCount]
  match s.entry i with
  | some w =>
    [[byteOf i, byteOf w.role.code, flagByte w.enabled, byteOf w.sizeExp] ++ leNat 4 w.base ++ setBytes w.sets ++ tail,
     [byteOf i, byteOf w.role.code] ++ zeros 12 ++ paramBytes w.params]
  | none => [[byteOf i] ++ ones 13 ++ tail, [byteOf i] ++ ones 27]

/-! ### Report unit -/

/-- The lap, the slots, the next slot and the FREE slots, and the flags between them. -/
def reportRingBytes (s : State) : List Byte :=
  let flags := [flagByte s.report.lost, flagByte s.report.drop.isSome]
  match s.window .report with
  | some w => [flagByte s.report.lap] ++ flags ++ leNat 4 (reportSlots w) ++ leNat 4 s.report.nextSlot
      ++ leNat 4 (reportSlots w - s.report.slots.length)
  | none => ones 1 ++ flags ++ ones 12

/-- The three parts of the report unit. -/
def reportStatus (s : State) : List (List Byte) :=
  let r := s.report
  [[flagByte (s.window .report).isSome] ++ reportRingBytes s
      ++ [byteOf r.queue.length, byteOf ((r.drop.map fun d => d.dropped).getD 0), byteOf s.command.queue.length,
          flagByte r.attn, flagByte r.quietEnd.isSome],
   leNat 4 (bitsOf (r.events.map fun e => e.pending)) ++ leNat 4 (bitsOf (r.events.map fun e => e.masked)),
   r.events.map fun e => e.count]

/-! ### Frame tracker -/

/-- The newest record's bytes 4 to 27, all ones with the history empty. -/
def captureBytes (h : List CaptureRecord) : List Byte :=
  match newestRecord h with
  | some r => leNat 2 r.seq.toNat ++ [byteOf r.buffer, byteOf r.state.code] ++ leInt 2 r.dx ++ leInt 2 r.dy
      ++ [flagByte r.limited] ++ r.timecode.bytes ++ [flagByte r.dropFrame, flagByte r.lens.isSome, 0]
      ++ (match r.lens with
        | some l => leNat 2 l.zoom ++ leNat 2 l.focus ++ leNat 2 l.iris ++ leNat 2 l.extender
        | none => zeros 8)
  | none => ones 24

/-- The state of the newest record of a buffer, 0 for none. -/
def bufferStateByte (h : List CaptureRecord) (b : Nat) : Byte :=
  match newestOf b h with
  | some r => byteOf r.state.code
  | none => 0

/-- The two parts of the frame tracker. -/
def frameStatus (s : State) : List (List Byte) :=
  let f := s.frame
  [[byteOf f.tracker.code, byteOf f.rate.code, flagByte f.dropFrame, byteOf f.mode.code] ++ f.timecode.bytes
      ++ [flagByte (s.window .frame).isSome, byteOf f.history.length] ++ leNat 2 f.nextSeq.toNat,
   captureBytes f.history ++ (List.range 4).map (bufferStateByte f.history)]

/-! ### Lens link controller -/

/-- A frame of the transmitter: 0 none, 1 DEMAND, 2 IDENTIFY REQUEST. -/
def txCode : Option TxFrame → Byte
  | some f => match f.kind with
    | .demand => 1
    | .identifyRequest => 2
  | none => 0

/-- The extender factor e in use (R60). R58 defines e with an identity stored, and with an extender by the stored extender
percent; with no identity, or with an extender and no position record, R60 still shows e and no rule says what it is: the
model reports it absent, all ones (DESIGN CHOICE, log entry 52). -/
def extenderInUse (l : LensLink) : Option Nat :=
  match l.identity, l.position with
  | some i, some p => some (extenderFactor i p)
  | some i, none => if i.extender then none else some 100
  | none, _ => none

/-- The latest position record in the layout of the POSITION payload, as stored (11.5). -/
def positionBytes (p : Position) : List Byte :=
  leNat 2 p.zoom ++ leNat 2 p.focus ++ leNat 2 p.iris ++ leNat 2 p.fNumber ++ leInt 2 p.shiftX ++ leInt 2 p.shiftY
    ++ leNat 2 p.extender ++ leInt 1 p.rocker ++ leNat 2 p.wheel ++ [p.status]

/-- Part 3: the identity's name, ranges and shift ranges. -/
def identityBytes (i : Identity) : List Byte :=
  padTo 12 i.name ++ leNat 2 i.zoomMin ++ leNat 2 i.zoomMax ++ leNat 2 i.focusMin ++ leNat 2 i.focusMax ++ leNat 2 i.irisMin
    ++ leNat 2 i.irisMax ++ leNat 2 i.shiftX ++ leNat 2 i.shiftY

/-- Part 4: the identity's focal table and extender present. -/
def focalBytes (i : Identity) : List Byte := padTo 27 (i.focal.flatMap (leNat 3)) ++ [flagByte i.extender]

/-- The four parts of the lens link controller. -/
def lensStatus (s : State) : List (List Byte) :=
  let l := s.lens
  [[byteOf l.link.code, flagByte l.enable, byteOf l.miss, flagByte l.identity.isSome, flagByte l.position.isSome,
      txCode l.waiting, txCode l.sending, flagByte l.window.isSome] ++ leNat 4 l.focal ++ leOption 2 (extenderInUse l),
   (l.position.map positionBytes).getD (ones 18),
   (l.identity.map identityBytes).getD (ones 28),
   (l.identity.map focalBytes).getD (ones 28)]

/-! ### Axis controller and move engines -/

/-- One axis: source, demand, direct value. -/
def axisBytes (r : AxisRecord) : List Byte := [byteOf r.source.code] ++ leNat 2 r.demand ++ leNat 2 r.direct

/-- The part of the axis controller. -/
def axisStatus (s : State) : List (List Byte) :=
  let c := s.axis
  [axisBytes c.zoom ++ axisBytes c.focus ++ axisBytes c.iris ++ [byteOf c.deadband] ++ leNat 2 c.vmax ++ leNat 2 c.trim
      ++ [flagByte c.zoomTakeover, flagByte c.focusTakeover] ++ leNat 2 c.wheelThreshold
      ++ [flagByte c.wheelRef.isSome] ++ leNat 2 (c.wheelRef.getD 0)]

/-- Bytes 11 to 21: the move in progress, the bytes its kind does not use 0. -/
def moveBytes (m : Option InProgress) : List Byte :=
  match m with
  | some (.ramp start target n shape k) =>
    [1] ++ leNat 2 start ++ leNat 2 target ++ leNat 2 n ++ leNat 2 k ++ [byteOf shape.code, 0]
  | some (.dwell n k) => [2] ++ zeros 4 ++ leNat 2 n ++ leNat 2 k ++ zeros 2
  | some (.wait set) => [4] ++ zeros 9 ++ [byteOf set.toNat]
  | none => zeros 11

/-- The part of one engine. -/
def engineStatus (s : State) (id : EngineId) : List Byte :=
  let g := s.engines.get id
  [byteOf g.state.code, byteOf g.mode.code, byteOf ((boundAxis s.axis id).map Axis.code |>.getD 0), byteOf g.received.toNat]
    ++ leNat 2 g.output ++ [byteOf g.queue.length] ++ moveBytes g.move

/-- The three parts of the move engines. -/
def enginesStatus (s : State) : List (List Byte) := [engineStatus s .e1, engineStatus s .e2, engineStatus s .e3]

/-! ### Gyro port and stabiliser -/

/-- The part of the gyro port. -/
def gyroStatus (s : State) : List (List Byte) :=
  let g := s.gyro
  let p := g.setup
  [[byteOf g.state.code] ++ leNat 2 p.clockKHz ++ [byteOf p.polarity.code, byteOf p.phase.code] ++ leNat 2 p.sampleRate
      ++ [p.command, p.validMask, p.validValue, flagByte g.last.isSome]
      ++ leInt 2 ((g.last.map Prod.fst).getD 0) ++ leInt 2 ((g.last.map Prod.snd).getD 0)
      ++ [byteOf g.badRun, byteOf g.goodRun, flagByte g.transaction]]

/-- The settings of one axis, in the layout of STAB SETUP. -/
def settingsBytes (t : StabSettings) : List Byte :=
  leNat 2 t.gain ++ [if t.negative then 255 else 1] ++ leNat 2 t.leakSteady ++ leNat 2 t.leakPan ++ leNat 2 t.panThreshold
    ++ [byteOf t.panEnter, byteOf t.panExit]

/-- Parts 3 and 4: one axis. -/
def stabAxisBytes (a : StabAxis) : List Byte :=
  leInt 2 a.bias ++ leInt 4 a.acc ++ [byteOf a.pan.code, byteOf a.panRun] ++ leInt 4 a.corr16 ++ leInt 4 a.o16
    ++ leInt 4 a.a16 ++ leInt 4 a.e16

/-- The four parts of the stabiliser. -/
def stabStatus (s : State) : List (List Byte) :=
  let t := s.stab
  [[byteOf t.mode.code] ++ leNat 2 t.pixelPitch ++ [flagByte t.optical, flagByte t.limited, flagByte t.capture.isSome,
      byteOf ((t.capture.map fun c => c.count).getD 0)],
   settingsBytes t.x.settings ++ settingsBytes t.y.settings, stabAxisBytes t.x, stabAxisBytes t.y]

/-! ### Overlay unit -/

/-- One slot: state and element count. -/
def slotBytes (x : OverlaySlot) : List Byte := [byteOf x.state.code, byteOf x.list.length]

/-- The two parts of the overlay unit. -/
def overlayStatus (s : State) : List (List Byte) :=
  let o := s.overlay
  [slotBytes o.s0 ++ slotBytes o.s1 ++ slotBytes o.s2 ++ leNat 2 o.frameCount.toNat
      ++ [byteOf o.zebra.mode.code, o.zebra.level, o.zebra.low, o.zebra.high, o.zebra.luma, byteOf o.overrunHold,
          byteOf o.clipHold],
   o.palette.flatMap fun c => [c.luma, c.cb, c.cr]]

/-! ### Audio unit -/

/-- One route entry: source, gain steps with −32,768 for MUTE, limiter flag. -/
def routeBytes (r : Route) : List Byte :=
  [byteOf r.source.number] ++ leInt 2 (r.gain.getD (-32768)) ++ [flagByte r.limiter]

/-- Parts 2 and 3: one output. -/
def outputBytes (o : AudioOutput) : List Byte :=
  leNat 2 o.r ++ leNat 3 o.peak
    ++ [flagByte o.clip, byteOf o.displayed, byteOf o.decay, byteOf o.held, byteOf o.hold]

/-- The four parts of the audio unit. -/
def audioStatus (s : State) : List (List Byte) :=
  let u := s.audio
  [u.outputs.toList.flatMap (fun o => routeBytes o.route) ++ leNat 4 u.threshold ++ leNat 2 u.release
      ++ [byteOf u.decayInterval, byteOf u.holdTime] ++ leNat 2 u.tolerance,
   outputBytes u.outputs.c1 ++ outputBytes u.outputs.c2, outputBytes u.outputs.c3 ++ outputBytes u.outputs.c4,
   [byteOf u.cadence.code] ++ leNat 2 u.count ++ [byteOf u.phase] ++ leInt 2 u.drift ++ [flagByte u.driftFlag]]

/-! ### Record tracker -/

/-- One clip record, all 0 for a record the list does not hold. -/
def clipBytes (c : Option Clip) : List Byte :=
  match c with
  | some c => leNat 2 c.number ++ [byteOf c.state.code,
      byteOf (bitsOf [c.start.isSome, c.stop.isSome, c.stopSeq.isSome])]
      ++ leNat 4 (c.start.getD 0) ++ leNat 4 (c.stop.getD 0) ++ leNat 2 ((c.stopSeq.map fun q => q.toNat).getD 0)
  | none => zeros 14

/-- Part 1: the ring setup. -/
def ringBytes (s : State) : List Byte :=
  match s.ring with
  | some (size, p) => [1, byteOf p.highWater, byteOf p.drainLevel, flagByte p.button, byteOf p.preRoll, 0]
      ++ leNat 2 s.record.nextClip ++ leNat 4 size ++ beatBytes p.marker
  | none => [0] ++ ones 4 ++ [0] ++ leNat 2 s.record.nextClip ++ ones 12

/-- The four parts of the record tracker. -/
def recordStatus (s : State) : List (List Byte) :=
  let r := s.record
  let newest := r.clips.getLast?
  [ringBytes s ++ r.timecode.bytes ++ [flagByte s.frame.dropFrame],
   leOption 4 r.writeEnd ++ leOption 4 r.drain ++ leNat 4 r.guarded ++ [byteOf r.level.code, flagByte r.episode.isSome]
      ++ leNat 4 (r.episode.getD 0) ++ leNat 2 r.index.length
      ++ leOption 4 (newest.map fun c => c.stamped) ++ leOption 2 (newest.map fun c => c.dropped),
   clipBytes r.clips[0]? ++ clipBytes r.clips[1]?, clipBytes r.clips[2]? ++ clipBytes r.clips[3]?]

/-! ### Metadata writer -/

/-- The part of the metadata writer. No rule gives the number of slots with no METADATA window, nor the mark number of a waiting
record that is absent; the flags of bytes 4 and 5 tell both, and the model writes 0 (DESIGN CHOICE, log entry 18). -/
def metadataStatus (s : State) : List (List Byte) :=
  let m := s.metadata
  [[flagByte (s.window .metadata).isSome, flagByte m.waiting.isSome] ++ leNat 2 m.mark.toNat
      ++ leNat 2 ((m.waiting.map fun w => w.mark.toNat).getD 0) ++ [0, 0]
      ++ leNat 4 ((s.window .metadata).map metadataSlots |>.getD 0) ++ leNat 4 m.cursor]

/-! ### The command -/

/-- The items of every part of a block, absent for a block or a window index that names none (R192). -/
def statusParts (block index : Nat) (s : State) : Option (List (List Byte)) :=
  match block with
  | 1 => if index ≤ 15 then some (pathStatus index s) else none
  | 2 => some (reportStatus s)
  | 3 => some (frameStatus s)
  | 4 => some (lensStatus s)
  | 5 => some (axisStatus s)
  | 6 => some (enginesStatus s)
  | 7 => some (gyroStatus s)
  | 8 => some (stabStatus s)
  | 9 => some (overlayStatus s)
  | 10 => some (audioStatus s)
  | 11 => some (recordStatus s)
  | 12 => some (metadataStatus s)
  | _ => none

/-- The STATUS reports of a request, each with the command's tag, offered in order (R190, R192). -/
def offerStatus (block parts : Nat) (tag : Half) : Nat → List (List Byte) → State → State
  | _, [], s => s
  | part, items :: rest, s =>
    offerStatus block parts tag (part + 1) rest (offer (.status block part parts tag items) s)

/-- STATUS REQUEST (R192): the values are taken first. -/
def statusRequest (r : CommandRecord) (s : State) : State × Completion :=
  match statusParts (r.byte 4) (r.byte 5) s with
  | none => refuses .refusedRange s
  | some parts =>
    (offerStatus (r.byte 4) parts.length r.tag 1 parts s, { status := .done, result := .statusReports parts.length })

end Sys2Proof.Machine
end

