-- ==== Sys2Proof/Machine/Commands.lean ====
section
/-! DEFINITION. The command interface and the report unit: one command's execution (R190, R191), the report unit's commands
(R200 to R204), the resets (R193, R206), the report queue's departures and places (R196, R197) and the quiet interval's end
(R204). -/

namespace Sys2Proof.Machine

/-! ### The report unit's commands -/

/-- The masks of a SET EVENT MASK: bit k − 1 masks kind k (R207). -/
def maskEvents (mask : Nat) : Nat → List EventEntry → List EventEntry
  | _, [] => []
  | i, e :: es => { e with masked := mask.testBit i } :: maskEvents mask (i + 1) es

/-- SET EVENT MASK (R200). -/
def setEventMask (r : CommandRecord) (s : State) : State × Completion :=
  completes .done (evaluateAttn { s with report := { s.report with events := maskEvents (r.word 4) 0 s.report.events } })

/-- ACK EVENT (R201). -/
def ackEvent (r : CommandRecord) (s : State) : State × Completion :=
  match EventKind.ofNumber (r.byte 4) with
  | none => refuses .refusedRange s
  | some k =>
    let count := (eventEntry s k).count
    if byteOf (r.byte 5) = count then
      (evaluateAttn { s with report := { s.report with
        events := s.report.events.modify (k.number - 1) fun e => { e with pending := false } } },
        { status := .done, result := .ack true count })
    else (evaluateAttn s, { status := .done, result := .ack false count })

/-- SERVICE DONE (R204). -/
def serviceDone (_r : CommandRecord) (s : State) : State × Completion :=
  completes .done (evaluateAttn { s with report := { s.report with quietEnd := some (s.now + quietInterval) } })

/-- RAISE EVENT (R202). -/
def raiseCommand (r : CommandRecord) (s : State) : State × Completion :=
  match EventKind.ofNumber (r.byte 4) with
  | none => refuses .refusedRange s
  | some k => completes .done (occur k (.raw (r.bytes 5 16)) true s)

/-- The report unit's part of a RESET JOB (R206). -/
def resetReport (s : State) : State :=
  evaluateAttn { s with report := { s.report with
    queue := [], drop := none
    lost := s.report.lost || !s.report.queue.isEmpty || s.report.drop.isSome
    events := s.report.events.map fun e => { e with pending := false } } }

/-! ### RESET JOB (R193) -/

/-- RESET JOB LENS, or a target that names none (R193, log entry 9). -/
def resetJobLens (r : CommandRecord) (s : State) : State × Completion :=
  if r.targetsNone then refuses .refusedRange s else completes .done (resetLens s)

/-- RESET JOB STAB (R107). -/
def resetJobStab (_r : CommandRecord) (s : State) : State × Completion := completes .done (resetStab s)

/-- RESET JOB FRAME (R42). -/
def resetJobFrame (_r : CommandRecord) (s : State) : State × Completion := completes .done (resetFrame s)

/-- RESET JOB AUDIO (R150). -/
def resetJobAudio (_r : CommandRecord) (s : State) : State × Completion := completes .done (resetAudio s)

/-- RESET JOB OVERLAY (R130). -/
def resetJobOverlay (_r : CommandRecord) (s : State) : State × Completion := completes .done (resetOverlay s)

/-- RESET JOB RECORD (R177). -/
def resetJobRecord (_r : CommandRecord) (s : State) : State × Completion := completes .done (resetRecord s)

/-- RESET JOB REPORT (R206). -/
def resetJobReport (_r : CommandRecord) (s : State) : State × Completion := completes .done (resetReport s)

/-- RESET JOB PART (R193): the report unit's part first, the other six after it. The rule gives the six no order; here it is
LENS, STAB, FRAME, AUDIO, OVERLAY, RECORD (DESIGN CHOICE, log entry 42). -/
def resetPart (s : State) : State :=
  resetRecord (resetOverlay (resetAudio (resetFrame (resetStab (resetLens (resetReport s))))))

/-- RESET JOB PART (R193). -/
def resetJobPart (_r : CommandRecord) (s : State) : State × Completion := completes .done (resetPart s)

/-- A code that names no command: REFUSED_UNKNOWN (R191, R207). -/
def unknownCommand (_r : CommandRecord) (s : State) : State × Completion := refuses .refusedUnknown s

/-! ### One execution (R190) -/

/-- The command that the next execution takes: the oldest in the queue once no held report remains (R190). -/
def nextCommand (s : State) : Option CommandRecord := if s.command.held.isEmpty then s.command.queue.head? else none

/-- The record leaves the queue (R190). -/
def popCommand (s : State) : State := { s with command := { s.command with queue := s.command.queue.tail } }

/-- The completion report of a command (R191). -/
def completionReport (r : CommandRecord) (c : Completion) : Report := .completion c.status r.tag r.code c.result c.moves

/-- The completion of an executed command is offered last (R190). -/
def finishCommand (r : CommandRecord) (result : State × Completion) : State :=
  offer (completionReport r result.2) result.1

/-- The execution of the next command by the step that names it (R190): with no such command to execute, nothing happens
(log entry 6). -/
def runCommand (accepts : CommandRecord → Bool) (body : CommandRecord → State → State × Completion) (s : State) : State :=
  match nextCommand s with
  | some r => if accepts r then finishCommand r (body r (popCommand s)) else s
  | none => s

/-- BIAS CAPTURE's execution (R93): a capture that begins makes no completion report (R190). -/
def runBiasCapture (s : State) : State :=
  match nextCommand s with
  | some r =>
    if r.is 0x0043 then
      match biasCapture r (popCommand s) with
      | (s, some c) => offer (completionReport r c) s
      | (s, none) => s
    else s
  | none => s

/-! ### Departures and places (R196, R197) -/

/-- A report's write joins the injected-write queue behind the report writes there and ahead of every metadata write
(R15). -/
def insertReportWrite (w : InjectedWrite) : List InjectedWrite → List InjectedWrite
  | [] => [w]
  | v :: rest => if v.kind = .metadata then w :: v :: rest else v :: insertReportWrite w rest

/-- The next slot and the lap after a slot is taken (R194). -/
def advanceSlot (w : WindowRecord) (r : ReportUnit) : ReportUnit :=
  if r.nextSlot + 1 < reportSlots w then { r with nextSlot := r.nextSlot + 1 }
  else { r with nextSlot := 0, lap := !r.lap }

/-- The first report takes the next slot (R194, R196): it carries the lap and the lost flag, which is then cleared (R197). -/
def takeSlot (w : WindowRecord) (report : Report) (rest : List Report) (s : State) : State :=
  let k := s.report.nextSlot
  let write : InjectedWrite :=
    { kind := report.recordKind, tag := ownTag, isMemoryFault := report.isMemoryFault, addr := w.base + 32 * k
      bytes := report.compose s.report.lap s.report.lost, slot := some k }
  { s with
    report := advanceSlot w { s.report with
      queue := rest, lost := false, slots := setSlot s.report.slots k .queued }
    path := { s.path with injected := insertReportWrite write s.path.injected } }

/-- The waiting drop report takes an opened place (R197). -/
def dropReportJoins (d : DropReport) (s : State) : State :=
  enqueueReport (.event .reportsDropped d.count (.reportsDropped d.kind d.dropped) false)
    { s with report := { s.report with drop := none } }

/-- An opened place of the report queue is given: to the waiting drop report, else to the oldest held report (R197). -/
def placeGiven (s : State) : State :=
  if (s.window .report).isSome && s.report.queue.length < 16 then
    match s.report.drop, s.command.held with
    | some d, _ => dropReportJoins d s
    | none, r :: rest => enqueueReport r { s with command := { s.command with held := rest } }
    | none, [] => s
  else s

/-- The first report of the queue leaves when the next slot is FREE and the injected-write queue has a place, and the place
that its departure opens is given (R196, R197, log entry 20). -/
def reportLeaves (s : State) : State :=
  match s.window .report, s.report.queue with
  | some w, r :: rest => if reportCanLeave s then placeGiven (takeSlot w r rest s) else s
  | _, _ => s

/-- The quiet interval ends and ATTN is evaluated again (R204). -/
def quietEnds (s : State) : State :=
  match s.report.quietEnd with
  | some t => evaluateAttn (reachTime t { s with report := { s.report with quietEnd := none } })
  | none => s

end Sys2Proof.Machine
end

