-- ==== Sys2Proof/Machine/PathSteps.lean ====
section
/-! DEFINITION. The meanings of the path unit's steps: PIN_RESET (R17), acceptance (R8), the arbiter (R14), answers from
memory (R8, R16) and responses (R2). -/

namespace Sys2Proof.Machine

/-- What a step answers with. -/
abbrev Result := Host.Outcome State Fault Refusal

/-- PIN_RESET (R17): every block in its pin-reset state with the straps sampled; bursts accepted or queued are dropped. The
model's own queue of steps is kept (log entry 4). -/
def execPinReset (cws : BitVec 3) (lensEn : Bool) (s : State) : Result :=
  .next { State.atPinReset cws lensEn with pending := s.pending }

/-- UPSTREAM_WRITE_ACCEPTED (R8). -/
def execUpstreamWriteAccepted (b : WriteBurst) (s : State) : Result :=
  if b.wellFormed then .next (presentRequest (.write b) s) else .refused .malformed

/-- UPSTREAM_READ_ACCEPTED (R8). -/
def execUpstreamReadAccepted (b : ReadBurst) (s : State) : Result :=
  if b.wellFormed then .next (presentRequest (.read b) s) else .refused .malformed

/-- ARBITER_ISSUE (R14). -/
def execArbiterIssue (s : State) : Result := .next (issueNext s)

/-- READ_RETURN (R8, R12, R16): beats of the read the port carries, all that are still to come or the next few of them, or
ERROR for an absent answer. A read has as many beats as it asked for, and is answered with its data or with ERROR (R2, R8). -/
def execReadReturn (answer : Option (List BeatData)) (s : State) : Result :=
  match s.path.atMemory with
  | some (.pass b) =>
    match b.body, answer with
    | .read _ _, none =>
      if s.path.beatsBack = [] then .next (finishResponse b.id .error (answered s)) else .fault .unsolicitedAnswer
    | .read len cls, some beats =>
      if 1 ≤ beats.length ∧ s.path.beatsBack.length + beats.length ≤ len then .next (beatsReturn b len cls beats s)
      else .fault .unsolicitedAnswer
    | .write _, _ => .fault .unsolicitedAnswer
  | _ => .fault .unsolicitedAnswer

/-- FORWARDED_WRITE_RESPONSE (R16). -/
def execForwardedWriteResponse (done : Bool) (s : State) : Result :=
  match s.path.atMemory with
  | some (.pass b) =>
    match b.body with
    | .write _ => .next (finishResponse b.id (if done then .done else .error) (answered s))
    | .read _ _ => .fault .unsolicitedAnswer
  | _ => .fault .unsolicitedAnswer

/-- INJECTED_WRITE_RESPONSE (R16). -/
def execInjectedWriteResponse (done : Bool) (s : State) : Result :=
  match s.path.atMemory with
  | some (.injected w) => .next (if done then answered s else loseRecord w (answered s))
  | _ => .fault .unsolicitedAnswer

/-- UPSTREAM_RESPONSE_RETURNED (R2). -/
def execUpstreamResponseReturned (tag : BitVec 4) (s : State) : Result := .next (returnResponse tag s)

end Sys2Proof.Machine
end

