-- ==== Sys2Proof/Machine/CommandSteps.lean ====
section
/-! DEFINITION. The meanings of the command steps (R190): each executes the oldest command of the queue when that command is
its own, by its code and, where the table splits a command by its selection, by that selection (log entries 6 and 9). -/

namespace Sys2Proof.Machine

/-- UNKNOWN_COMMAND (R191, R207). -/
def execUnknownCommand (s : State) : Result := .next (runCommand CommandRecord.isUnknown unknownCommand s)

/-- SET_WINDOW (R18); a waiting write may then be one to be held back or to be classified anew (R1). -/
def execSetWindow (s : State) : Result := .next (settle (runCommand (CommandRecord.is 0x0001) setWindow s))

/-- CLEAR_WINDOW (R19); a waiting write may then be one to be held back or to be classified anew (R1). -/
def execClearWindow (s : State) : Result := .next (settle (runCommand (CommandRecord.is 0x0002) clearWindow s))

/-- SET_EVENT_MASK (R200). -/
def execSetEventMask (s : State) : Result := .next (runCommand (CommandRecord.is 0x0010) setEventMask s)

/-- ACK_EVENT (R201). -/
def execAckEvent (s : State) : Result := .next (runCommand (CommandRecord.is 0x0011) ackEvent s)

/-- SERVICE_DONE (R204). -/
def execServiceDone (s : State) : Result := .next (runCommand (CommandRecord.is 0x0012) serviceDone s)

/-- RAISE_EVENT (R202). -/
def execRaiseEvent (s : State) : Result := .next (runCommand (CommandRecord.is 0x0013) raiseCommand s)

/-- STATUS_REQUEST (R192). -/
def execStatusRequest (s : State) : Result := .next (runCommand (CommandRecord.is 0x0014) statusRequest s)

/-- RESET_JOB_LENS (R63, R85), and a RESET JOB whose target names none of the eight (R193, log entry 9). -/
def execResetJobLens (s : State) : Result := .next (runCommand (fun r => r.targets 1 || r.targetsNone) resetJobLens s)

/-- RESET_JOB_STAB (R107). -/
def execResetJobStab (s : State) : Result := .next (runCommand (CommandRecord.targets 2) resetJobStab s)

/-- RESET_JOB_FRAME (R42). -/
def execResetJobFrame (s : State) : Result := .next (runCommand (CommandRecord.targets 3) resetJobFrame s)

/-- RESET_JOB_AUDIO (R150). -/
def execResetJobAudio (s : State) : Result := .next (runCommand (CommandRecord.targets 4) resetJobAudio s)

/-- RESET_JOB_OVERLAY (R130). -/
def execResetJobOverlay (s : State) : Result := .next (runCommand (CommandRecord.targets 5) resetJobOverlay s)

/-- RESET_JOB_RECORD (R177). -/
def execResetJobRecord (s : State) : Result := .next (runCommand (CommandRecord.targets 6) resetJobRecord s)

/-- RESET_JOB_REPORT (R206). -/
def execResetJobReport (s : State) : Result := .next (runCommand (CommandRecord.targets 7) resetJobReport s)

/-- RESET_JOB_PART (R193). -/
def execResetJobPart (s : State) : Result := .next (runCommand (CommandRecord.targets 8) resetJobPart s)

/-- SET_FRAME_RATE (R32). -/
def execSetFrameRate (s : State) : Result := .next (runCommand (CommandRecord.is 0x0020) setFrameRate s)

/-- SET_TIMECODE (R37). -/
def execSetTimecode (s : State) : Result := .next (runCommand (CommandRecord.is 0x0021) setTimecode s)

/-- SET_TIMECODE_MODE (R38). -/
def execSetTimecodeMode (s : State) : Result := .next (runCommand (CommandRecord.is 0x0022) setTimecodeMode s)

/-- LENS_LINK_ENABLE (R59), and a LENS LINK whose action names none of the three (log entry 9). -/
def execLensLinkEnable (s : State) : Result :=
  .next (runCommand (fun r => r.selects 0x0028 1 || r.linkActionNone) lensEnable s)

/-- LENS_LINK_DISABLE (R59). -/
def execLensLinkDisable (s : State) : Result := .next (runCommand (CommandRecord.selects 0x0028 2) lensDisable s)

/-- LENS_LINK_RE_SEEK (R59). -/
def execLensLinkReSeek (s : State) : Result := .next (runCommand (CommandRecord.selects 0x0028 3) lensReSeek s)

/-- SET_AXIS_SOURCE (R65). -/
def execSetAxisSource (s : State) : Result := .next (runCommand (CommandRecord.is 0x0030) setAxisSource s)

/-- SET_DIRECT_DEMAND (R69). -/
def execSetDirectDemand (s : State) : Result := .next (runCommand (CommandRecord.is 0x0031) setDirectDemand s)

/-- SET_ROCKER (R69). -/
def execSetRocker (s : State) : Result := .next (runCommand (CommandRecord.is 0x0032) setRocker s)

/-- SET_OVERRIDE (R69). -/
def execSetOverride (s : State) : Result := .next (runCommand (CommandRecord.is 0x0033) setOverride s)

/-- ENGINE_APPEND (R74). -/
def execEngineAppend (s : State) : Result := .next (runCommand (CommandRecord.is 0x0038) engineAppend s)

/-- ENGINE_MODE_RUN (R79), and an ENGINE MODE whose mode names none of the three (log entry 9). -/
def execEngineModeRun (s : State) : Result :=
  .next (runCommand (fun r => r.engineMode 1 || r.engineModeNone) engineModeRun s)

/-- ENGINE_MODE_STEP (R79). -/
def execEngineModeStep (s : State) : Result := .next (runCommand (CommandRecord.engineMode 2) engineModeStep s)

/-- ENGINE_MODE_HOLD (R79). -/
def execEngineModeHold (s : State) : Result := .next (runCommand (CommandRecord.engineMode 3) engineModeHold s)

/-- ENGINE_FLUSH (R80). -/
def execEngineFlush (s : State) : Result := .next (runCommand (CommandRecord.is 0x0039) engineFlush s)

/-- GYRO_SETUP (R86). -/
def execGyroSetup (s : State) : Result := .next (runCommand (CommandRecord.is 0x0040) gyroSetup s)

/-- STAB_SETUP (R95). -/
def execStabSetup (s : State) : Result := .next (runCommand (CommandRecord.is 0x0041) stabSetup s)

/-- STAB_MODE (R96). -/
def execStabMode (s : State) : Result := .next (runCommand (CommandRecord.is 0x0042) stabMode s)

/-- BIAS_CAPTURE (R93). -/
def execBiasCapture (s : State) : Result := .next (runBiasCapture s)

/-- STAB_RECENTRE (R97). -/
def execStabRecentre (s : State) : Result := .next (runCommand (CommandRecord.is 0x0044) stabRecentre s)

/-- OVERLAY_BEGIN (R119). -/
def execOverlayBegin (s : State) : Result := .next (runCommand (CommandRecord.is 0x0050) overlayBegin s)

/-- OVERLAY_ELEMENT (R120). -/
def execOverlayElement (s : State) : Result := .next (runCommand (CommandRecord.is 0x0051) overlayElement s)

/-- OVERLAY_COMMIT (R121). -/
def execOverlayCommit (s : State) : Result := .next (runCommand (CommandRecord.is 0x0052) overlayCommit s)

/-- SET_PALETTE (R126). -/
def execSetPalette (s : State) : Result := .next (runCommand (CommandRecord.is 0x0053) setPalette s)

/-- SET_ZEBRA (R125). -/
def execSetZebra (s : State) : Result := .next (runCommand (CommandRecord.is 0x0054) setZebra s)

/-- AUDIO_ROUTE (R136). -/
def execAudioRoute (s : State) : Result := .next (runCommand (CommandRecord.is 0x0060) audioRoute s)

/-- AUDIO_LIMITER (R138). -/
def execAudioLimiter (s : State) : Result := .next (runCommand (CommandRecord.is 0x0061) audioLimiter s)

/-- AUDIO_METER (R143). -/
def execAudioMeter (s : State) : Result := .next (runCommand (CommandRecord.is 0x0062) audioMeter s)

/-- AUDIO_SYNC_RESET (R147). -/
def execAudioSyncReset (s : State) : Result := .next (runCommand (CommandRecord.is 0x0063) audioSyncReset s)

/-- RECORD_SETUP (R152); a waiting write may then be one to be held back or to be classified anew (R1). -/
def execRecordSetup (s : State) : Result := .next (settle (runCommand (CommandRecord.is 0x0070) recordSetup s))

/-- REC_START (R161, R162); a waiting write may then be one to be held back or to be classified anew (R1). -/
def execRecStart (s : State) : Result := .next (settle (runCommand (CommandRecord.is 0x0071) recStart s))

/-- REC_STOP (R164). -/
def execRecStop (s : State) : Result := .next (runCommand (CommandRecord.is 0x0072) recStop s)

/-- CLIP_DISCARD (R171). -/
def execClipDiscard (s : State) : Result := .next (runCommand (CommandRecord.is 0x0073) clipDiscard s)

end Sys2Proof.Machine
end

