-- ==== Sys2Proof/Machine/LensSteps.lean ====
section
/-! DEFINITION. The meanings of the lens link's steps: characters and frames (R45, R46, R51, R57), the transmitter (R47, R48,
R54) and its timers (R50, R51, R54). A step whose row a character does not make happens not at all (log entry 6). -/

namespace Sys2Proof.Machine

/-- The frame being sent reaches the end of its last stop bit: it has been read back whole, and completes (R47, R54, 3.2). -/
def frameCompletes (s : State) : State :=
  match s.lens.sending with
  | some f =>
    let s := readBackUntil (f.stop s) (reachTime (f.stop s) s)
    match s.lens.sending with
    | some g => completeFrame g s
    | none => s
  | none => s

/-- A frame of the part's own whose last stop bit has ended completes before anything that follows it on the line (R47). -/
def completeIfDone (s : State) : State :=
  match s.lens.sending with
  | some f => if f.stop s ≤ s.now then frameCompletes s else s
  | none => s

/-- A character that is discarded while hunting, or collected (R45). -/
def hearCharacter (c : LineChar) (s : State) : State :=
  match readCharacter c s with
  | some (start, .hunting, t) => applyReception start .hunting t
  | some (start, .assembling a, t) => applyReception start (.assembling a) t
  | _ => s

/-- LENS_CHARACTER_RECEIVED: a character's start bit (R43, R47), the whole character at its end (R45), or the line's return to
high after a stop bit read low (R43). -/
def execLensCharacterReceived (event : LineEvent) (s : State) : Result :=
  match event with
  | .startBit => .next (startBitFalls (completeIfDone s))
  | .character c => .next (hearCharacter c s)
  | .returnsHigh => .next (lineReturnsHigh s)

/-- A character abandons the frame under assembly (R45). -/
def abandonByCharacter (c : LineChar) (s : State) : State :=
  match readCharacter c s with
  | some (start, .abandoned, t) => applyReception start .abandoned t
  | _ => s

/-- A gap of more than 2 byte times abandons the frame under assembly (R45): no start bit has come, neither the lens's nor, as
its characters leave no gap (R43), the part's own. -/
def abandonByGap (s : State) : State :=
  if s.lens.sending.isSome || s.lens.charStart.isSome || s.lens.rx.isNone then s
  else abandonOnGap (reachTime (s.lens.lineSince + 2 * byteTime + 1) s)

/-- LENS_FRAME_ABANDONED (R45). -/
def execLensFrameAbandoned (cause : AbandonCause) (s : State) : Result :=
  match cause with
  | .char c => .next (abandonByCharacter c s)
  | .gap => .next (abandonByGap s)

/-- The frame that a CHECK character completes: its start, what it is, and the state in which it is taken (R45). -/
def frameEnding (check : LineChar) (s : State) : Option (Nat × Received × State) :=
  match readCharacter check s with
  | some (_, .received start ty payload, t) =>
    some (start, classifyFrame ty payload, { t with lens := { t.lens with rx := none } })
  | _ => none

/-- A received frame that is discarded (R45). -/
def discardFrame (check : LineChar) (s : State) : State :=
  match frameEnding check s with
  | some (start, .discarded, t) => nothingTaken start t
  | _ => s

/-- LENS_FRAME_DISCARDED (R45). -/
def execLensFrameDiscarded (check : LineChar) (s : State) : Result := .next (discardFrame check s)

/-- A valid POSITION ends (R46). -/
def takePositionFrame (check : LineChar) (s : State) : State :=
  match frameEnding check s with
  | some (start, .position p, t) => positionArrives start p t
  | _ => s

/-- POSITION_TAKEN (R46). -/
def execPositionTaken (check : LineChar) (s : State) : Result := .next (takePositionFrame check s)

/-- A valid IDENTITY ends (R51). -/
def takeIdentityFrame (check : LineChar) (s : State) : State :=
  match frameEnding check s with
  | some (start, .identity i, t) => identityArrives start i t
  | _ => s

/-- IDENTITY_TAKEN (R51). -/
def execIdentityTaken (check : LineChar) (s : State) : Result := .next (takeIdentityFrame check s)

/-- A valid NOTICE ends (R57). -/
def takeNoticeFrame (check : LineChar) (s : State) : State :=
  match frameEnding check s with
  | some (start, .notice n, t) => noticeArrives start n t
  | _ => s

/-- NOTICE_TAKEN (R57); a clip that a RECORD BUTTON starts may make a waiting write one to be held back (R1). -/
def execNoticeTaken (check : LineChar) (s : State) : Result := .next (settle (takeNoticeFrame check s))

/-- What is being received may still be the POSITION that completes an identity reply: a frame under assembly, or a character
on the line that may be its SYNC, that started within the 2 ms (R51). -/
def mayComplete (q : Provisional) (s : State) : Bool :=
  match s.lens.rx, characterOnLine s with
  | some a, _ => a.start ≤ q.deadline && (a.bytes.isEmpty || a.bytes.head? == some positionType)
  | none, some start => start ≤ q.deadline
  | none, none => false

/-- The 2 ms after an IDENTITY end (R51): the provisional identity is dropped unless what started in them may still complete the
reply. -/
def identityTimeout (s : State) : State :=
  match s.lens.provisional with
  | some q =>
    let s := reachTime q.deadline s
    let s := readBackUntil s.now s
    if mayComplete q s then s else { s with lens := { s.lens with provisional := none } }
  | none => s

/-- IDENTITY_REPLY_TIMEOUT (R51). -/
def execIdentityReplyTimeout (s : State) : Result := .next (identityTimeout s)

/-- The waiting frame starts; it keeps waiting while a character of the lens's is on the line or the line has not returned high
(R43, R47). -/
def frameStarts (s : State) : State :=
  if s.lens.waiting.isNone || s.lens.sending.isSome || s.lens.charStart.isSome || s.lens.lineLow then s else startFrame s

/-- LENS_FRAME_START (R47). -/
def execLensFrameStart (s : State) : Result := .next (frameStarts s)

/-- LENS_FRAME_COMPLETE (R54). -/
def execLensFrameComplete (s : State) : Result := .next (frameCompletes s)

/-- The bit of the frame being sent in which a low driven by the lens is next seen: where the part drives the line low too the
line reads the same, so it is the first bit from the present one on in which the part releases the line (R48). -/
def nextReleased (f : TxFrame) (s : State) : Option Nat :=
  let present := (s.now - s.lens.sentAt) / bitTime
  ((f.bits.drop present).findIdx? fun driven => lensLine driven false != driven).map (present + ·)

/-- The line reads low in a bit in which the part releases it, and the frame being sent is cancelled in that bit, the whole
characters before it having been read back (R48, 3.2). A frame whose last stop bit has ended is not affected. -/
def frameCancelled (s : State) : State :=
  match s.lens.sending.bind fun f => nextReleased f s with
  | some bit =>
    let s := reachTime (s.lens.sentAt + bit * bitTime) s
    let s := readBackUntil s.now s
    match s.lens.sending with
    | some f => cancelFrame f s
    | none => s
  | none => s

/-- LENS_FRAME_CANCELLED (R48). -/
def execLensFrameCancelled (s : State) : Result := .next (frameCancelled s)

/-- The 2 ms of the reply window end (R54): it stays open for a frame that started in it and is still being received, or for a
character on the line that started in it and may be the SYNC of one (DEDUCED, log entry 54). -/
def windowEnds (s : State) : State :=
  match s.lens.window with
  | some w =>
    let s := reachTime w.closes s
    let start := match s.lens.rx with
      | some a => some a.start
      | none => characterOnLine s
    if (start.map w.contains).getD false then s else missCycle s
  | none => s

/-- REPLY_WINDOW_EXPIRY (R54). -/
def execReplyWindowExpiry (s : State) : Result := .next (windowEnds s)

/-- The seek timer expires (R50). -/
def seekExpires (s : State) : State :=
  match s.lens.link, s.lens.seek with
  | .seeking, some t =>
    let s := joinTransmitter identifyRequestFrame (reachTime t s)
    { s with lens := { s.lens with seek := some (t + seekInterval) } }
  | _, _ => s

/-- SEEK_TIMER_EXPIRY (R50). -/
def execSeekTimerExpiry (s : State) : Result := .next (seekExpires s)

end Sys2Proof.Machine
end

