-- ==== Sys2Proof/Machine/TimedSteps.lean ====
section
/-! DEFINITION. The meanings of the steps the part takes by itself: the frame-mark timer (R30), the metadata writer (R183),
the gyro port (R87, R88), the quiet interval (R204) and the report queue (R196, R197). -/

namespace Sys2Proof.Machine

/-- FRAME_MARK_TIMER_EXPIRY (R30). -/
def execFrameMarkTimerExpiry (s : State) : Result := .next (timerExpiry s)

/-- METADATA_RECORD_JOINS (R183). -/
def execMetadataRecordJoins (s : State) : Result := .next (waitingMetadataJoins s)

/-- The sample timer expires and one transaction begins; the next expiry is one sample period on (R87). -/
def sampleTimerExpires (s : State) : State :=
  match s.gyro.state, s.gyro.timer with
  | .unconfigured, _ => s
  | _, some t => reachTime t { s with gyro := { s.gyro with transaction := true, timer := some (t + s.gyro.setup.period) } }
  | _, none => s

/-- SAMPLE_TIMER_EXPIRY (R87). -/
def execSampleTimerExpiry (s : State) : Result := .next (sampleTimerExpires s)

/-- The sample event at the end of a transaction, with the six bytes the port has read from GDI (R87, R88). -/
def sampleEvent (gdi : GdiLevels) (s : State) : State :=
  if s.gyro.transaction then sampleEnds (s.gyro.setup.readGdi gdi) (reachTime s.gyro.transactionEnd s) else s

/-- SAMPLE_EVENT (R88). -/
def execSampleEvent (gdi : GdiLevels) (s : State) : Result := .next (sampleEvent gdi s)

/-- QUIET_INTERVAL_END (R204). -/
def execQuietIntervalEnd (s : State) : Result := .next (quietEnds s)

/-- REPORT_LEAVES_QUEUE (R196, R197); a held completion that takes the place may move the command window (R20). -/
def execReportLeavesQueue (s : State) : Result := .next (settle (reportLeaves s))

/-- HELD_REPORT_JOINS (R197); a completion that moves the command window moves it here (R20). -/
def execHeldReportJoins (s : State) : Result := .next (settle (placeGiven s))

end Sys2Proof.Machine
end

