-- ==== Sys2Proof/Machine/Dispatch.lean ====
section
/-! DEFINITION. The meaning of every step, one arm per constructor of Instr. -/

namespace Sys2Proof.Machine

def exec (i : Instr) (s : State) : Host.Outcome State Fault Refusal :=
  match i with
  | .pinReset cws lensEn => Sys2Proof.Machine.execPinReset cws lensEn s
  | .upstreamWriteAccepted b => Sys2Proof.Machine.execUpstreamWriteAccepted b s
  | .upstreamReadAccepted b => Sys2Proof.Machine.execUpstreamReadAccepted b s
  | .arbiterIssue => Sys2Proof.Machine.execArbiterIssue s
  | .readReturn answer => Sys2Proof.Machine.execReadReturn answer s
  | .forwardedWriteResponse done => Sys2Proof.Machine.execForwardedWriteResponse done s
  | .injectedWriteResponse done => Sys2Proof.Machine.execInjectedWriteResponse done s
  | .upstreamResponseReturned tag => Sys2Proof.Machine.execUpstreamResponseReturned tag s
  | .frameMarkTimerExpiry => Sys2Proof.Machine.execFrameMarkTimerExpiry s
  | .metadataRecordJoins => Sys2Proof.Machine.execMetadataRecordJoins s
  | .lensFrameAbandoned cause => Sys2Proof.Machine.execLensFrameAbandoned cause s
  | .lensFrameDiscarded check => Sys2Proof.Machine.execLensFrameDiscarded check s
  | .positionTaken check => Sys2Proof.Machine.execPositionTaken check s
  | .identityTaken check => Sys2Proof.Machine.execIdentityTaken check s
  | .noticeTaken check => Sys2Proof.Machine.execNoticeTaken check s
  | .identityReplyTimeout => Sys2Proof.Machine.execIdentityReplyTimeout s
  | .lensFrameStart => Sys2Proof.Machine.execLensFrameStart s
  | .lensFrameComplete => Sys2Proof.Machine.execLensFrameComplete s
  | .lensFrameCancelled => Sys2Proof.Machine.execLensFrameCancelled s
  | .replyWindowExpiry => Sys2Proof.Machine.execReplyWindowExpiry s
  | .seekTimerExpiry => Sys2Proof.Machine.execSeekTimerExpiry s
  | .sampleTimerExpiry => Sys2Proof.Machine.execSampleTimerExpiry s
  | .sampleEvent gdi => Sys2Proof.Machine.execSampleEvent gdi s
  | .quietIntervalEnd => Sys2Proof.Machine.execQuietIntervalEnd s
  | .reportLeavesQueue => Sys2Proof.Machine.execReportLeavesQueue s
  | .heldReportJoins => Sys2Proof.Machine.execHeldReportJoins s
  | .unknownCommand => Sys2Proof.Machine.execUnknownCommand s
  | .setWindow => Sys2Proof.Machine.execSetWindow s
  | .clearWindow => Sys2Proof.Machine.execClearWindow s
  | .setEventMask => Sys2Proof.Machine.execSetEventMask s
  | .ackEvent => Sys2Proof.Machine.execAckEvent s
  | .serviceDone => Sys2Proof.Machine.execServiceDone s
  | .raiseEvent => Sys2Proof.Machine.execRaiseEvent s
  | .statusRequest => Sys2Proof.Machine.execStatusRequest s
  | .resetJobLens => Sys2Proof.Machine.execResetJobLens s
  | .resetJobStab => Sys2Proof.Machine.execResetJobStab s
  | .resetJobFrame => Sys2Proof.Machine.execResetJobFrame s
  | .resetJobAudio => Sys2Proof.Machine.execResetJobAudio s
  | .resetJobOverlay => Sys2Proof.Machine.execResetJobOverlay s
  | .resetJobRecord => Sys2Proof.Machine.execResetJobRecord s
  | .resetJobReport => Sys2Proof.Machine.execResetJobReport s
  | .resetJobPart => Sys2Proof.Machine.execResetJobPart s
  | .setFrameRate => Sys2Proof.Machine.execSetFrameRate s
  | .setTimecode => Sys2Proof.Machine.execSetTimecode s
  | .setTimecodeMode => Sys2Proof.Machine.execSetTimecodeMode s
  | .lensLinkEnable => Sys2Proof.Machine.execLensLinkEnable s
  | .lensLinkDisable => Sys2Proof.Machine.execLensLinkDisable s
  | .lensLinkReSeek => Sys2Proof.Machine.execLensLinkReSeek s
  | .setAxisSource => Sys2Proof.Machine.execSetAxisSource s
  | .setDirectDemand => Sys2Proof.Machine.execSetDirectDemand s
  | .setRocker => Sys2Proof.Machine.execSetRocker s
  | .setOverride => Sys2Proof.Machine.execSetOverride s
  | .engineAppend => Sys2Proof.Machine.execEngineAppend s
  | .engineModeRun => Sys2Proof.Machine.execEngineModeRun s
  | .engineModeStep => Sys2Proof.Machine.execEngineModeStep s
  | .engineModeHold => Sys2Proof.Machine.execEngineModeHold s
  | .engineFlush => Sys2Proof.Machine.execEngineFlush s
  | .gyroSetup => Sys2Proof.Machine.execGyroSetup s
  | .stabSetup => Sys2Proof.Machine.execStabSetup s
  | .stabMode => Sys2Proof.Machine.execStabMode s
  | .biasCapture => Sys2Proof.Machine.execBiasCapture s
  | .stabRecentre => Sys2Proof.Machine.execStabRecentre s
  | .overlayBegin => Sys2Proof.Machine.execOverlayBegin s
  | .overlayElement => Sys2Proof.Machine.execOverlayElement s
  | .overlayCommit => Sys2Proof.Machine.execOverlayCommit s
  | .setPalette => Sys2Proof.Machine.execSetPalette s
  | .setZebra => Sys2Proof.Machine.execSetZebra s
  | .audioRoute => Sys2Proof.Machine.execAudioRoute s
  | .audioLimiter => Sys2Proof.Machine.execAudioLimiter s
  | .audioMeter => Sys2Proof.Machine.execAudioMeter s
  | .audioSyncReset => Sys2Proof.Machine.execAudioSyncReset s
  | .recordSetup => Sys2Proof.Machine.execRecordSetup s
  | .recStart => Sys2Proof.Machine.execRecStart s
  | .recStop => Sys2Proof.Machine.execRecStop s
  | .clipDiscard => Sys2Proof.Machine.execClipDiscard s
  | .lensCharacterReceived event => Sys2Proof.Machine.execLensCharacterReceived event s

end Sys2Proof.Machine
end

