-- ==== Sys2Proof/Safety.lean ====
section
/-! DEFINITION. What a safe state is, block by block: the promises the spec makes of the machine's state at all times. Each
is kept by every step (Certificates/Slice0/Obligations.lean states so). -/

namespace Sys2Proof.Machine

/-! ### Words the statements use -/

/-- `r` is the command that the next execution takes: no report is held and `r` is the oldest in the queue (R190). -/
def NextIs (s : State) (r : CommandRecord) : Prop := s.command.held = [] ∧ s.command.queue.head? = some r

/-- The state `t` with the completion report of `r` offered (R190, R191). -/
def completed (r : CommandRecord) (st : Status) (res : CommandResult) (t : State) : State :=
  offer (.completion st r.tag r.code res none) t

/-- When the character whose start bit is `start` ends: one byte time after it, or now if that is later (R43, log entry 2). -/
def charTime (start : Nat) (s : State) : Nat := max s.now (start + byteTime)

/-- The state after the character `c`, which started at `start` and leaves the receiver with `rx` (R43, R45, R47). -/
def afterCharacter (start : Nat) (c : LineChar) (rx : Option Assembly) (s : State) : State :=
  { s with now := charTime start s, lens := { s.lens with
    rx := rx, charStart := none, lineLow := !c.stopHigh, lineSince := charTime start s } }

/-- The character `c`, whose start bit `last` is on the line, is good and completes the frame under assembly, which started
at `start`, of type `ty` and payload `p` (R44, R45). -/
def Completes (s : State) (start : Nat) (ty : Byte) (p : List Byte) (last : Nat) (c : LineChar) : Prop :=
  ∃ len : Byte, s.lens.rx = some { start := start, bytes := ty :: len :: p } ∧ p.length = len.toNat ∧ LineCharBad c = false
    ∧ sumBytes (ty :: len :: p ++ [c.data]) = 0 ∧ s.lens.charStart = some last

/-- Every whole character that the part has sent of the frame being sent has been read back by now (3.2). -/
def AllRead (s : State) : Prop :=
  s.lens.sending.isSome = true → (s.now - s.lens.sentAt) / byteTime ≤ s.lens.readBack

/-- `t` is what a frame mark makes of `s`: a substitute mark at the timer's expiry, or the mark of a capture start (R29). The
acceptance of the sensor write that a capture start comes with does the rest (CaptureStartRecorded). -/
def MarkMade (s t : State) : Prop :=
  exec .frameMarkTimerExpiry s = .next t ∨ ∃ g b, captureStart g b s = t

/-- A frame mark finds no cycle to settle: no reply window is open, no DEMAND waits and no live DEMAND is being sent (R56). -/
def NoCycleOpen (s : State) : Prop :=
  s.lens.window = none ∧ (∀ f, s.lens.waiting = some f → isDemand f = false)
    ∧ ∀ f, s.lens.sending = some f → isDemand f = true → f.live = false

/-- The bytes are `size` in number and hold these fields, each given by its first byte, its width in bytes and its value,
little-endian, two's complement for a negative value and all ones for −1; every byte that no field names is 0 (11, R208). -/
def LaidOut (bytes : List Byte) (size : Nat) (fields : List (Nat × Nat × Int)) : Prop :=
  bytes.length = size ∧ (∀ f ∈ fields, (field bytes f.1 f.2.1 : Int) = f.2.2 % 256 ^ f.2.1)
    ∧ ∀ k, k < size → (∀ f ∈ fields, k < f.1 ∨ f.1 + f.2.1 ≤ k) → bytes.getD k 0 = 0

/-! ### Attention (R203) -/

/-- ATTN is asserted exactly while some kind is pending with its mask no and no quiet interval runs (R203). -/
def AttnInv (s : State) : Prop := s.report.attn = attnCondition s.report

/-! ### Queues (R1, R14, R15, R189, R196, R199) -/

/-- Report writes stand ahead of metadata writes (R15). -/
def reportsFirst : List InjectedWrite → Bool
  | [] => true
  | w :: rest => if w.kind = .metadata then rest.all (fun v => v.kind == .metadata) else reportsFirst rest

/-- The slots listed stand in rising order, each once: the canonical form of the report ring (R194). -/
def slotsSorted (slots : List (Nat × SlotState)) : Prop := (slots.map Prod.fst).Pairwise (· < ·)

/-- How many beats the read at the memory-side port asks for; 0 where the port carries none. -/
def readAtMemory (s : State) : Nat :=
  match s.path.atMemory with
  | some (.pass b) => match b.body with
    | .read len _ => len
    | .write _ => 0
  | _ => 0

/-- Every queue is within its length and in its order; the part's own writes carry tag 15 (R7); a drop report or a held report
waits only for a full report queue (R197); of the read at the memory-side port fewer beats have come back than it asked for
(R8, R16). -/
def QueueInv (s : State) : Prop :=
  s.path.passQueue.length ≤ 16 ∧ s.path.injected.length ≤ 8 ∧ reportsFirst s.path.injected = true ∧ s.path.arbiterCount ≤ 4
    ∧ s.report.queue.length ≤ 16 ∧ s.command.queue.length ≤ 8 ∧ s.report.events.length = 25 ∧ slotsSorted s.report.slots
    ∧ (∀ w ∈ s.path.injected, w.tag = 15) ∧ (∀ w, s.path.atMemory = some (.injected w) → w.tag = 15)
    ∧ (s.report.drop.isSome = true ∨ s.command.held ≠ [] → s.report.queue.length = 16)
    ∧ (s.path.beatsBack = [] ∨ s.path.beatsBack.length < readAtMemory s)

/-! ### The frame history (R27) and timecode (R35, R36) -/

/-- Capture sequences are consecutive modulo 65,536 from oldest to newest, and the next one follows the newest (R27). -/
def consecutive (next : Half) : List CaptureRecord → Bool
  | [] => true
  | [r] => r.seq + 1 == next
  | r :: q :: rest => r.seq + 1 == q.seq && consecutive next (q :: rest)

/-- The frame history holds 0 to 16 records with consecutive sequences, at most one of them FILLING (R27). -/
def HistoryInv (s : State) : Prop :=
  s.frame.history.length ≤ 16 ∧ consecutive s.frame.nextSeq s.frame.history = true
    ∧ (s.frame.history.filter fun r => r.state == .filling).length ≤ 1

/-- A timecode value of the configured rate: every field in range, and no dropped label (R35, R36). -/
def Timecode.valid (rate : FrameRate) (drop : Bool) (t : Timecode) : Prop :=
  t.hours ≤ 23 ∧ t.minutes ≤ 59 ∧ t.seconds ≤ 59 ∧ t.frames < rate.framesPerSecond ∧ t.isDropped rate drop = false

/-- Drop-frame is on at 29.97 and 59.94 alone, and both counters name a label of the rate (R35, R36). -/
def TimecodeInv (s : State) : Prop :=
  (s.frame.dropFrame = true → s.frame.rate.allowsDrop = true)
    ∧ s.frame.timecode.valid s.frame.rate s.frame.dropFrame ∧ s.record.timecode.valid s.frame.rate s.frame.dropFrame

/-! ### The lens link (R49, R50, R53, R55) -/

/-- A live frame of the transmitter is a DEMAND while the link is up, and an IDENTIFY REQUEST otherwise (R47, R50). -/
def frameFits (link : LinkState) (f : TxFrame) : Prop := isDemand f = link.up

/-- The transmitter, the reply window and the miss count fit the link state: no DEMAND waits outside ONLINE and DEGRADED, no
IDENTIFY REQUEST in them, no window is open outside them, nothing waits or is sent in ABSENT, and the miss count is 1 to 7
in DEGRADED and 0 otherwise (R47, R49, R50, R55, R59). While a reply window is open no DEMAND waits and no live DEMAND is
being sent, and while a live DEMAND is being sent no DEMAND waits: a cycle has one DEMAND, and a mark settles the cycle before
it opens one (R53, R54, R56). A character of the lens's, or a line that has not returned high, keeps a frame waiting, and no
start bit is seen on a low line (R43, R47). -/
def LensInv (s : State) : Prop :=
  (∀ f, s.lens.waiting = some f → frameFits s.lens.link f)
    ∧ (∀ f, s.lens.sending = some f → f.live = true → frameFits s.lens.link f)
    ∧ (s.lens.link.up = false → s.lens.window = none)
    ∧ (s.lens.link = .absent → s.lens.waiting = none ∧ s.lens.sending = none)
    ∧ (if s.lens.link = .degraded then 1 ≤ s.lens.miss ∧ s.lens.miss ≤ 7 else s.lens.miss = 0)
    ∧ (s.lens.window.isSome = true → (∀ f, s.lens.waiting = some f → isDemand f = false)
        ∧ ∀ f, s.lens.sending = some f → isDemand f = true → f.live = false)
    ∧ (∀ f g, s.lens.sending = some f → isDemand f = true → f.live = true → s.lens.waiting = some g → isDemand g = false)
    ∧ (s.lens.sending.isSome = true → s.lens.charStart = none ∧ s.lens.lineLow = false)
    ∧ (s.lens.lineLow = true → s.lens.charStart = none)

/-! ### Axes and engines (R64, R65, R73) -/

/-- An engine is the source of at most one axis, ROCKER drives ZOOM alone and WHEEL drives FOCUS alone (R64, R65). -/
def AxisInv (s : State) : Prop :=
  (∀ id, s.axis.zoom.source = .engine id → s.axis.focus.source ≠ .engine id ∧ s.axis.iris.source ≠ .engine id)
    ∧ (∀ id, s.axis.focus.source = .engine id → s.axis.iris.source ≠ .engine id)
    ∧ sourceFits .zoom s.axis.zoom.source = true ∧ sourceFits .focus s.axis.focus.source = true
    ∧ sourceFits .iris s.axis.iris.source = true

/-- A running engine is in the state of its move in progress, an IDLE engine has none, and a queue holds at most 16 moves
(R73, R74, R75). -/
def Engine.wf (g : Engine) : Prop :=
  (g.state.running = true → g.move.map InProgress.state = some g.state) ∧ (g.state = .idle → g.move = none)
    ∧ g.queue.length ≤ 16

/-- The three engines. -/
def EngineInv (s : State) : Prop := s.engines.e1.wf ∧ s.engines.e2.wf ∧ s.engines.e3.wf

/-! ### The stabiliser (R92, R94) -/

/-- Both accumulators lie within ±16,777,215 (R92), and a bias capture runs only while the port is RUNNING and both axes are
STEADY, with fewer than 256 samples collected (R93, R94). -/
def StabInv (s : State) : Prop :=
  (-accMax ≤ s.stab.x.acc ∧ s.stab.x.acc ≤ accMax) ∧ (-accMax ≤ s.stab.y.acc ∧ s.stab.y.acc ≤ accMax)
    ∧ (∀ c, s.stab.capture = some c →
        s.gyro.state = .running ∧ s.stab.x.pan = .steady ∧ s.stab.y.pan = .steady ∧ c.count < 256)

/-! ### The overlay unit (R117, R118) -/

/-- How many slots are in a state. -/
def Overlay.countIn (st : OverlayState) (o : Overlay) : Nat := (o.slots.filter fun x => x.state == st).length

/-- One slot is SHOWN, one is EDIT, the third PENDING or FREE; a list holds at most 32 elements (R118); the hold counters
are at most 50 (R117). -/
def OverlayInv (s : State) : Prop :=
  s.overlay.countIn .shown = 1 ∧ s.overlay.countIn .edit = 1
    ∧ (∀ x ∈ s.overlay.slots, x.list.length ≤ 32)
    ∧ s.overlay.overrunHold ≤ 50 ∧ s.overlay.clipHold ≤ 50

/-! ### The audio unit (R137, R140 to R142, R146) -/

/-- The limiter gain is 0 to 16,384, and 16,384 while the limiter is off (R137); the period peak is within full scale
(R140); the displayed segment is at most the held one, which is at most 32 (R141, R142). -/
def AudioOutput.wf (o : AudioOutput) : Prop :=
  o.r ≤ 16384 ∧ (o.route.limiter = false → o.r = 16384) ∧ o.peak ≤ 8388607 ∧ o.displayed ≤ o.held ∧ o.held ≤ 32

/-- The four outputs, the cadence phase 0 to 4 and the drift's range (R145, R146). -/
def AudioInv (s : State) : Prop :=
  s.audio.outputs.c1.wf ∧ s.audio.outputs.c2.wf ∧ s.audio.outputs.c3.wf ∧ s.audio.outputs.c4.wf
    ∧ s.audio.phase ≤ 4 ∧ -32768 ≤ s.audio.drift ∧ s.audio.drift ≤ 32767

/-! ### The record tracker (R157, R159, R160, R167) -/

/-- A later clip may follow an earlier one in the clip list: a CLOSED clip may stand before any, a CLOSING clip before an
ARMED one that is chained behind it (R160, R161). -/
def clipBefore (a b : Clip) : Bool :=
  match a.state, b.state with
  | .closed, .armed => true
  | .closed, .opened => true
  | .closed, .closing => true
  | .closed, .closed => true
  | .closing, .armed => a.stopSeq.isSome && b.chainSeq == a.stopSeq
  | _, _ => false

/-- A clip of the list is ARMED without a start, or OPEN, CLOSING or CLOSED with one (R160); a CLOSING clip has its stop
sequence (R164). -/
def Clip.wf (c : Clip) : Bool :=
  match c.state with
  | .armed => c.start.isNone
  | .opened => c.start.isSome
  | .closing => c.start.isSome && c.stopSeq.isSome
  | .closed => c.start.isSome
  | _ => false

/-- The clip list holds at most 4 clips in the order of R160, so that at most one is ARMED or OPEN and at most one CLOSING;
D is defined exactly while a clip has a start offset, and G is 0 while D is absent (R159, R167); the frame index holds at
most 256 entries (R157). -/
def RecordInv (s : State) : Prop :=
  s.record.clips.length ≤ 4 ∧ s.record.clips.all Clip.wf = true ∧ s.record.clips.Pairwise (fun a b => clipBefore a b = true)
    ∧ (s.record.drain.isSome = true ↔ ∃ c ∈ s.record.clips, c.start.isSome = true)
    ∧ (s.record.drain = none → s.record.guarded = 0) ∧ s.record.index.length ≤ 256

/-! ### The window table (R3, R17, R18) and the crop (R33) -/

/-- Entry 0's record: an enabled COMMAND window (R17, R18). -/
def commandEntry (w : WindowRecord) : Bool := w.role == .command && w.enabled && placeOk w.base w.sizeExp

/-- A ring setup within the ranges of R151. -/
def RingSetup.wf (r : RingSetup) : Bool :=
  decide (1 ≤ r.drainLevel ∧ r.drainLevel < r.highWater ∧ r.highWater ≤ 63 ∧ r.preRoll ≤ 240)

/-- A record of the table: its place, its sets, none empty or naming tag 15 or sharing a tag with another, and its role
parameters pass the checks of R18, R22 and R151. -/
def WindowRecord.wf (w : WindowRecord) : Bool :=
  placeOk w.base w.sizeExp && w.sets.length == w.role.setCount && (w.sets.all fun m => m != 0 && !m.getLsbD 15)
    && !masksShare w.sets
    && match w.role, w.params with
      | .frame, .frame g => g.ok w.size
      | .frame, _ => false
      | .record, .record r => decide (w.size ≥ 1048576) && r.wf
      | .record, _ => false
      | .audio, .audio _ => true
      | .audio, _ => false
      | _, p => p == .absent

/-- The window a held completion moves to, if it moves the command window (R20). -/
def Report.moves : Report → Option WindowRecord
  | .completion _ _ _ _ m => m
  | _ => none

/-- A record that may replace entry 0 (R18, R20). -/
def movable (m : Option WindowRecord) : Bool :=
  match m with
  | some w => commandEntry w && w.wf
  | none => true

/-- The window table has 16 entries, entry 0 an enabled COMMAND window, every record passing R18's checks, and no role but
PASS held twice; what a held completion moves entry 0 to is such a record too (R3, R17, R18, R20). -/
def TableInv (s : State) : Prop :=
  s.path.windows.length = 16
    ∧ (∃ w, s.entry 0 = some w ∧ commandEntry w = true)
    ∧ (∀ i w, s.entry i = some w → w.wf = true)
    ∧ (∀ i j w v, s.entry i = some w → s.entry j = some v → w.role = v.role → w.role ≠ .pass → i = j)
    ∧ ∀ r ∈ s.command.held, movable r.moves = true

/-- A capture record's correction lies within the margins, dx a multiple of 4 (R33, R102). -/
def CaptureRecord.fits (g : Geometry) (r : CaptureRecord) : Prop :=
  r.dx.natAbs ≤ g.marginX ∧ r.dy.natAbs ≤ g.marginY ∧ (4 : Int) ∣ r.dx

/-- Every record of the history lies within the margins of the geometry in use, so that a remapped read never leaves the
buffer it addressed (R33). -/
def CropInv (s : State) : Prop := TableInv s ∧ ∀ base g, s.geometry = some (base, g) → ∀ r ∈ s.frame.history, r.fits g

end Sys2Proof.Machine
end

