-- ==== Sys2Proof/Certificates/Slice0/Obligations.lean ====
section
/-! DEFINITION. The statements about the part: what each step does, and what every step keeps. Every statement holds for every
state that meets its premises, reached or not. The queue of steps, the clock and the idle step are the model's own (log
entries 2 and 4). -/

open Sys2Proof Sys2Proof.Machine

/-- For every command c and every state whose queue of waiting steps begins with c, one step is exec of c on the state with
the rest of the queue. The queue is the model's own (log entry 4). (00_scope) -/
def Obligations.StepTakesFront : Prop :=
    ∀ (s : State) (c : Instr) (rest : List Instr), s.pending = c :: rest →
      step s = exec c { s with pending := rest }

/-- With no step waiting, one step moves the model's own clock by one REFCLK count, 8 of its units, and changes nothing
else. Whatever the command, a next state of exec has the same queue of waiting steps: the queue is the model's own and no
rule of the spec reads or writes it. Both are the model's choice (log entries 2 and 4). (00_scope) -/
def Obligations.IdleStepAndQueueKept : Prop :=
    (∀ s : State, s.pending = [] → step s = .next { s with now := s.now + 8 })
      ∧ ∀ (c : Instr) (s t : State), exec c s = .next t → t.pending = s.pending

/-- Rounding is to the nearest, halves away from zero, and truncation toward zero (3.3). A field of n bytes is little-endian
and a signed one two's complement; the fields of a command record count from byte 4 on; the sum of a frame is modulo 256. A
sequence is later than another at a forward distance of 1 to 32,767. A character is bad when its parity is even or its stop
bit low; 11 bit times of 234.375 counts make a byte time, in eighths of a count. A burst is aligned to 8 bytes and has 1 to
16 beats. A window of exponent e holds the 2^e bytes from its base on; the base is a multiple of that size and e 12 to 30;
the window of a role is the enabled entry of lowest index that holds it, and the geometry and the ring in use are those of
the FRAME and RECORD windows. A forwarded burst joins the pass-through queue and owes a response; an answer becomes that of
the response with its number. An engine, axis or output set reads so, and every other as before; so does a slot of the
report ring. The first report can leave when there is a REPORT window, a next slot that is FREE and a place among the
injected writes. An executed command leaves the queue. An occurrence sets its kind pending, advances its count modulo 256,
evaluates ATTN, and offers an event report with that count and its payload (ReportPlaces says what the offer does). The
payload of RECORD_STATE is the clip's own. (R1, R3, R9, R16, R43, R44, R159, R194, R196, R199, R203, R207) -/
def Obligations.SharedOperations : Prop :=
    (∀ (a : Int) (b : Nat), 0 < b →
      (2 * (a - b * roundDiv a b).natAbs ≤ b
        ∧ (2 * (a - b * roundDiv a b).natAbs = b → a.natAbs ≤ b * (roundDiv a b).natAbs))
      ∧ truncDiv a b = Int.tdiv a b)
    ∧ (∀ (bytes : List Byte) (k n : Nat),
      field bytes k n = ((List.range n).map fun i => (bytes.getD (k + i) 0).toNat * 256 ^ i).sum)
    ∧ (∀ n v i : Nat, (leNat n v).length = n ∧ (i < n → ((leNat n v).getD i 0).toNat = v / 256 ^ i % 256))
    ∧ (∀ (n : Nat) (v : Int), leInt n v = leNat n (v % ((256 ^ n : Nat) : Int)).toNat)
    ∧ (∀ v : Nat, signed 16 v = (if v < 32768 then (v : Int) else (v : Int) - 65536)
      ∧ signed 24 v = (if v < 8388608 then (v : Int) else (v : Int) - 16777216) ∧ (byteOf v).toNat = v % 256)
    ∧ (∀ (r : CommandRecord) (k n : Nat), 4 ≤ k →
      r.byte k = (r.params.getD (k - 4) 0).toNat ∧ r.half k = r.byte k + 256 * r.byte (k + 1)
        ∧ r.word k = r.half k + 65536 * r.half (k + 2) ∧ r.signedHalf k = signed 16 (r.half k)
        ∧ r.bytes k n = (r.params.drop (k - 4)).take n)
    ∧ (∀ bytes : List Byte, (sumBytes bytes).toNat = (bytes.map fun b => b.toNat).sum % 256)
    ∧ (∀ a b : Half, laterThan a b = true ↔ 1 ≤ (a - b).toNat ∧ (a - b).toNat ≤ 32767)
    ∧ (∀ c : LineChar, LineCharBad c = true ↔ c.stopHigh = false
      ∨ (((List.range 8).filter fun i => c.data.getLsbD i).length + if c.parity then 1 else 0) % 2 = 0)
    ∧ byteTime = 20625 ∧ byteTime * 115200 = 8 * 27000000 * 11
    ∧ (∀ (w : WindowRecord) (a : Nat), w.size = 2 ^ w.sizeExp ∧ (w.holds a = true ↔ w.base ≤ a ∧ a < w.base + 2 ^ w.sizeExp))
    ∧ (∀ base e : Nat, placeOk base e = true ↔ 12 ≤ e ∧ e ≤ 30 ∧ 2 ^ e ∣ base)
    ∧ (∀ (entry : Option WindowRecord), holdsRecord entry = true ↔ ∃ w, entry = some w ∧ w.role = .record)
    ∧ (∀ b : WriteBurst, b.wellFormed = true ↔ 8 ∣ b.addr.toNat ∧ 1 ≤ b.beats.length ∧ b.beats.length ≤ 16)
    ∧ (∀ b : ReadBurst, b.wellFormed = true ↔ 8 ∣ b.addr.toNat ∧ 1 ≤ b.len ∧ b.len ≤ 16)
    ∧ (∀ bytes : List Byte, beatOfBytes bytes = BitVec.ofNat 64 (field bytes 0 8))
    ∧ (∀ (k : EventKind) (count : Byte) (p : EventPayload) (sw : Bool), let rep : Report := .event k count p sw
      rep.recordKind = .event ∧ (rep.isMemoryFault = true ↔ k = .memoryFault))
    ∧ (∀ (m : MoveEngines) (i j : EngineId) (g : Engine), (m.set i g).get j = (if j = i then g else m.get j)
      ∧ m = ⟨m.get .e1, m.get .e2, m.get .e3⟩)
    ∧ (∀ (c : AxisController) (a d : Axis) (x : AxisRecord), (c.set a x).get d = (if d = a then x else c.get d)
      ∧ c.set a x = { c with zoom := (c.set a x).get .zoom, focus := (c.set a x).get .focus, iris := (c.set a x).get .iris }
      ∧ c.get .zoom = c.zoom ∧ c.get .focus = c.focus ∧ c.get .iris = c.iris)
    ∧ (∀ (o : PerChannel AudioOutput) (i j : Channel) (x : AudioOutput), (o.set i x).get j = (if j = i then x else o.get j)
      ∧ o = ⟨o.get .c1, o.get .c2, o.get .c3, o.get .c4⟩)
    ∧ (∀ link : LinkState, link.up = true ↔ link = .online ∨ link = .degraded)
    ∧ (∀ (c : Clip) (st : ClipState), clipEvent c st = .recordState c.number st c.start c.stop c.stamped c.dropped)
    ∧ (∀ (slots : List (Nat × SlotState)) (j k : Nat) (st : SlotState), slotsSorted slots → slotsSorted (setSlot slots k st)
      ∧ slotState (setSlot slots k st) j = if j = k then some st else slotState slots j)
    ∧ ∀ s : State,
      (∀ i w, s.entry i = some w ↔ s.path.windows[i]? = some (some w))
      ∧ (∀ role i w, roleWindow role s.path.windows 0 = some (i, w) ↔ s.entry i = some w ∧ w.enabled = true ∧ w.role = role
        ∧ ∀ j v, j < i → s.entry j = some v → v.enabled = true → v.role ≠ role)
      ∧ (∀ role w, s.window role = some w ↔ ∃ i, roleWindow role s.path.windows 0 = some (i, w))
      ∧ (∀ base g, s.geometry = some (base, g) ↔ ∃ w, s.window .frame = some w ∧ w.params = .frame g ∧ base = w.base)
      ∧ s.ringSize = (s.ring.map fun x => x.1).getD 0
      ∧ (∀ size setup, s.ring = some (size, setup) ↔
        ∃ w, s.window .record = some w ∧ w.params = .record setup ∧ size = w.size)
      ∧ (∀ (tag : BitVec 4) (issued addr : Nat) (body : PassBody), forwardBurst tag issued addr body s = { s with
        path := { s.path with
          passQueue := s.path.passQueue ++ [{ id := s.path.nextId, tag := tag, issued := issued, addr := addr, body := body }]
          responses := s.path.responses ++ [{ id := s.path.nextId, tag := tag, answer := none }]
          nextId := s.path.nextId + 1 } })
      ∧ (∀ (b : WriteBurst) (beats : List Beat),
        forwardWrite b beats s = forwardBurst b.tag b.addr.toNat b.addr.toNat (.write beats) s)
      ∧ answered s = { s with path := { s.path with atMemory := none, beatsBack := [] } }
      ∧ (∀ (id : Nat) (a : Answer), finishResponse id a s = { s with path := { s.path with
        responses := s.path.responses.map fun r => if r.id = id then { r with answer := some a } else r } })
      ∧ (reportCanLeave s = true ↔ (s.window .report).isSome = true ∧ s.report.queue ≠ []
        ∧ slotState s.report.slots s.report.nextSlot = none ∧ s.path.injected.length < 8)
      ∧ popCommand s = { s with command := { s.command with queue := s.command.queue.drop 1 } }
      ∧ (∀ k : EventKind, eventEntry s k = s.report.events.getD (k.number - 1) ⟨false, true, 0⟩)
      ∧ (∀ p : EventPayload,
        let events := s.report.events.modify (p.kind.number - 1) fun e => { e with pending := true, count := e.count + 1 }
        raiseEvent p s = offer (.event p.kind (events.getD (p.kind.number - 1) ⟨false, true, 0⟩).count p false)
          { s with report := { s.report with
            events := events, attn := (events.any fun e => e.pending && !e.masked) && s.report.quietEnd.isNone } })
      ∧ ∀ st, s.overlay.listIn st = (([s.overlay.s0, s.overlay.s1, s.overlay.s2].find? fun x => x.state == st).map
        fun x => x.list).getD []

/-- No DEMAND waits outside ONLINE and DEGRADED, no IDENTIFY REQUEST in them, no reply window is open outside them, nothing
waits or is sent in ABSENT, and the miss count is 1 to 7 in DEGRADED and 0 otherwise. While a reply window is open no DEMAND
waits and no live DEMAND is being sent, and while a live DEMAND is being sent no DEMAND waits: a cycle has one DEMAND. Every
step keeps this. (R47, R49, R50, R53, R54, R55, R56, R59) -/
def Obligations.StepKeepsLens : Prop :=
    ∀ s t : State, LensInv s → step s = .next t → LensInv t

/-- No engine is the source of two axes, ROCKER is the source of ZOOM alone and WHEEL of FOCUS alone; every engine that is
RAMPING, DWELLING or WAITING has a move in progress of that kind, an IDLE engine has none, and no engine queues more than 16
moves. Both accumulators lie within plus or minus 16,777,215, and while a bias capture is in progress the port is RUNNING,
both axes are STEADY and fewer than 256 samples are collected. Every step keeps each of the three invariants. (R64, R65,
R73, R74, R75, R92, R93, R94) -/
def Obligations.StepKeepsStabAndDrives : Prop :=
    ∀ s t : State, step s = .next t →
      (AxisInv s → AxisInv t) ∧ (EngineInv s → EngineInv t) ∧ (StabInv s → StabInv t)

/-- The clip list holds at most 4 clips, at most one ARMED or OPEN and at most one CLOSING, a CLOSING or CLOSED clip older
than any ARMED or OPEN one; D is defined exactly while a clip has a start offset, G is 0 while D is absent, and the frame
index holds at most 256 entries; every step keeps this. With a well-formed window table besides, G is at most the ring size
(0 with no RECORD window); every step keeps all three. (R157, R159, R160, R167) -/
def Obligations.StepKeepsRecord : Prop :=
    ∀ s t : State, step s = .next t →
      (RecordInv s → RecordInv t)
        ∧ (TableInv s ∧ RecordInv s ∧ s.record.guarded ≤ s.ringSize → TableInv t ∧ t.record.guarded ≤ t.ringSize)

/-- The table has 16 entries, entry 0 holds an enabled COMMAND window, every record has a placed base and size, as many
initiator sets as its role requires, none empty, none naming tag 15, which is what R1 rests on, and no two sharing a tag,
and parameters that its role accepts: a FRAME geometry that passes R22, a ring of at least 1 MiB with a setup in R151's
ranges, a flag byte mode for AUDIO, and none for the others; and no role but PASS is held twice. Every step keeps this, the
move of the command window included. With such a table, every record of the frame history has dx a multiple of 4 of a size
of at most Mx and dy of a size of at most My, for the margins of the FRAME window in force; every step keeps that too. The
frame history holds 0 to 16 capture records of consecutive sequences modulo 65,536, followed by the next capture sequence,
with at most one FILLING; drop-frame is on at 29.97 and 59.94 alone and both timecode counters name an undropped label of
the configured rate (FrameTrackerCommands spells the counting); every step keeps each of these. (R1, R3, R17, R18, R21, R22,
R27, R33, R35, R36, R102, R151) -/
def Obligations.StepKeepsTableAndFrames : Prop :=
    ∀ s t : State, step s = .next t →
      (TableInv s → TableInv t) ∧ (CropInv s → CropInv t) ∧ (HistoryInv s → HistoryInv t) ∧ (TimecodeInv s → TimecodeInv t)

/-- ATTN is asserted exactly while some kind is pending with its mask no and no quiet interval runs. The pass-through queue
holds at most 16 bursts, the injected-write queue at most 8 with report writes ahead of metadata writes, every write of the
part's own carries tag 15, the arbiter's count stays at 0 to 4, the report queue holds at most 16 reports, the command queue
at most 8 records, the event table 25 entries, the slots of the report ring keep their canonical form, and a drop report or
a held report waits only while the report queue is full: the place that a departure opens is given at once. Every step keeps
each of the two invariants. That the place is given within the departure is the model's reading of R196 and R197 (log entry
20). (R1, R7, R14, R15, R189, R196, R197, R203) -/
def Obligations.StepKeepsReports : Prop :=
    ∀ s t : State, step s = .next t → (AttnInv s → AttnInv t) ∧ (QueueInv s → QueueInv t)

/-- Of the three overlay slots exactly one is SHOWN and one EDIT, every list holds at most 32 elements, and both hold
counters are at most 50. Every limiter gain is 0 to 16,384 and is 16,384 while its limiter is off, every period peak is
within full scale, every displayed segment is at most the held one and that at most 32, the cadence phase is 0 to 4 and the
drift within 16 bits. Every step keeps each of the two invariants. (R117, R118, R137, R140, R142, R145, R146) -/
def Obligations.StepKeepsPictureAndSound : Prop :=
    ∀ s t : State, step s = .next t → (OverlayInv s → OverlayInv t) ∧ (AudioInv s → AudioInv t)

/-- After a pin reset with any straps, and so at the model's reset state, all the invariants stated here hold. (R17, R41,
R62, R84, R106, R129, R149, R176, R205) -/
def Obligations.PinResetMeetsInvariants : Prop :=
    ∀ (cws : BitVec 3) (lensEn : Bool),
      let s := State.atPinReset cws lensEn
      AttnInv s ∧ QueueInv s ∧ HistoryInv s ∧ TimecodeInv s ∧ LensInv s ∧ AxisInv s ∧ EngineInv s ∧ StabInv s ∧ OverlayInv s
        ∧ AudioInv s ∧ RecordInv s ∧ CropInv s ∧ s.record.guarded ≤ s.ringSize

/-- PIN_RESET answers a next state: the window table filled from the straps, the path unit otherwise empty, waiting requests
included, which is the model's choice (log entry 33), and every block at the values of its reset rule. The live snapshot
holds the default palette, zebra OFF, count 0 and no condition but ALWAYS; R129 does not state its other items, which hold
what the blocks' own reset values give (log entry 5). The model's own queue of steps is kept (log entry 4). (R17, R41, R62,
R84, R106, R126, R129, R149, R176, R186, R205) -/
def Obligations.PinResetState : Prop :=
    ∀ (cws : BitVec 3) (lensEn : Bool) (s : State), ∃ t, exec (.pinReset cws lensEn) s = .next t
      ∧ t.path.windows = some {
        role := .command, base := 0x3FF00000 + cws.toNat * 0x10000, sizeExp := 16, enabled := true,
        sets := [0x7FFF], params := .absent } :: List.replicate 15 none
      ∧ t.path.passQueue = [] ∧ t.path.injected = [] ∧ t.path.arbiterCount = 0 ∧ t.path.waiting = []
      ∧ t.path.atMemory = none ∧ t.path.beatsBack = [] ∧ t.path.responses = []
      ∧ t.straps = { cws := cws, lensEn := lensEn } ∧ t.pending = s.pending
      ∧ t.command.queue = [] ∧ t.command.held = [] ∧ t.report.queue = [] ∧ t.report.drop = none ∧ t.report.lost = false
      ∧ t.report.attn = false ∧ t.report.quietEnd = none
      ∧ t.report.events = List.replicate 25 { pending := false, masked := true, count := 0 }
      ∧ t.frame.history = [] ∧ t.frame.nextSeq = 0 ∧ t.frame.tracker = .freeWheel ∧ t.frame.rate = .r25
      ∧ t.frame.expiry = t.now + 8 * 1080000 ∧ t.frame.timecode = ⟨0, 0, 0, 0⟩ ∧ t.frame.dropFrame = false
      ∧ t.frame.mode = .freeRun
      ∧ t.lens.enable = lensEn ∧ t.lens.link = (if lensEn then .seeking else .absent) ∧ t.lens.focal = 0 ∧ t.lens.miss = 0
      ∧ t.lens.identity = none ∧ t.lens.provisional = none ∧ t.lens.position = none ∧ t.lens.waiting = none
      ∧ t.lens.sending = none ∧ t.lens.window = none ∧ t.lens.seek = (if lensEn then some t.now else none)
      ∧ t.axis = {
        zoom := ⟨.rocker, 0, 0⟩, focus := ⟨.wheel, 0, 0⟩, iris := ⟨.hold, 0, 0⟩, deadband := 8, vmax := 1024,
        trim := 256, zoomTakeover := true, focusTakeover := true, wheelThreshold := 256, wheelRef := none }
      ∧ (∀ id, t.engines.get id = { queue := [], mode := .run, state := .idle, move := none, output := 0, received := 0 })
      ∧ t.gyro.state = .unconfigured ∧ t.gyro.timer = none ∧ t.gyro.transaction = false ∧ t.gyro.last = none
      ∧ t.gyro.badRun = 0 ∧ t.gyro.goodRun = 0
      ∧ t.gyro.setup = {
        clockKHz := 1000, polarity := .idleLow, phase := .leading, sampleRate := 1000, command := 0
        validMask := 0, validValue := 0 }
      ∧ t.stab.mode = .off ∧ t.stab.pixelPitch = 5000 ∧ t.stab.optical = false ∧ t.stab.limited = false
      ∧ t.stab.capture = none ∧ t.stab.x = t.stab.y ∧ t.stab.x.acc = 0 ∧ t.stab.x.bias = 0
      ∧ t.stab.x.pan = .steady ∧ t.stab.x.panRun = 0 ∧ t.stab.x.corr16 = 0 ∧ t.stab.x.o16 = 0 ∧ t.stab.x.a16 = 0
      ∧ t.stab.x.e16 = 0
      ∧ t.stab.x.settings = {
        gain := 1, negative := false, leakSteady := 64, leakPan := 1024, panThreshold := 2000
        panEnter := 50, panExit := 100 }
      ∧ t.overlay.s0 = ⟨.shown, []⟩ ∧ t.overlay.s1 = ⟨.edit, []⟩ ∧ t.overlay.s2 = ⟨.free, []⟩
      ∧ t.overlay.zebra = { mode := .off, level := 230, low := 180, high := 200, luma := 16 }
      ∧ t.overlay.frameCount = 0 ∧ t.overlay.overrunHold = 0 ∧ t.overlay.clipHold = 0
      ∧ t.overlay.palette = [⟨235, 128, 128⟩, ⟨16, 128, 128⟩, ⟨81, 90, 240⟩, ⟨145, 54, 34⟩, ⟨210, 16, 146⟩, ⟨170, 166, 16⟩,
        ⟨126, 128, 128⟩, ⟨160, 44, 180⟩]
      ∧ t.overlay.snapshot = {
        count := 0, palette := t.overlay.palette, zebra := t.overlay.zebra
        conditions := ⟨false, false, false, false, false, false, false⟩, timecode := ⟨0, 0, 0, 0⟩, dropFrame := false
        focal := 0, lens := none, zoomMin := 0, zoomMax := 65535, focusMin := 0, focusMax := 65535, clip := none
        meters := ⟨⟨0, 0⟩, ⟨0, 0⟩, ⟨0, 0⟩, ⟨0, 0⟩⟩, ring := none }
      ∧ (∀ c, t.audio.outputs.get c = {
        route := { source := c, gain := some 0, limiter := false }, r := 16384, peak := 0,
        clip := false, displayed := 0, decay := 0, held := 0, hold := 0 })
      ∧ t.audio.threshold = 7476000 ∧ t.audio.release = 8 ∧ t.audio.decayInterval = 3 ∧ t.audio.holdTime = 50
      ∧ t.audio.tolerance = 48 ∧ t.audio.cadence = .waiting ∧ t.audio.count = 0 ∧ t.audio.phase = 0 ∧ t.audio.drift = 0
      ∧ t.audio.driftFlag = false
      ∧ t.record = {
        writeEnd := none, drain := none, guarded := 0, level := .low, index := [], clips := [], nextClip := 1,
        episode := none, timecode := ⟨0, 0, 0, 0⟩ }
      ∧ t.metadata = { cursor := 0, mark := 0, waiting := none }

/-- The deciding window of an address is the enabled window of lowest index that holds it. A burst whose deciding window is
absent, or has no initiator set with its tag, belongs to no window. One that reaches past the end of the deciding window
whose set it is in straddles it. A write belongs to a window without its owner acting on it under the encoder or viewfinder
set of FRAME, the card set of RECORD or the reader set of REPORT: at a buffer's first beat it is no capture start, and the
record tracker keeps all it holds. With a place in the pass-through queue and no request waiting, all three join the queue
at its end with the address and the beats as issued and have one response owed; a straddling one raises WINDOW_STRADDLE with
the window's index, the tag and the address first. Nothing else changes. With the queue full each of these writes waits, and
neither WINDOW_STRADDLE nor anything else happens until its acceptance. (R1, R2, R4, R5, R6) -/
def Obligations.ForeignBurstForwarded : Prop :=
    (∀ (s : State) (a i : Nat) (w : WindowRecord), decidingWindow a s.path.windows 0 = some (i, w) ↔
      (s.entry i = some w ∧ w.enabled = true ∧ w.holds a = true
        ∧ ∀ j v, j < i → s.entry j = some v → v.enabled = true → v.holds a = false))
    ∧ ∀ (s : State) (b : WriteBurst) (q : ReadBurst), s.path.waiting = [] →
      let joins := fun (tag : BitVec 4) (addr : Nat) (body : PassBody) (t : State) => { t with path := { t.path with
        passQueue := t.path.passQueue ++ [{ id := t.path.nextId, tag := tag, issued := addr, addr := addr, body := body }]
        responses := t.path.responses ++ [{ id := t.path.nextId, tag := tag, answer := none }]
        nextId := t.path.nextId + 1 } }
      let straddle := fun (i : Nat) (tag : BitVec 4) (addr : Nat) => raiseEvent (.windowStraddle i tag addr) s
      (∀ (a len : Nat) (tag : BitVec 4),
        (decidingWindow a s.path.windows 0 = none → classify s a len tag = .unmatched)
        ∧ ∀ i w, decidingWindow a s.path.windows 0 = some (i, w) →
          (((w.role = .metadata ∨ w.role = .pass ∨ ∀ m ∈ w.sets, m.getLsbD tag.toNat = false) →
              classify s a len tag = .unmatched)
            ∧ (∀ before m behind, w.role ≠ .metadata → w.role ≠ .pass → w.sets = before ++ m :: behind →
              (∀ x ∈ before, x.getLsbD tag.toNat = false) → m.getLsbD tag.toNat = true →
              classify s a len tag = if w.base + w.size < a + 8 * len then .straddles i
                else .belongs { window := w, setIndex := before.length })))
        ∧ (b.wellFormed = true →
          let verdict := classify s b.addr.toNat b.beats.length b.tag
          let accepted := fun t : State =>
            (s.path.passQueue.length < 16 →
              exec (.upstreamWriteAccepted b) s = .next (joins b.tag b.addr.toNat (.write b.beats) t))
            ∧ (16 ≤ s.path.passQueue.length →
              exec (.upstreamWriteAccepted b) s = .next { s with path := { s.path with waiting := [.write b] } })
          (verdict = .unmatched → accepted s)
          ∧ (∀ i, verdict = .straddles i → accepted (straddle i b.tag b.addr.toNat))
          ∧ (∀ c, verdict = .belongs c → ((c.window.role = .frame ∧ c.setIndex ≠ 0)
            ∨ (c.window.role = .record ∧ c.setIndex ≠ 0) ∨ c.window.role = .report) → accepted s))
        ∧ (q.wellFormed = true → s.path.passQueue.length < 16 →
          (classify s q.addr.toNat q.len q.tag = .unmatched →
            exec (.upstreamReadAccepted q) s = .next (joins q.tag q.addr.toNat (.read q.len none) s))
          ∧ (∀ i, classify s q.addr.toNat q.len q.tag = .straddles i → exec (.upstreamReadAccepted q) s =
            .next (joins q.tag q.addr.toNat (.read q.len none) (straddle i q.tag q.addr.toNat))))

/-- With the pass-through queue full: a request made then waits behind the requests that wait already, and nothing else
happens until its acceptance: neither WINDOW_STRADDLE nor what the owner of its window does. So waits every read, and every
write that would not be held back or that follows a request of its own tag, whether it belongs to a window, straddles one or
is unmatched; only a write under the encoder set of the RECORD window is ever held back (GuardedWriteHeldBack says when).
the arbiter's issue of the oldest burst opens a place, and the oldest waiting request is accepted in that same step, here
one that takes the place, while those behind it, none of which may overtake, wait on. A write that would be held back is
accepted although the queue is full, and answered DONE without joining it, when no request of its own tag waits ahead of it,
here with reads waiting ahead. The acceptance (acceptRequest) is that of a request made with a place in the queue and none
waiting, which ForeignBurstForwarded and the acceptance statements spell. That a waiting request is accepted within the step
that opens the place is the model's reading (log entry 10). (R1, R13, R14) -/
def Obligations.WaitingRequestsAccepted : Prop :=
    ∀ s : State,
      let stays := fun (t : State) (requests : List Request) => ∀ before w behind,
        requests = before ++ .write w :: behind → wouldHoldBack w t = true → ∃ r ∈ before, r.tag = w.tag
      let waits := fun r : Request => .next { s with path := { s.path with waiting := s.path.waiting ++ [r] } }
      (∀ b : WriteBurst, wouldHoldBack b s = true → ∃ c, classify s b.addr.toNat b.beats.length b.tag = .belongs c
        ∧ c.window.role = .record ∧ c.setIndex = 0)
      ∧ (16 ≤ s.path.passQueue.length →
        (∀ b : ReadBurst, b.wellFormed = true → stays s s.path.waiting →
          exec (.upstreamReadAccepted b) s = waits (.read b))
        ∧ ∀ b : WriteBurst, b.wellFormed = true → stays s (s.path.waiting ++ [.write b]) →
          exec (.upstreamWriteAccepted b) s = waits (.write b))
      ∧ (s.path.waiting = [] → s.path.passQueue.length < 16 →
        (∀ b : WriteBurst, b.wellFormed = true → exec (.upstreamWriteAccepted b) s = .next (acceptRequest (.write b) s))
        ∧ ∀ b : ReadBurst, b.wellFormed = true → exec (.upstreamReadAccepted b) s = .next (acceptRequest (.read b) s))
      ∧ (∀ p rest r later, s.path.atMemory = none → s.path.passQueue = p :: rest → rest.length = 15 →
        (s.path.injected = [] ∨ s.path.arbiterCount < 4) → s.path.waiting = r :: later →
        let u := acceptRequest r { s with path := { s.path with
          passQueue := rest, atMemory := some (.pass p), arbiterCount := min 4 (s.path.arbiterCount + 1), waiting := later } }
        u.path.passQueue.length = 16 → stays u later →
        exec .arbiterIssue s = .next u)
      ∧ (∀ b : WriteBurst, b.wellFormed = true → 16 ≤ s.path.passQueue.length → wouldHoldBack b s = true →
        (∀ r ∈ s.path.waiting, (∃ q, r = .read q) ∧ r.tag ≠ b.tag) → ∃ t, exec (.upstreamWriteAccepted b) s = .next t
          ∧ t.path.waiting = s.path.waiting ∧ t.path.passQueue = s.path.passQueue
          ∧ t.path.responses = s.path.responses ++ [{ id := s.path.nextId, tag := b.tag, answer := some .done }])

/-- A write that belongs to the COMMAND window, of any length from 1 to 16 beats, is forwarded unaltered. One that lies
inside a position without covering it raises COMMAND_PARTIAL with the cause SPLIT and the position's address. Any other is
cut at the multiples of 32 into fewer than four beats that end a position, whole positions of four beats, and fewer than
four beats that begin one: the first and the last part, where there are beats in it, raise COMMAND_PARTIAL with the cause
SPLIT; a whole position with an enable clear raises it with the cause ENABLES; one with every enable set and code 0 is no
record; with any other code the record, its code in bytes 0 and 1, its tag in bytes 2 and 3 and its parameters in bytes 4 to
31, joins the command queue while that holds fewer than 8, the records of this burst counted in, and is otherwise lost with
COMMAND_OVERFLOW. Positions are handled in ascending address order: for the records taken R187 and R189 say so; that
COMMAND_PARTIAL is raised in the same pass is the model's choice (log entry 49). (R5, R9, R187, R188, R189) -/
def Obligations.CommandWriteTaken : Prop :=
    ∀ (b : WriteBurst) (s : State) (cls : ReadClass), b.wellFormed = true → s.path.waiting = [] →
      s.path.passQueue.length < 16 → classify s b.addr.toNat b.beats.length b.tag = .belongs cls →
      cls.window.role = .command →
      let taken := fun t => exec (.upstreamWriteAccepted b) s = .next (forwardWrite b b.beats t)
      let addr := b.addr.toNat
      let split := fun (pos : Nat) (t : State) => raiseEvent (.commandPartial pos .split) t
      let record := fun whole : List Beat =>
        let bytes := whole.flatMap fun x => leNat 8 x.data.toNat
        ({ code := BitVec.ofNat 16 (field bytes 0 2), tag := BitVec.ofNat 16 (field bytes 2 2)
           params := bytes.drop 4 } : CommandRecord)
      let position := fun (t : State) (p : List Beat × Nat) =>
        if ∃ x ∈ p.1, x.enables ≠ 255 then raiseEvent (.commandPartial p.2 .enables) t
        else if (record p.1).code = 0 then t
        else if t.command.queue.length < 8 then
          { t with command := { t.command with queue := t.command.queue ++ [record p.1] } }
        else raiseEvent (.commandOverflow (record p.1).code (record p.1).tag) t
      (addr % 32 + 8 * b.beats.length ≤ 32 → b.beats.length < 4 → taken (split (addr / 32 * 32) s))
      ∧ ∀ (first last : List Beat) (wholes : List (List Beat)), b.beats = first ++ wholes.flatten ++ last →
        (addr + 8 * first.length) % 32 = 0 → first.length < 4 → (∀ x ∈ wholes, x.length = 4) → last.length < 4 →
        let start := addr + 8 * first.length
        let one := if first = [] then s else split (start - 32) s
        let two := (wholes.zipIdx.map fun p => (p.1, start + 32 * p.2)).foldl position one
        taken (if last = [] then two else split (start + 32 * wholes.length) two)

/-- A read that belongs to a window joins the pass-through queue under that classification. An encoder or viewfinder read of
the FRAME window lying in one buffer's output area goes to its address plus dy x pitch + dx x 2 of the buffer's newest
record; every other read goes unmoved. For a geometry that passes R22's checks (WindowRecordRead spells them): an address
lies in buffer b below n at the offset o below H x pitch exactly when it is the window base + b x stride + o, and it is the
first beat of b exactly when o is 0. A read lies in the output area of b exactly when each of its beats does, with all 8 of
its bytes: on a line from My to H − My − 1, and within bytes 2 Mx to 2 (W − Mx) − 1 of the line. With a read whose beats all
lie in the output area of one buffer and a correction within the margins, every beat of the remapped read lies in that same
buffer. The lookups are against the history, oldest first: the newest record of a buffer in any state is one with no later
record of that buffer, the newest COMPLETE one is one with no later COMPLETE record of it, whatever stands after it, and the
newest of all is the last; each finds nothing when there is none of its kind. (R8, R11, R23, R28, R33, R34) -/
def Obligations.ReadAcceptedRemapped : Prop :=
    (∀ (b : ReadBurst) (s : State) (cls : ReadClass), b.wellFormed = true → s.path.waiting = [] →
      s.path.passQueue.length < 16 → classify s b.addr.toNat b.len b.tag = .belongs cls →
      (∀ g bf r, cls.window.role = .frame → (cls.setIndex = 1 ∨ cls.setIndex = 2) → cls.window.params = .frame g →
        g.outputBuffer cls.window.base b.addr.toNat b.len = some bf → newestOf bf s.frame.history = some r →
        exec (.upstreamReadAccepted b) s = .next (forwardBurst b.tag b.addr.toNat
          ((b.addr.toNat : Int) + (r.dy * (g.pitch : Int) + r.dx * 2)).toNat (.read b.len (some cls)) s))
      ∧ (∀ g, cls.window.role = .frame → cls.window.params = .frame g →
        (g.outputBuffer cls.window.base b.addr.toNat b.len = none
          ∨ ∃ bf, g.outputBuffer cls.window.base b.addr.toNat b.len = some bf ∧ newestOf bf s.frame.history = none) →
        exec (.upstreamReadAccepted b) s =
          .next (forwardBurst b.tag b.addr.toNat b.addr.toNat (.read b.len (some cls)) s))
      ∧ ((cls.window.role ≠ .frame ∨ cls.setIndex = 0) → exec (.upstreamReadAccepted b) s =
          .next (forwardBurst b.tag b.addr.toNat b.addr.toNat (.read b.len (some cls)) s)))
    ∧ (∀ (g : Geometry) (size base : Nat), g.ok size = true →
      (∀ a b o, g.place base a = some (b, o) ↔ b < g.buffers ∧ o < g.height * g.pitch ∧ a = base + b * g.stride + o)
      ∧ (∀ a b, g.firstBeatOf base a = some b ↔ b < g.buffers ∧ a = base + b * g.stride)
      ∧ (∀ addr len b, 0 < len → (g.outputBuffer base addr len = some b ↔ b < g.buffers ∧ ∀ i, i < len →
        ∃ line byte, addr + 8 * i = base + b * g.stride + line * g.pitch + byte
          ∧ g.marginY ≤ line ∧ line + g.marginY < g.height ∧ 2 * g.marginX ≤ byte ∧ byte + 8 ≤ 2 * (g.width - g.marginX)))
      ∧ ∀ (addr len b i : Nat) (r : CaptureRecord), g.outputBuffer base addr len = some b → r.fits g → i < len →
        ∃ o, g.place base (((addr : Int) + (r.dy * (g.pitch : Int) + r.dx * 2)).toNat + 8 * i) = some (b, o))
    ∧ ∀ (b : Nat) (h : List CaptureRecord),
      let newest := fun (found : Option CaptureRecord) (sought : CaptureRecord → Prop) =>
        (∀ r, found = some r ↔ ∃ before after, h = before ++ r :: after ∧ sought r ∧ ∀ x ∈ after, ¬ sought x)
        ∧ (found = none ↔ ∀ x ∈ h, ¬ sought x)
      newest (newestOf b h) (fun x => x.buffer = b)
      ∧ newest (newestComplete b h) (fun x => x.buffer = b ∧ x.state = .complete) ∧ newest (newestRecord h) fun _ => True

/-- While the memory-side port carries a request nothing is issued; R14 speaks of a port that is free to take a request, and
that it is not free until DRAM has answered the request before is the model's reading (log entry 11). On a free port with no
request waiting upstream: the oldest pass-through burst when the injected-write queue is empty or the count is below 4, its
count then one higher up to 4; the first injected burst when the pass-through queue is empty or the count is 4, the count
then 0 and its slot WRITTEN. WaitingRequestsAccepted says what an issue does with requests that wait. (R14, R194, R195) -/
def Obligations.ArbiterIssues : Prop :=
    ∀ s : State, (s.path.atMemory.isSome = true → exec .arbiterIssue s = .next s)
      ∧ (s.path.atMemory = none → s.path.waiting = [] →
      (∀ p rest, s.path.passQueue = p :: rest → (s.path.injected = [] ∨ s.path.arbiterCount < 4) →
        exec .arbiterIssue s = .next { s with path := { s.path with
          passQueue := rest
          atMemory := some (.pass p), arbiterCount := min 4 (s.path.arbiterCount + 1) } })
      ∧ (∀ w rest, s.path.injected = w :: rest → (s.path.passQueue = [] ∨ 4 ≤ s.path.arbiterCount) →
        exec .arbiterIssue s = .next { s with
          path := { s.path with injected := rest, atMemory := some (.injected w), arbiterCount := 0 }
          report := { s.report with slots := (match w.slot with
            | some k => setSlot s.report.slots k .written
            | none => s.report.slots) } })
      ∧ (s.path.passQueue = [] → s.path.injected = [] → exec .arbiterIssue s = .next s))

/-- The data of a read that belongs to no window, once all its beats have come back in one return or in several, ERROR for
any read of which no beat has come, and DONE or ERROR for a forwarded write, become the answer of that burst's response, and
the memory-side port is free; beats before the last wait at the port, and the response is answered only with the last
return, which is the model's reading of R2 and R12 (log entry 55); that the port stays busy until the answer and is freed by
it is the model's reading of 1.5 and R195 (log entry 11); nothing else changes. A return of no beat, of more than are still
to come, or of ERROR after beats of the read faults, since DRAM makes none (log entry 7). DONE for an injected write frees
the port and changes nothing else. ERROR does so too and raises MEMORY_FAULT with the record's kind, unless the lost record
is itself an event report of kind MEMORY_FAULT, which sets the kind pending and counts it without a report. For a tag, the
earliest response owed to it is returned once its own work is finished; while it is not finished no response to that tag is
returned. (R2, R8, R16) -/
def Obligations.MemoryAnswersPassOn : Prop :=
    (∀ (tag : BitVec 4) (s : State) (before behind : List Response) (r : Response),
      s.path.responses = before ++ r :: behind → (∀ x ∈ before, x.tag ≠ tag) → r.tag = tag →
      (∀ a, r.answer = some a → exec (.upstreamResponseReturned tag) s = .next { s with path := { s.path with
        responses := before ++ behind, returned := some { tag := tag, answer := a } } })
      ∧ (r.answer = none → exec (.upstreamResponseReturned tag) s = .next s))
    ∧ (∀ (s : State) (p : PassBurst), s.path.atMemory = some (.pass p) →
      (∀ len beats, p.body = .read len none → 1 ≤ beats.length →
        (s.path.beatsBack.length + beats.length = len → exec (.readReturn (some beats)) s = .next { s with
          path := { s.path with
            atMemory := none, beatsBack := []
            responses := s.path.responses.map fun r =>
              if r.id = p.id then { r with answer := some (.data (s.path.beatsBack ++ beats)) } else r } })
        ∧ (s.path.beatsBack.length + beats.length < len → exec (.readReturn (some beats)) s =
          .next { s with path := { s.path with beatsBack := s.path.beatsBack ++ beats } }))
      ∧ (∀ len cls, p.body = .read len cls → (s.path.beatsBack ≠ [] → exec (.readReturn none) s = .fault .unsolicitedAnswer)
        ∧ ∀ beats : List BeatData, (beats = [] ∨ len < s.path.beatsBack.length + beats.length) →
          exec (.readReturn (some beats)) s = .fault .unsolicitedAnswer)
      ∧ (∀ len cls, p.body = .read len cls → s.path.beatsBack = [] → exec (.readReturn none) s = .next { s with
        path := { s.path with
          atMemory := none, beatsBack := []
          responses := s.path.responses.map fun r =>
            if r.id = p.id then { r with answer := some .error } else r } })
      ∧ (∀ beats done, p.body = .write beats → exec (.forwardedWriteResponse done) s = .next { s with
        path := { s.path with
          atMemory := none, beatsBack := []
          responses := s.path.responses.map fun r =>
            if r.id = p.id then { r with answer := some (if done then .done else .error) } else r } }))
    ∧ ∀ (s : State) (w : InjectedWrite), s.path.atMemory = some (.injected w) →
      let free := { s with path := { s.path with atMemory := none, beatsBack := [] } }
      exec (.injectedWriteResponse true) s = .next free
      ∧ (w.isMemoryFault = false → exec (.injectedWriteResponse false) s = .next (raiseEvent (.memoryFault w.kind) free))
      ∧ (w.isMemoryFault = true → exec (.injectedWriteResponse false) s = .next { free with report := { s.report with
        events := s.report.events.modify 3 fun e => { e with pending := true, count := e.count + 1 }
        attn := ((s.report.events.modify 3 fun e => { e with pending := true, count := e.count + 1 }).any fun e =>
          e.pending && !e.masked) && s.report.quietEnd.isNone } })

/-- A write touches the guarded span exactly when some byte of it lies at a forward distance from D below G. An encoder
write that touches the span, or that comes while a suppression episode runs and is no recognised header
(EncoderWriteForwarded spells one), is held back, as the classification foresees (wouldHoldBack): it is answered DONE
without joining the pass-through queue, with the queue full or not; the overrun hold becomes 50, and the write end, D, G and
the frame index keep their values. When it carries a marker beat and is no recognised header, one STAMP_FAULT is raised
first, with the ring offset of its first marker beat and the cause LENGTH for a write of a header's shape and SHAPE
otherwise: once a write, and for the first marker beat, is the model's reading (log entry 17). With no episode running one
starts at the write's offset, and RECORD_OVERRUN is raised with that offset and the number of the clip charged, or 0; a
running episode goes on. No other occurrence is raised. The OPEN clip is charged; without one, for a recognised header, the
CLOSING clip unless the newest COMPLETE record of the header's buffer has a sequence later than the stop sequence; a write
that is no header is given the OPEN clip's number alone, which is the model's reading (log entry 17). A recognised header
counts as a frame dropped of the clip charged, and any other write as none. (R13, R151, R154, R158, R160, R167, R168) -/
def Obligations.GuardedWriteHeldBack : Prop :=
    (∀ size d g off len : Nat, 0 < len → d < size → off + len ≤ size →
      (inSpan size (some d) g off len = true ↔ ∃ j, j < len ∧ (off + j + size - d) % size < g))
    ∧ ∀ (b : WriteBurst) (s : State) (w : WindowRecord) (setup : RingSetup), b.wellFormed = true → s.path.waiting = [] →
      classify s b.addr.toNat b.beats.length b.tag = .belongs { window := w, setIndex := 0 } → w.role = .record →
      w.params = .record setup →
      let addr := b.addr.toNat
      let off := addr - w.base
      let header := recognise w.size setup.marker addr b.beats
      let held := inSpan w.size s.record.drain s.record.guarded off (8 * b.beats.length) = true
        ∨ (s.record.episode.isSome = true ∧ header = none)
      (wouldHoldBack b s = true ↔ held)
      ∧ (held → ∃ t, exec (.upstreamWriteAccepted b) s = .next t ∧ t.path.passQueue = s.path.passQueue ∧ t.path.waiting = []
        ∧ t.path.responses = s.path.responses ++ [{ id := s.path.nextId, tag := b.tag, answer := some .done }]
        ∧ t.overlay.overrunHold = 50 ∧ t.record.episode = some (s.record.episode.getD off)
        ∧ t.record.writeEnd = s.record.writeEnd ∧ t.record.drain = s.record.drain ∧ t.record.guarded = s.record.guarded
        ∧ t.record.index = s.record.index
        ∧ (let clipIn := fun st : ClipState => s.record.clips.find? fun c => c.state == st
          let passed := fun (h : HeaderFields) (c : Clip) => h.buffer ≤ 3 ∧ ∃ q stop,
            newestComplete h.buffer s.frame.history = some q ∧ c.stopSeq = some stop ∧ laterThan q.seq stop = true
          let overrun := fun (number : Nat) (x : State) =>
            if s.record.episode.isSome then x.report else (raiseEvent (.recordOverrun off number) x).report
          let raised := fun x : State =>
            (∀ c, clipIn .opened = some c → t.report = overrun c.number x)
            ∧ (∀ h c, clipIn .opened = none → header = some h → clipIn .closing = some c → ¬ passed h c →
              t.report = overrun c.number x)
            ∧ (clipIn .opened = none →
              (header = none ∨ clipIn .closing = none ∨ ∃ h c, header = some h ∧ clipIn .closing = some c ∧ passed h c) →
              t.report = overrun 0 x)
          let marks := fun (i : Nat) (x : Beat) => (addr + 8 * i) % 32 = 0 ∧ x.enables = 255 ∧ x.data = setup.marker
          let shape := addr % 32 = 0 ∧ b.beats.length = 4 ∧ (∀ x ∈ b.beats, x.enables = 255)
            ∧ b.beats.head?.map (fun x => x.data) = some setup.marker
          (header.isSome = true ∨ (∀ i x, b.beats[i]? = some x → ¬ marks i x) → raised s)
          ∧ (∀ i x, header = none → b.beats[i]? = some x → marks i x →
            (∀ j y, j < i → b.beats[j]? = some y → ¬ marks j y) →
            (shape → raised (raiseEvent (.stampFault (off + 8 * i) .length) s))
            ∧ (¬ shape → raised (raiseEvent (.stampFault (off + 8 * i) .shape) s))))
        ∧ (header = none → t.record.clips = s.record.clips)
        ∧ (∀ h, header = some h →
          let capture := if h.buffer ≤ 3 then newestComplete h.buffer s.frame.history else none
          let dropped := fun (st : ClipState) => s.record.clips.map fun c =>
            if c.state = st then { c with dropped := min 65535 (c.dropped + 1) } else c
          ((∃ c ∈ s.record.clips, c.state = .opened) → t.record.clips = dropped .opened)
          ∧ (∀ c stopSeq, (∀ x ∈ s.record.clips, x.state ≠ .opened) →
            s.record.clips.find? (fun x => x.state == .closing) = some c → c.stopSeq = some stopSeq →
            t.record.clips = (match capture with
              | some q => if laterThan q.seq stopSeq then s.record.clips else dropped .closing
              | none => dropped .closing))
          ∧ ((∀ c ∈ s.record.clips, c.state ≠ .opened ∧ c.state ≠ .closing) → t.record.clips = s.record.clips)))

/-- An encoder write that is no recognised header, outside the guarded span and with no suppression episode running,
whatever the clip list holds, is forwarded as written. The index entries whose headers it covers leave the index; the write
end is set just past its last byte, modulo the ring size; with D defined G is the forward distance from D to it, 0 read as
the ring size, and 0 without; D, the clips and the record timecode are kept. When D stands at the end of a CLOSED oldest
clip that clip is then drained; the level is evaluated last (RecordOperations spells both). A write that carries a marker
beat, a full beat at a multiple of 32 whose bytes are the marker, raises one STAMP_FAULT first, for its first marker beat,
with that beat's ring offset and the cause LENGTH when the write has the shape of a header and only its coded length fails,
else SHAPE: that it is raised once a write, for the first marker beat, is the model's reading (log entry 17). A write is a
recognised header exactly when it has the shape, 4 beats at a multiple of 32 with every enable set and the marker first, and
its coded length in bytes 8 to 11 is 32 to half the ring size; its buffer index is byte 12, and it is random-access when
byte 13 is not 0. (R9, R154, R157, R158, R159, R167, R168, R170, R172, R209) -/
def Obligations.EncoderWriteForwarded : Prop :=
    ∀ (b : WriteBurst) (s : State) (w : WindowRecord) (setup : RingSetup), b.wellFormed = true → s.path.waiting = [] →
      s.path.passQueue.length < 16 →
      classify s b.addr.toNat b.beats.length b.tag = .belongs { window := w, setIndex := 0 } → w.role = .record →
      w.params = .record setup →
      let addr := b.addr.toNat
      let off := addr - w.base
      let coded := field (burstBytes b.beats) 8 4
      let shape := addr % 32 = 0 ∧ b.beats.length = 4 ∧ (∀ x ∈ b.beats, x.enables = 255)
        ∧ b.beats.head?.map (fun x => x.data) = some setup.marker
      let header : HeaderFields := {
        codedLength := coded, buffer := field (burstBytes b.beats) 12 1
        randomAccess := field (burstBytes b.beats) 13 1 != 0 }
      let e := (off + 8 * b.beats.length) % w.size
      let moved := fun (t : State) => { t with record := { t.record with
        index := s.record.index.filter fun x => !(off < x.start + 32 && x.start < off + 8 * b.beats.length)
        writeEnd := some e
        guarded := match s.record.drain with
          | some d => if (e + w.size - d) % w.size = 0 then w.size else (e + w.size - d) % w.size
          | none => 0 } }
      let forwarded := fun (t : State) =>
        ((∃ c rest d, s.record.clips = c :: rest ∧ c.state = .closed ∧ c.stop = some d ∧ s.record.drain = some d) →
          exec (.upstreamWriteAccepted b) s = .next (forwardWrite b b.beats (evaluateLevel (removeOldest .drained (moved t)))))
        ∧ ((∀ c rest d, s.record.clips = c :: rest → c.state = .closed → s.record.drain = some d → c.stop ≠ some d) →
          exec (.upstreamWriteAccepted b) s = .next (forwardWrite b b.beats (evaluateLevel (moved t))))
      let marks := fun (i : Nat) (x : Beat) => (addr + 8 * i) % 32 = 0 ∧ x.enables = 255 ∧ x.data = setup.marker
      (shape → 32 ≤ coded → coded ≤ w.size / 2 → recognise w.size setup.marker addr b.beats = some header)
      ∧ ((¬ shape ∨ coded < 32 ∨ w.size / 2 < coded) → recognise w.size setup.marker addr b.beats = none)
      ∧ ((¬ shape ∨ coded < 32 ∨ w.size / 2 < coded) → s.record.episode = none →
        inSpan w.size s.record.drain s.record.guarded off (8 * b.beats.length) = false →
        ((∀ i x, b.beats[i]? = some x → ¬ marks i x) → forwarded s)
        ∧ (∀ (i : Nat) (x : Beat), b.beats[i]? = some x → marks i x →
          (∀ j y, j < i → b.beats[j]? = some y → ¬ marks j y) →
          (shape → forwarded (raiseEvent (.stampFault (addr + 8 * i - w.base) .length) s))
          ∧ (¬ shape → forwarded (raiseEvent (.stampFault (addr + 8 * i - w.base) .shape) s))))

/-- A recognised header outside the guarded span, with any clip list that RecordInv allows. In this order: it closes a
CLOSING clip whose stop sequence its own is later than, at its offset, with RECORD_STATE, the index entries then held being
marked; it opens an ARMED clip at its offset, with RECORD_STATE, when it is random-access and, for a chained clip, later
than the chain sequence, D becoming the offset when it was absent. It belongs then to the OPEN clip, else to the CLOSING
one, else to none. It is forwarded with bytes 0 to 13 as written and 14 to 31 stamped: sequence, dx and dy of the newest
COMPLETE capture of its buffer, or 0 with the status NO CAPTURE; the timecode and drop-frame flag of that capture, or in REC
RUN of the record timecode; IN CLIP and the clip number, CLIP FIRST when it opened a clip, DROPPED BEFORE when an episode
ran; the status; and 0. Its index entry joins, the oldest of 256 leaving; the episode ends; its clip's frames stamped and
the record timecode advance when it is in a clip; the write end moves and G becomes the distance from D, 0 read as the ring
size, or 0 with D absent. When D stands at the end of a CLOSED oldest clip that clip is drained, and the level is evaluated
last (RecordOperations). FrameTrackerCommands spells the counting, ReadAcceptedRemapped the newest COMPLETE record. (R154,
R155, R156, R157, R158, R159, R163, R165, R166, R168, R170, R209) -/
def Obligations.HeaderOpensAndCloses : Prop :=
    ∀ (b : WriteBurst) (s : State) (w : WindowRecord) (setup : RingSetup) (h : HeaderFields),
      b.wellFormed = true → s.path.waiting = [] → s.path.passQueue.length < 16 →
      classify s b.addr.toNat b.beats.length b.tag = .belongs { window := w, setIndex := 0 } → w.role = .record →
      w.params = .record setup → recognise w.size setup.marker b.addr.toNat b.beats = some h → RecordInv s →
      inSpan w.size s.record.drain s.record.guarded (b.addr.toNat - w.base) (8 * b.beats.length) = false →
      let off := b.addr.toNat - w.base
      let capture : Option CaptureRecord := if h.buffer ≤ 3 then
        (s.frame.history.filter fun r => r.state == .complete && r.buffer == h.buffer).getLast? else none
      let later := fun (q : Option Half) => match capture, q with
        | some r, some x => laterThan r.seq x
        | _, _ => false
      let kept := s.record.index.filter fun x => !(off < x.start + 32 && x.start < off + 8 * b.beats.length)
      let ends := fun x : Clip => x.state == .closing && later x.stopSeq
      let begins := fun x : Clip => x.state == .armed && h.randomAccess && (x.chainSeq.isNone || later x.chainSeq)
      let ended := fun x : Clip => { x with state := .closed, stop := some off }
      let begun := fun x : Clip => { x with state := .opened, start := some off, chainSeq := none }
      let clips := s.record.clips.map fun x => if ends x then ended x else if begins x then begun x else x
      let taker : Option Clip := match clips.find? fun x : Clip => x.state == .opened with
        | some x => some x
        | none => clips.find? fun x : Clip => x.state == .closing
      let held := if s.record.clips.any ends then kept.map fun x => { x with beforeBoundary := true } else kept
      let drain : Option Nat := match s.record.drain with
        | some d => some d
        | none => if s.record.clips.any begins then some off else none
      let e := (off + 8 * b.beats.length) % w.size
      let closing := fun t : State => match s.record.clips.find? ends with
        | some x => raiseEvent (clipEvent (ended x) .closed) t
        | none => t
      let opening := fun t : State => match s.record.clips.find? begins with
        | some x => raiseEvent (clipEvent (begun x) .opened) t
        | none => t
      let after := opening (closing { s with record := { s.record with
        clips := clips.map fun x => if taker.any (fun y => y.state == x.state) then
          { x with stamped := min 4294967295 (x.stamped + 1) } else x
        index := (if 256 ≤ held.length then held.drop 1 else held) ++ [{
          start := off, seq := capture.map fun r => r.seq, randomAccess := h.randomAccess, beforeBoundary := false }]
        episode := none
        timecode := if taker.isSome then s.record.timecode.advance s.frame.rate s.frame.dropFrame else s.record.timecode
        writeEnd := some e, drain := drain
        guarded := match drain with
          | some d => if (e + w.size - d) % w.size = 0 then w.size else (e + w.size - d) % w.size
          | none => 0 } })
      let drained : Bool := match clips.head?, drain with
        | some x, some d => x.state == .closed && x.stop == some d
        | _, _ => false
      let clock := match s.frame.mode, capture with
        | .recRun, _ => (s.record.timecode, s.frame.dropFrame)
        | .freeRun, some r => (r.timecode, r.dropFrame)
        | .freeRun, none => (⟨0, 0, 0, 0⟩, false)
      let flag := fun v : Bool => if v then (1 : Int) else 0
      ∃ out : List Beat,
        exec (.upstreamWriteAccepted b) s =
          .next (forwardWrite b out (evaluateLevel (if drained then removeOldest .drained after else after)))
        ∧ out.length = 4 ∧ (∀ x ∈ out, x.enables = 255) ∧ (burstBytes out).take 14 = (burstBytes b.beats).take 14
        ∧ LaidOut ((burstBytes out).drop 14) 18 [(0, 2, ((((capture.map fun r => r.seq).getD 0 : Half)).toNat : Int)),
          (2, 1, (clock.1.hours : Int)), (3, 1, (clock.1.minutes : Int)), (4, 1, (clock.1.seconds : Int)),
          (5, 1, (clock.1.frames : Int)), (6, 1, flag clock.2), (7, 1, flag taker.isSome + 2 * flag (s.record.clips.any begins)
            + 4 * flag s.record.episode.isSome), (8, 2, (((taker.map fun x => x.number).getD 0 : Nat) : Int)),
          (10, 2, ((capture.map fun r => r.dx).getD 0 : Int)), (12, 2, ((capture.map fun r => r.dy).getD 0 : Int)),
          (14, 1, if capture.isSome then 1 else 2)]

/-- The start entry of a pre-roll P is the newest candidate, random-access with a sequence, at or before N − P, N the newest
sequence indexed; the oldest candidate if none is; and, when that one is marked before boundary, the oldest candidate not so
marked; none without a sequence. D absent takes a clip's start, G the distance from it to the write end, 0 read as the ring
size, and 0 with no write end; D present stays. Removing the oldest clip raises RECORD_STATE with the cause and moves D to
the next clip's start, G falling by the distance but not below 0, or leaves D absent and G 0. The level rises to HIGH at H x
U and from LOW to READY at T x U, and falls below T x U − V to LOW and from HIGH below H x U − V to READY; only a change
raises RING_LEVEL. (R151, R159, R162, R170, R171, R172) -/
def Obligations.RecordOperations : Prop :=
    (∀ (preRoll : Nat) (index : List IndexEntry), (∀ e ∈ index, e.seq = none) → startEntry preRoll index = none)
    ∧ (∀ (preRoll : Nat) (before behind : List IndexEntry) (e : IndexEntry) (n : Half), e.seq = some n →
      (∀ x ∈ behind, x.seq = none) →
      let index := before ++ e :: behind
      let candidates := index.filter fun x => x.randomAccess && x.seq.isSome
      let reach := candidates.filter fun x => match x.seq with
        | some q => decide ((n - BitVec.ofNat 16 preRoll - q).toNat ≤ 32767)
        | none => false
      startEntry preRoll index = (match (if reach = [] then candidates.head? else reach.getLast?) with
        | none => none
        | some x => if x.beforeBoundary then (candidates.filter fun y => !y.beforeBoundary).head? else some x))
    ∧ (∀ (s : State) (start d : Nat),
      (s.record.drain = some d → defineDrain start s = s)
      ∧ (s.record.drain = none → s.record.writeEnd = none →
        defineDrain start s = { s with record := { s.record with drain := some start, guarded := 0 } })
      ∧ (∀ e, s.record.drain = none → s.record.writeEnd = some e →
        let far := (e + s.ringSize - start) % s.ringSize
        defineDrain start s = { s with record := { s.record with
          drain := some start, guarded := if far = 0 then s.ringSize else far } }))
    ∧ (∀ (s : State) (cause : ClipState) (c : Clip) (rest : List Clip) (d : Nat), s.record.clips = c :: rest →
      s.record.drain = some d →
      let event := fun (t : State) => raiseEvent (.recordState c.number cause c.start c.stop c.stamped c.dropped) t
      ((rest = [] ∨ ∃ x later, rest = x :: later ∧ x.start = none) → removeOldest cause s =
        event { s with record := { s.record with clips := rest, drain := none, guarded := 0 } })
      ∧ (∀ x later st, rest = x :: later → x.start = some st → removeOldest cause s =
        event { s with record := { s.record with
          clips := rest, drain := some st, guarded := s.record.guarded - (st + s.ringSize - d) % s.ringSize } }))
    ∧ (∀ s : State, s.ring = none → evaluateLevel s = s)
    ∧ (∀ (s : State) (size : Nat) (setup : RingSetup), s.ring = some (size, setup) →
      let g := s.record.guarded
      let u := size / 64
      let v := size / 128
      let becomes := fun (l : RingLevel) => raiseEvent (.ringLevel l g) { s with record := { s.record with level := l } }
      (setup.highWater * u ≤ g → s.record.level ≠ .high → evaluateLevel s = becomes .high)
      ∧ (setup.highWater * u ≤ g → s.record.level = .high → evaluateLevel s = s)
      ∧ (g < setup.highWater * u →
        (s.record.level = .low → evaluateLevel s = if setup.drainLevel * u ≤ g then becomes .ready else s)
        ∧ (s.record.level = .ready → evaluateLevel s = if g < setup.drainLevel * u - v then becomes .low else s)
        ∧ (s.record.level = .high → evaluateLevel s =
          if g < setup.drainLevel * u - v then becomes .low
          else if g < setup.highWater * u - v then becomes .ready else s)))

/-- With no request waiting upstream; RECORD_STATE comes before RING_LEVEL, the model's choice (log entry 48). RECORD SETUP
is refused without a RECORD window, with a bad flag or with T not below H, else replaces the ring setup and evaluates the
level. REC START is refused without a ring, with a clip ARMED or OPEN, or with 4 clips; behind a CLOSING clip it adds a
chained ARMED clip, in REC RUN or with no entry in the index to start from an ARMED one, and otherwise an OPEN one that
starts at the entry the index gives for the pre-roll. REC STOP makes the OPEN clip CLOSING at the newest capture's sequence,
removes an ARMED one as ABANDONED, and is otherwise refused. CLIP DISCARD removes a CLOSED oldest clip and is otherwise
refused. RecordOperations spells the start entry, D and G, the removal and the level. (R152, R161, R162, R164, R171) -/
def Obligations.RecordCommands : Prop :=
    ∀ (s : State) (r : CommandRecord), NextIs s r → s.path.waiting = [] →
      let clips := s.record.clips
      let refused := completed r .refusedState .none (popCommand s)
      (r.code = 0x0070 → s.window .record = none → exec .recordSetup s = .next refused)
      ∧ (r.code = 0x0070 → (s.window .record).isSome = true →
          (1 < r.byte 14 ∨ max 1 (min 63 (r.byte 12)) ≤ max 1 (min 63 (r.byte 13))) →
          exec .recordSetup s = .next (completed r .refusedRange .none (popCommand s)))
      ∧ (∀ i w, r.code = 0x0070 → roleWindow .record s.path.windows 0 = some (i, w) → r.byte 14 ≤ 1 →
          max 1 (min 63 (r.byte 13)) < max 1 (min 63 (r.byte 12)) →
          exec .recordSetup s = .next (completed r
            (if 1 ≤ r.byte 12 ∧ r.byte 12 ≤ 63 ∧ 1 ≤ r.byte 13 ∧ r.byte 13 ≤ 63 ∧ r.byte 15 ≤ 240 then .done else .clamped)
            .none (evaluateLevel { popCommand s with path := { s.path with windows := s.path.windows.set i (some { w with
              params := .record {
                marker := beatOfBytes (r.bytes 4 8), highWater := max 1 (min 63 (r.byte 12))
                drainLevel := max 1 (min 63 (r.byte 13)), button := r.byte 14 == 1
                preRoll := min 240 (r.byte 15) } }) } })))
      ∧ (r.code = 0x0071 → (s.ring = none ∨ ∃ c ∈ clips, c.state = .armed ∨ c.state = .opened) →
          exec .recStart s = .next refused)
      ∧ (r.code = 0x0071 → s.ring.isSome = true → (∀ c ∈ clips, c.state ≠ .armed ∧ c.state ≠ .opened) → 4 ≤ clips.length →
          exec .recStart s = .next (completed r .refusedFull .none (popCommand s)))
      ∧ (∀ size setup c, r.code = 0x0071 → s.ring = some (size, setup) → clips.length < 4 →
          (∀ c ∈ clips, c.state ≠ .armed ∧ c.state ≠ .opened) → clips.find? (fun c => c.state == .closing) = some c →
          let clip : Clip := ⟨s.record.nextClip, .armed, none, none, none, c.stopSeq, 0, 0⟩
          exec .recStart s = .next (completed r
            (if (if r.half 4 = 0xFFFF then setup.preRoll else r.half 4) = 0 then .done else .clamped) .none
            (raiseEvent (clipEvent clip .armed) { popCommand s with record := { s.record with
              clips := clips ++ [clip]
              nextClip := if s.record.nextClip ≥ 9999 then 1 else s.record.nextClip + 1 } })))
      ∧ (∀ size setup, r.code = 0x0071 → s.ring = some (size, setup) → clips.length < 4 →
          (∀ c ∈ clips, c.state ≠ .armed ∧ c.state ≠ .opened ∧ c.state ≠ .closing) →
          let asked := if r.half 4 = 0xFFFF then setup.preRoll else r.half 4
          let added := fun clip : Clip => raiseEvent (clipEvent clip clip.state) { popCommand s with record := { s.record with
            clips := clips ++ [clip]
            nextClip := if s.record.nextClip ≥ 9999 then 1 else s.record.nextClip + 1 } }
          let armed := added ⟨s.record.nextClip, .armed, none, none, none, none, 0, 0⟩
          let status := if asked ≤ 240 then Status.done else .clamped
          (s.frame.mode = .recRun → exec .recStart s = .next (completed r (if asked = 0 then .done else .clamped) .none armed))
          ∧ (s.frame.mode = .freeRun → startEntry (min 240 asked) s.record.index = none →
            exec .recStart s = .next (completed r status .none armed))
          ∧ (∀ e, s.frame.mode = .freeRun → startEntry (min 240 asked) s.record.index = some e →
            exec .recStart s = .next (completed r status .none (evaluateLevel (defineDrain e.start
              (added ⟨s.record.nextClip, .opened, some e.start, none, none, none, 0, 0⟩))))))
      ∧ (∀ c, r.code = 0x0072 → clips.find? (fun c => c.state == .opened) = some c →
          let closing := { c with state := .closing, stopSeq := some (match s.frame.history.getLast? with
            | some q => q.seq
            | none => s.frame.nextSeq - 1) }
          exec .recStop s = .next (completed r .done .none (raiseEvent (clipEvent closing .closing) { popCommand s with
            record := { s.record with clips := clips.map fun x => if x.state = .opened then closing else x } })))
      ∧ (∀ c, r.code = 0x0072 → clips.find? (fun c => c.state == .opened) = none →
          clips.find? (fun c => c.state == .armed) = some c →
          exec .recStop s = .next (completed r .done .none (raiseEvent (clipEvent c .abandoned) { popCommand s with
            record := { s.record with clips := clips.filter fun x => x.state != .armed } })))
      ∧ (r.code = 0x0072 → (∀ c ∈ clips, c.state ≠ .armed ∧ c.state ≠ .opened) → exec .recStop s = .next refused)
      ∧ (r.code = 0x0073 → (∀ c, clips.head? = some c → c.state ≠ .closed) → exec .clipDiscard s = .next refused)
      ∧ (∀ c rest, r.code = 0x0073 → clips = c :: rest → c.state = .closed →
          exec .clipDiscard s = .next (completed r .done .none
            (evaluateLevel (removeOldest .discarded (popCommand s)))))

/-- The tracker stands in FREE-WHEEL with the mark at the old expiry and the next one nominal period later; the counter
advances by one label; the history, the rate and the next sequence are kept; the mark number grows by one, the hold counters
fall by one, the period count becomes 0; the gyro port, the record tracker and the command interface are untouched.
FRAME_BEAT is raised exactly when the tracker was LOCKED: its kind is pending and counted once, and with a REPORT window and
a place in the report queue its report joins ahead of every other event of the mark, which is the model's order (log entry
12), with the state 2, FREE-WHEEL, in byte 4 and 0 in the bytes of the capture mark flag and the sequence. MetadataAtMark
says what the metadata writer does. MarkRaises gives every occurrence of the mark with its payload, FrameTrackerCommands the
counting and the periods. (R29, R30, R31, R40, R117, R144, R179, R199, R208) -/
def Obligations.SubstituteMarkMade : Prop :=
    ∀ s : State, ∃ t, exec .frameMarkTimerExpiry s = .next t ∧ t.now = max s.now s.frame.expiry
      ∧ t.frame = { s.frame with
        tracker := .freeWheel, lastMark := s.frame.expiry
        expiry := s.frame.expiry + 8 * s.frame.rate.period
        timecode := s.frame.timecode.advance s.frame.rate s.frame.dropFrame }
      ∧ t.metadata.mark = s.metadata.mark + 1 ∧ t.overlay.overrunHold = s.overlay.overrunHold - 1
      ∧ t.overlay.clipHold = s.overlay.clipHold - 1 ∧ t.audio.count = 0
      ∧ t.straps = s.straps ∧ t.command = s.command ∧ t.gyro = s.gyro ∧ t.record = s.record
      ∧ (s.frame.tracker = .freeWheel → t.report.events[5]? = s.report.events[5]?)
      ∧ (s.frame.tracker = .locked → s.report.events.length = 25 →
        let entry := s.report.events.getD 5 ⟨false, true, 0⟩
        let beat : Report := .event .frameBeat (entry.count + 1) (.frameBeat .freeWheel none) false
        t.report.events[5]? = some { entry with pending := true, count := entry.count + 1 }
        ∧ ((s.window .report).isSome = true → s.report.queue.length < 16 →
          ∃ more, t.report.queue = s.report.queue ++ beat :: more)
        ∧ LaidOut (beat.compose false false) 32
          [(0, 1, 32), (1, 1, 6), (2, 1, (((entry.count + 1 : Byte)).toNat : Int)), (4, 1, 2)])

/-- A write that belongs to the FRAME window under its sensor set, with a place in the queue and no request waiting, is
forwarded as written. One that starts at a buffer's first beat is a capture start: a FILLING record becomes ABANDONED with
CAPTURE_ABANDONED, and the history gains one FILLING record with the next capture sequence, that buffer, the counter's value
before the mark, the lens values as they stood and a correction within the margins, the oldest of 16 leaving; its link state
is the one before this mark settles the previous cycle, which is the model's reading (log entry 16). The next sequence and
the counter advance by one, the tracker is LOCKED with the expiry one lock deadline on, and the mark number grows by one.
FRAME_BEAT is raised exactly when the tracker was FREE-WHEEL: with a REPORT window and room in the report queue its report
follows CAPTURE_ABANDONED, if that is raised, and comes ahead of the mark's other events, which is the model's order (log
entry 12), with the state 1, LOCKED, in byte 4, the capture mark flag in byte 5 and the sequence in bytes 6 and 7.
MetadataAtMark says what the metadata writer does. Any other makes the FILLING record of the buffer whose last image beat it
covers COMPLETE, and changes nothing else. MarkRaises gives every occurrence of the mark with its payload,
FrameTrackerCommands the counting and the periods, ReadAcceptedRemapped the first beats. (R9, R23, R24, R25, R26, R29, R30,
R31, R40, R199, R208) -/
def Obligations.CaptureStartRecorded : Prop :=
    ∀ (b : WriteBurst) (s : State) (w : WindowRecord) (g : Geometry), b.wellFormed = true → s.path.waiting = [] →
      s.path.passQueue.length < 16 →
      classify s b.addr.toNat b.beats.length b.tag = .belongs { window := w, setIndex := 0 } → w.role = .frame →
      w.params = .frame g → 4 ∣ g.marginX →
      let addr := b.addr.toNat
      let old := s.frame.history.map fun r => if r.state = .filling then { r with state := .abandoned } else r
      let last := fun k : Nat => w.base + k * g.stride + (g.height - 1) * g.pitch + 2 * g.width - 8
      (∀ k, g.firstBeatOf w.base addr = some k → ∃ t r, captureStart g k s = t
        ∧ exec (.upstreamWriteAccepted b) s = .next (forwardWrite b b.beats t)
        ∧ t.frame.history = (if 16 ≤ old.length then old.drop 1 else old) ++ [r]
        ∧ r.seq = s.frame.nextSeq ∧ r.buffer = k ∧ r.state = .filling ∧ r.timecode = s.frame.timecode
        ∧ r.dropFrame = s.frame.dropFrame ∧ r.link = s.lens.link ∧ r.focal = s.lens.focal
        ∧ r.lens = s.lens.position.map (fun p => ⟨p.zoom, p.focus, p.iris, p.extender⟩) ∧ r.fits g
        ∧ t.frame.nextSeq = s.frame.nextSeq + 1 ∧ t.frame.tracker = .locked ∧ t.frame.lastMark = s.now
        ∧ t.frame.expiry = s.now + 8 * (3 * s.frame.rate.period / 2)
        ∧ t.frame.timecode = s.frame.timecode.advance s.frame.rate s.frame.dropFrame
        ∧ t.metadata.mark = s.metadata.mark + 1 ∧ t.command.queue = s.command.queue ∧ t.gyro = s.gyro
        ∧ (s.report.events.length = 25 → (∃ x ∈ s.frame.history, x.state = .filling) →
          (t.report.events.getD 6 ⟨false, true, 0⟩).pending = true)
        ∧ (s.frame.tracker = .locked → t.report.events[5]? = s.report.events[5]?)
        ∧ (s.frame.tracker = .freeWheel → s.report.events.length = 25 →
          let count := fun i : Nat => (s.report.events.getD i ⟨false, true, 0⟩).count + 1
          let beat : Report := .event .frameBeat (count 5) (.frameBeat .locked (some s.frame.nextSeq)) false
          t.report.events[5]? = some { s.report.events.getD 5 ⟨false, true, 0⟩ with pending := true, count := count 5 }
          ∧ ((s.window .report).isSome = true →
            ((∀ x ∈ s.frame.history, x.state ≠ .filling) → s.report.queue.length < 16 →
              ∃ more, t.report.queue = s.report.queue ++ beat :: more)
            ∧ (∀ before x behind, s.frame.history = before ++ x :: behind → (∀ y ∈ before, y.state ≠ .filling) →
              x.state = .filling → s.report.queue.length < 15 → ∃ more, t.report.queue = s.report.queue
                ++ .event .captureAbandoned (count 6) (.captureAbandoned x.seq x.buffer) false :: beat :: more))
          ∧ LaidOut (beat.compose false false) 32 [(0, 1, 32), (1, 1, 6), (2, 1, ((count 5).toNat : Int)), (4, 1, 1), (5, 1, 1),
            (6, 2, (s.frame.nextSeq.toNat : Int))]))
      ∧ (g.firstBeatOf w.base addr = none → exec (.upstreamWriteAccepted b) s = .next (forwardWrite b b.beats { s with
        frame := { s.frame with history := s.frame.history.map fun r =>
          if r.state = .filling ∧ r.buffer < g.buffers ∧ addr ≤ last r.buffer ∧ last r.buffer < addr + 8 * b.beats.length
          then { r with state := .complete } else r } }))

/-- At a frame mark, capture or substitute, the mark number grows by one, and with no METADATA window nothing else of the
writer changes. With one, a record of 64 bytes is composed (LaidOut, by the byte numbers of 11.4): the mark's number and
kind, the tracker state, at a capture mark the new capture record's sequence, buffer and correction and at a substitute mark
0; the timecode before the advance; the position record, F and the link state as they stood before the mark, which for the
link state is the model's reading (log entry 16); the optical demands o16 x P over 16,000, rounded, and the shift enable,
which the link after the mark's settling decides (log entry 41); the modes and pan states, the closed period's segment
counts and clip flags, the drift after its settlement, the newest clip and the ring fill. With no record waiting and a place
in the injected-write queue it joins at the end with tag 15 and the slot the cursor names, and the cursor moves on, from the
last slot to 0; otherwise it becomes the waiting record, a record that still waited being discarded. (R29, R100, R140, R144,
R178, R179, R180, R181, R182, R183, R210) -/
def Obligations.MetadataAtMark : Prop :=
    ∀ (s t : State) (capture : Option CaptureRecord),
      ((exec .frameMarkTimerExpiry s = .next t ∧ capture = none)
        ∨ ∃ g b, captureStart g b s = t ∧ capture.isSome = true ∧ capture = t.frame.history.getLast?) →
      let flag := fun b : Bool => if b then (1 : Int) else 0
      let i := s.lens.identity
      let enable := s.stab.mode == .hybrid && s.stab.optical && t.lens.link.up && i.any fun x => x.shiftX != 0 || x.shiftY != 0
      let demand := fun o : Int => if enable then roundDiv (o * s.stab.pixelPitch) 16000 else 0
      let segments := fun c : Channel => (meterTable.filter fun l => decide (l ≤ (s.audio.outputs.get c).peak)).length
      let clipped := fun c : Channel => flag (s.audio.outputs.get c).clip
      let mark := s.metadata.mark + 1
      let record : List (Nat × Nat × Int) := [(0, 2, (mark.toNat : Int)), (7, 1, flag s.frame.dropFrame),
        (8, 1, (s.frame.timecode.hours : Int)), (9, 1, (s.frame.timecode.minutes : Int)),
        (10, 1, (s.frame.timecode.seconds : Int)), (11, 1, (s.frame.timecode.frames : Int)), (32, 4, (s.lens.focal : Int)),
        (36, 1, (s.lens.link.code : Int)), (37, 1, flag enable), (38, 2, demand t.stab.x.o16), (40, 2, demand t.stab.y.o16),
        (42, 1, (s.stab.mode.code : Int)), (43, 1, (s.stab.x.pan.code : Int)), (44, 1, (s.stab.y.pan.code : Int)),
        (45, 1, (s.gyro.state.code : Int)), (46, 1, (segments .c1 : Int)), (47, 1, (segments .c2 : Int)),
        (48, 1, (segments .c3 : Int)), (49, 1, (segments .c4 : Int)),
        (50, 1, clipped .c1 + 2 * clipped .c2 + 4 * clipped .c3 + 8 * clipped .c4), (51, 1, flag t.audio.driftFlag),
        (52, 2, t.audio.drift), (57, 1, match s.ring with
          | some (size, _) => ((s.record.guarded * 64 / size : Nat) : Int)
          | none => 0)]
        ++ (match capture with
          | some r => [(2, 1, 1), (3, 1, 1), (4, 2, (r.seq.toNat : Int)), (6, 1, (r.buffer : Int)), (12, 2, r.dx),
            (14, 2, r.dy), (16, 1, flag r.limited)]
          | none => [(2, 1, 2), (3, 1, 2)])
        ++ (match s.lens.position with
          | some p => [(17, 1, 1), (18, 2, (p.zoom : Int)), (20, 2, (p.focus : Int)), (22, 2, (p.iris : Int)),
            (24, 2, (p.fNumber : Int)), (26, 2, (p.extender : Int)), (28, 2, p.shiftX), (30, 2, p.shiftY)]
          | none => [])
        ++ (match s.record.clips.getLast? with
          | some c => [(54, 2, (c.number : Int)), (56, 1, (c.state.code : Int))]
          | none => [])
      (s.window .metadata = none → t.metadata = { s.metadata with mark := mark } ∧ t.path.injected = s.path.injected)
      ∧ ∀ w, s.window .metadata = some w → ∃ bytes, LaidOut bytes 64 record
        ∧ (s.metadata.waiting = none → s.path.injected.length < 8 →
          t.path.injected = s.path.injected ++ [{
            kind := .metadata, tag := 15, isMemoryFault := false, addr := w.base + 64 * s.metadata.cursor, bytes := bytes
            slot := none }]
          ∧ t.metadata = { s.metadata with
            mark := mark, cursor := if s.metadata.cursor + 1 < w.size / 64 then s.metadata.cursor + 1 else 0 })
        ∧ ((s.metadata.waiting.isSome = true ∨ 8 ≤ s.path.injected.length) → t.path.injected = s.path.injected
          ∧ t.metadata = { s.metadata with mark := mark, waiting := some { mark := mark, bytes := bytes } })

/-- With a REPORT window, the next slot FREE and a place in the injected-write queue, and no request waiting upstream: the
first report is composed with the current lap and the lost flag, its slot becomes QUEUED, the lost flag is cleared, the next
slot advances and the lap changes past the last slot, and its write, with tag 15, stands behind the report writes queued and
ahead of every metadata write; the place its departure opens goes to the waiting drop report, else to the oldest held
report, in this same step (log entry 20); a held completion that moves the command window replaces entry 0 as it takes the
place (R20). Nothing else changes. With a METADATA window, a waiting record and a place, the record joins at the end with
tag 15 and the slot the cursor names, and the cursor moves on, unless the report unit's report can leave. (R7, R15, R20,
R178, R183, R194, R196, R197) -/
def Obligations.InjectedWritesJoin : Prop :=
    (∀ (s : State) (w : WindowRecord) (r : Report) (rest : List Report) (before behind : List InjectedWrite),
      s.window .report = some w → s.report.queue = r :: rest → rest.length < 16 →
      slotState s.report.slots s.report.nextSlot = none → s.path.injected.length < 8 → s.path.waiting = [] →
      s.path.injected = before ++ behind → (∀ x ∈ before, x.kind ≠ .metadata) → (∀ x ∈ behind, x.kind = .metadata) →
      let last := s.report.nextSlot + 1 ≥ w.size / 32
      let t := { s with
        report := { s.report with
          queue := rest, lost := false
          slots := setSlot s.report.slots s.report.nextSlot .queued
          nextSlot := if last then 0 else s.report.nextSlot + 1
          lap := if last then !s.report.lap else s.report.lap }
        path := { s.path with injected := before ++ {
          kind := r.recordKind, tag := 15, isMemoryFault := r.isMemoryFault
          addr := w.base + 32 * s.report.nextSlot
          bytes := r.compose s.report.lap s.report.lost, slot := some s.report.nextSlot } :: behind } }
      (∀ d, s.report.drop = some d → exec .reportLeavesQueue s = .next { t with report := { t.report with
        drop := none, queue := rest ++ [.event .reportsDropped d.count (.reportsDropped d.kind d.dropped) false] } })
      ∧ (s.report.drop = none → s.command.held = [] → exec .reportLeavesQueue s = .next t)
      ∧ (∀ h later, s.report.drop = none → s.command.held = h :: later → exec .reportLeavesQueue s =
        .next { t with
          command := { t.command with held := later }
          report := { t.report with queue := rest ++ [h] }
          path := { t.path with windows := match h with
            | .completion _ _ _ _ (some moved) => s.path.windows.set 0 (some moved)
            | _ => s.path.windows } }))
    ∧ ∀ (s : State) (m : WaitingMetadata) (w : WindowRecord), s.metadata.waiting = some m → s.window .metadata = some w →
      s.path.injected.length < 8 →
      (reportCanLeave s = false → exec .metadataRecordJoins s = .next { s with
        path := { s.path with injected := s.path.injected ++ [{
          kind := .metadata, tag := 15, isMemoryFault := false,
          addr := w.base + 64 * s.metadata.cursor, bytes := m.bytes, slot := none }] }
        metadata := { s.metadata with
          waiting := none
          cursor := if s.metadata.cursor + 1 < w.size / 64 then s.metadata.cursor + 1 else 0 } })
      ∧ (reportCanLeave s = true → exec .metadataRecordJoins s = .next s)

/-- With a REPORT window, a COMPLETION or STATUS report joins a report queue of fewer than 16 with no report held before it,
and is otherwise held behind the held reports; an event report joins a queue of fewer than 16, and one offered to a full
queue is dropped: the lost flag is set, a waiting drop report counts it, up to 255, and otherwise REPORTS_DROPPED sets
pending, counts, and leaves a drop report of its kind. With no REPORT window a report is discarded, events among them. An
opened place goes to the drop report if one waits, else to the oldest held report. A completion that moves the command
window replaces entry 0 when it is queued or discarded, and not while it is held. Nothing else changes. That an opened place
is given in the step of the departure is the model's reading (log entry 20; InjectedWritesJoin). (R20, R197, R198, R199) -/
def Obligations.ReportPlaces : Prop :=
    ∀ (s : State) (rep : Report), (∀ k c p sw, rep ≠ .event k c p sw) →
      let moved := fun (t : State) => match rep with
        | .completion _ _ _ _ (some w) => { t with path := { t.path with windows := t.path.windows.set 0 (some w) } }
        | _ => t
      (s.window .report = none → offer rep s = moved s ∧ ∀ k c p sw, offer (.event k c p sw) s = s)
      ∧ ((s.window .report).isSome = true → s.report.queue.length < 16 → s.command.held = [] →
        offer rep s = moved { s with report := { s.report with queue := s.report.queue ++ [rep] } })
      ∧ ((s.window .report).isSome = true → (16 ≤ s.report.queue.length ∨ s.command.held ≠ []) →
        offer rep s = { s with command := { s.command with held := s.command.held ++ [rep] } })
      ∧ (∀ (k : EventKind) (c : Byte) (p : EventPayload) (sw : Bool), (s.window .report).isSome = true →
        (s.report.queue.length < 16 → offer (.event k c p sw) s =
          { s with report := { s.report with queue := s.report.queue ++ [.event k c p sw] } })
        ∧ (∀ d, 16 ≤ s.report.queue.length → s.report.drop = some d → offer (.event k c p sw) s =
          { s with report := { s.report with lost := true, drop := some { d with dropped := min 255 (d.dropped + 1) } } })
        ∧ (16 ≤ s.report.queue.length → s.report.drop = none →
          let events := s.report.events.modify 2 fun e => { e with pending := true, count := e.count + 1 }
          offer (.event k c p sw) s = { s with report := { s.report with
            lost := true, events := events
            attn := (events.any fun e => e.pending && !e.masked) && s.report.quietEnd.isNone
            drop := some { kind := k, dropped := 1, count := (events.getD 2 ⟨false, true, 0⟩).count } } }))
      ∧ ((s.window .report).isSome = true → s.report.queue.length < 16 → s.path.waiting = [] →
        (∀ d, s.report.drop = some d → exec .heldReportJoins s = .next { s with report := { s.report with
          drop := none
          queue := s.report.queue ++ [.event .reportsDropped d.count (.reportsDropped d.kind d.dropped) false] } })
        ∧ (∀ rest, s.report.drop = none → s.command.held = rep :: rest → exec .heldReportJoins s = .next (moved { s with
            command := { s.command with held := rest }
            report := { s.report with queue := s.report.queue ++ [rep] } })))

/-- The 32 bytes of a report as it takes its slot, by the byte numbers of 11.2 (LaidOut: each field by its first byte, width
and value, and 0 in every byte that no field names). Byte 0 holds the lap and lost flags, the software-raised flag of an
event, and the kind. A COMPLETION holds status, tag, code and the result, for BIAS CAPTURE the biases and the count, for ACK
EVENT the cleared flag and the count, for STATUS REQUEST the number of reports; a STATUS report the block, the part and the
number of parts, the tag and the items (StatusPartsOfSetup and StatusPartsOfSignals lay them out); an EVENT its kind, its
count and its payload, kind by kind: an absent offset is 0 with its presence bit clear, and the 16 bytes of RAISE EVENT
stand in bytes 4 to 19. That a value wider than its field is written modulo the field's width is the model's reading (log
entries 22 and 47). The codes that stand in these fields, in the STATUS parts and in the metadata record, and that the
commands' fields are read by, are listed first, both ways: the value codes of 11.6, the event kinds by their numbers 1 to
25, engines and channels by theirs, and the command codes; the codes of a capture record's state, of the cadence check and
of a notice stand in 11.2 and 11.5. (R16, R71, R139, R191, R197, R199, R202, R207, R208) -/
def Obligations.ReportBytes : Prop :=
    ((let coded : {α : Type} → List α → (α → Nat) → Prop := fun names code => names.map code = List.range' 1 names.length
      let named : {α : Type} → List α → (α → Nat) → (Nat → Option α) → Prop := fun names code of =>
        (∀ n, of n = if n = 0 then none else names[n - 1]?) ∧ (∀ x, of (code x) = some x)
          ∧ names.map code = List.range' 1 names.length
      named [Role.command, .report, .frame, .record, .audio, .metadata, .pass] Role.code Role.ofCode
      ∧ named [FrameRate.r23976, .r24, .r25, .r2997, .r30, .r50, .r5994, .r60] FrameRate.code FrameRate.ofCode
      ∧ coded [TrackerState.locked, .freeWheel] TrackerState.code
      ∧ named [TimecodeMode.freeRun, .recRun] TimecodeMode.code TimecodeMode.ofCode
      ∧ coded [CaptureState.filling, .complete, .abandoned] CaptureState.code
      ∧ coded [LinkState.absent, .seeking, .online, .degraded] LinkState.code
      ∧ named [Notice.recordButton, .returnButton, .extenderChanged] Notice.code Notice.ofCode
      ∧ named [Axis.zoom, .focus, .iris] Axis.code Axis.ofCode
      ∧ named [Source.rocker, .wheel, .engine .e1, .engine .e2, .engine .e3, .direct, .hold] Source.code Source.ofCode
      ∧ coded [MoveKind.ramp, .dwell, .signal, .wait, .mark] MoveKind.code
      ∧ named [Shape.linear, .eased] Shape.code Shape.ofCode
      ∧ named [EngineId.e1, .e2, .e3] EngineId.number EngineId.ofNumber
      ∧ [EngineId.e1, .e2, .e3].map (fun id => id.bit.toNat) = [1, 2, 4]
      ∧ coded [EngineMode.run, .step] EngineMode.code
      ∧ coded [EngineState.idle, .held, .ramping, .dwelling, .waiting] EngineState.code
      ∧ named [ClockPolarity.idleLow, .idleHigh] ClockPolarity.code ClockPolarity.ofCode
      ∧ named [ClockPhase.leading, .trailing] ClockPhase.code ClockPhase.ofCode
      ∧ coded [PortState.unconfigured, .running, .failed] PortState.code
      ∧ named [StabMode.off, .electronic, .hybrid] StabMode.code StabMode.ofCode
      ∧ coded [PanState.steady, .panning] PanState.code
      ∧ (∀ n, Visibility.ofCode n = if n = 0 then none else [Visibility.always, .recording, .standby, .overrun, .lensLost,
          .stabLimit, .audioOver, .avDrift][n - 1]?)
      ∧ (∀ n, BarSource.ofCode n = if n = 0 then none else [BarSource.audio .c1, .audio .c2, .audio .c3, .audio .c4, .zoom,
          .focus, .ringFill][n - 1]?)
      ∧ named [ZebraMode.off, .above, .band] ZebraMode.code ZebraMode.ofCode
      ∧ coded [OverlayState.shown, .edit, .pending, .free] OverlayState.code
      ∧ named [FlagByteMode.clear, .keep] FlagByteMode.code FlagByteMode.ofCode
      ∧ named [Channel.c1, .c2, .c3, .c4] Channel.number Channel.ofNumber
      ∧ coded [ClipState.armed, .opened, .closing, .closed, .abandoned, .drained, .discarded] ClipState.code
      ∧ coded [RingLevel.low, .ready, .high] RingLevel.code
      ∧ coded [CadenceState.waiting, .running] CadenceState.code
      ∧ named [EventKind.commandOverflow, .commandPartial, .reportsDropped, .memoryFault, .windowStraddle, .frameBeat,
          .captureAbandoned, .lensState, .lensNotice, .linkCollision, .engineDone, .enginePreempted, .engineMark, .gyroState,
          .stabLimit, .panState, .overlaySwapped, .audioClip, .audioMisaligned, .avDrift, .recordState, .recordOverrun,
          .ringLevel, .stampFault, .software] EventKind.number EventKind.ofNumber
      ∧ [Status.done, .clamped, .refusedUnknown, .refusedState, .refusedRange, .refusedFull, .refusedBusy, .aborted].map
        Status.code = [0, 1, 2, 3, 4, 5, 6, 7]
      ∧ commandCodes = [0x0001, 0x0002, 0x0010, 0x0011, 0x0012, 0x0013, 0x0014, 0x0015, 0x0020, 0x0021, 0x0022, 0x0028, 0x0030,
        0x0031, 0x0032, 0x0033, 0x0038, 0x0039, 0x003A, 0x0040, 0x0041, 0x0042, 0x0043, 0x0044, 0x0050, 0x0051, 0x0052, 0x0053,
        0x0054, 0x0060, 0x0061, 0x0062, 0x0063, 0x0070, 0x0071, 0x0072, 0x0073]))
    ∧ ∀ (lap lost : Bool),
      let flag := fun b : Bool => if b then (1 : Int) else 0
      let laid := fun (r : Report) (head : Int) (fields : List (Nat × Nat × Int)) =>
        LaidOut (r.compose lap lost) 32 ((0, 1, flag lap + 2 * flag lost + head) :: fields)
      (∀ (st : Status) (tag code : Half) (m : Option WindowRecord),
        let completion := fun (res : CommandResult) (fields : List (Nat × Nat × Int)) =>
          laid (.completion st tag code res m) 16
            ([(1, 1, (st.code : Int)), (2, 2, (tag.toNat : Int)), (4, 2, (code.toNat : Int))] ++ fields)
        completion .none []
        ∧ (∀ x y count, completion (.bias x y count) [(6, 2, x), (8, 2, y), (10, 2, (count : Int))])
        ∧ (∀ cleared count, completion (.ack cleared count) [(6, 1, flag cleared), (7, 1, (count.toNat : Int))])
        ∧ (∀ n, completion (.statusReports n) [(6, 1, (n : Int))]))
      ∧ (∀ (block part parts : Nat) (tag : Half) (items : List Byte), block ≤ 15 → 1 ≤ part → part ≤ parts → parts ≤ 4 →
        items.length ≤ 28 → laid (.status block part parts tag items) 48
          ([(1, 1, ((block + 16 * (part - 1) + 64 * (parts - 1) : Nat) : Int)), (2, 2, (tag.toNat : Int))]
            ++ (List.range 28).map fun k => (4 + k, 1, ((items.getD k 0).toNat : Int))))
      ∧ ∀ (count : Byte) (sw : Bool),
        let event := fun (k : EventKind) (p : EventPayload) (fields : List (Nat × Nat × Int)) =>
          ((∃ bytes, p = .raw bytes) ∨ p.kind = k) ∧ laid (.event k count p sw) (32 + 4 * flag sw)
            ([(1, 1, (k.number : Int)), (2, 1, (count.toNat : Int))] ++ fields)
        (∀ k bytes, event k (.raw bytes) ((List.range 16).map fun i => (4 + i, 1, ((bytes.getD i 0).toNat : Int))))
        ∧ (∀ code tag, event .commandOverflow (.commandOverflow code tag)
          [(4, 2, (code.toNat : Int)), (6, 2, (tag.toNat : Int))])
        ∧ (∀ pos cause, event .commandPartial (.commandPartial pos cause) [(4, 4, (pos : Int)), (8, 1, match cause with
          | .split => 1
          | .enables => 2)])
        ∧ (∀ k n, event .reportsDropped (.reportsDropped k n) [(4, 1, (k.number : Int)), (5, 1, (n : Int))])
        ∧ (∀ lost, event .memoryFault (.memoryFault lost) [(4, 1, match lost with
          | .completion => 1
          | .event => 2
          | .status => 3
          | .metadata => 4)])
        ∧ (∀ i tag addr, event .windowStraddle (.windowStraddle i tag addr)
          [(4, 1, (i : Int)), (5, 1, (tag.toNat : Int)), (8, 4, (addr : Int))])
        ∧ (∀ st, event .frameBeat (.frameBeat st none) [(4, 1, (st.code : Int))])
        ∧ (∀ st seq, event .frameBeat (.frameBeat st (some seq))
          [(4, 1, (st.code : Int)), (5, 1, 1), (6, 2, (seq.toNat : Int))])
        ∧ (∀ seq b, event .captureAbandoned (.captureAbandoned seq b) [(4, 2, (seq.toNat : Int)), (6, 1, (b : Int))])
        ∧ (∀ st miss changed, event .lensState (.lensState st miss changed)
          [(4, 1, (st.code : Int)), (5, 1, (miss : Int)), (6, 1, flag changed)])
        ∧ (∀ n, event .lensNotice (.lensNotice n) [(4, 1, (n.code : Int))])
        ∧ (∀ k, event .linkCollision (.linkCollision k) [(4, 1, match k with
          | .demand => 0x10
          | .identifyRequest => 0x11)])
        ∧ (∀ id st, event .engineDone (.engineDone id st) [(4, 1, (id.number : Int)), (5, 1, (st.code : Int))])
        ∧ (∀ id axis kind, event .enginePreempted (.enginePreempted id axis kind)
          [(4, 1, (id.number : Int)), (5, 1, (axis.code : Int)), (6, 1, match kind with
            | some k => (k.code : Int)
            | none => 0)])
        ∧ (∀ id v, event .engineMark (.engineMark id v) [(4, 1, (id.number : Int)), (6, 2, (v : Int))])
        ∧ (∀ st, event .gyroState (.gyroState st) [(4, 1, (st.code : Int))])
        ∧ (∀ seq x y, event .stabLimit (.stabLimit seq x y) [(4, 2, (seq.toNat : Int)), (6, 1, flag x), (7, 1, flag y)])
        ∧ (∀ axis pan, event .panState (.panState axis pan) [(4, 1, if axis = .x then 1 else 2), (5, 1, (pan.code : Int))])
        ∧ (∀ slot n frames, event .overlaySwapped (.overlaySwapped slot n frames)
          [(4, 1, (slot : Int)), (5, 1, (n : Int)), (6, 2, (frames.toNat : Int))])
        ∧ (∀ c e, event .audioClip (.audioClip c e) [(4, 1, (c.number : Int)), (5, 1, if e = .positive then 1 else 2)])
        ∧ (∀ addr len n, event .audioMisaligned (.audioMisaligned addr len n)
          [(4, 4, (addr : Int)), (8, 1, (len : Int)), (9, 1, (n : Int))])
        ∧ (∀ drift n expected, event .avDrift (.avDrift drift n expected)
          [(4, 2, drift), (6, 2, (n : Int)), (8, 2, (expected : Int))])
        ∧ (∀ number st start stop stamped dropped, event .recordState (.recordState number st start stop stamped dropped)
          [(4, 2, (number : Int)), (6, 1, (st.code : Int)), (7, 1, flag start.isSome + 2 * flag stop.isSome),
            (8, 4, ((start.getD 0 : Nat) : Int)), (12, 4, ((stop.getD 0 : Nat) : Int)), (16, 4, (stamped : Int)),
            (20, 2, (dropped : Int))])
        ∧ (∀ off number, event .recordOverrun (.recordOverrun off number) [(4, 4, (off : Int)), (8, 2, (number : Int))])
        ∧ (∀ level g, event .ringLevel (.ringLevel level g) [(4, 1, (level.code : Int)), (8, 4, (g : Int))])
        ∧ (∀ off cause, event .stampFault (.stampFault off cause) [(4, 4, (off : Int)), (8, 1, match cause with
          | .shape => 1
          | .length => 2)])

/-- The STATUS reports of blocks 1 to 6, part by part, by the byte numbers of 11.2's STATUS table (LaidOut: each field by
its first byte, width and value, and 0 in every byte that no field names): bytes 0 to 3 name the kind, the block, the part,
the number of parts and the tag. Path unit, two parts for an index of at most 15: the entry or all ones for an empty one,
the queue lengths and the arbiter's count, and the role parameters. Report unit, three: the ring, all ones in bytes 5 and 8
to 19 with no REPORT window, the pending flags and masks, the counts. Frame tracker, two: its settings, and the newest
record with the state of the newest record of each buffer. Lens link, four: the link, the position, the identity, the focal
table; e is all ones with no identity, or with an extender and no position, where no rule gives it a value: the model's
choice (log entry 52). Axis controller, one. Move engines, one each. An absent value is all ones unless the layout gives it
a flag or a code, and is then 0, the model's choice where the table gives no value; that choice, and the reading of the
clause for items that the table names no absence of, are log entry 18. (R39, R60, R82, R190, R192, R208) -/
def Obligations.StatusPartsOfSetup : Prop :=
    ∀ (s : State) (index : Nat) (tag : Half) (lap lost : Bool),
      let flag := fun b : Bool => if b then (1 : Int) else 0
      let laid := fun (block n parts : Nat) (fields : List (Nat × Nat × Int)) =>
        ∃ all items, statusParts block index s = some all ∧ all.length = parts ∧ all[n - 1]? = some items
          ∧ LaidOut ((Report.status block n parts tag items).compose lap lost) 32
            ([(0, 1, flag lap + 2 * flag lost + 48), (1, 1, ((block + 16 * (n - 1) + 64 * (parts - 1) : Nat) : Int)),
              (2, 2, (tag.toNat : Int))] ++ fields)
      let half := fun (pos : Nat) (v : Half) => ((pos, 2, (v.toNat : Int)) : Nat × Nat × Int)
      let clock := fun (pos : Nat) (t : Timecode) => [((pos, 1, (t.hours : Int)) : Nat × Nat × Int),
        (pos + 1, 1, (t.minutes : Int)), (pos + 2, 1, (t.seconds : Int)), (pos + 3, 1, (t.frames : Int))]
      let queues := [((18, 1, (s.path.passQueue.length : Int)) : Nat × Nat × Int), (19, 1, (s.path.injected.length : Int)),
        (20, 1, (s.path.arbiterCount : Int))]
      let events := s.report.events
      let bits := fun f : EventEntry → Bool =>
        (((List.range 25).map fun k => if f (events.getD k ⟨false, false, 0⟩) then 2 ^ k else 0).sum : Nat)
      let l := s.lens
      let sent := fun f : Option TxFrame => match f.map fun x => x.kind with
        | some .demand => (1 : Int)
        | some .identifyRequest => 2
        | none => 0
      let axis := fun (pos : Nat) (a : AxisRecord) => [((pos, 1, (a.source.code : Int)) : Nat × Nat × Int),
        (pos + 1, 2, (a.demand : Int)), (pos + 3, 2, (a.direct : Int))]
      (∀ w, index ≤ 15 → s.entry index = some w →
        laid 1 1 2 ([(4, 1, (index : Int)), (5, 1, (w.role.code : Int)), (6, 1, flag w.enabled), (7, 1, (w.sizeExp : Int)),
          (8, 4, (w.base : Int)), half 12 (w.sets.getD 0 0), half 14 (w.sets.getD 1 0), half 16 (w.sets.getD 2 0)] ++ queues)
        ∧ laid 1 2 2 ([(4, 1, (index : Int)), (5, 1, (w.role.code : Int))] ++ match w.params with
          | .absent => []
          | .frame g => [(18, 1, (g.buffers : Int)), (19, 1, (g.marginY : Int)), (20, 2, (g.width : Int)),
            (22, 2, (g.height : Int)), (24, 2, (g.pitch : Int)), (26, 2, (g.marginX : Int)), (28, 4, (g.stride : Int))]
          | .record q => [(18, 8, (q.marker.toNat : Int)), (26, 1, (q.highWater : Int)), (27, 1, (q.drainLevel : Int)),
            (28, 1, flag q.button), (29, 1, (q.preRoll : Int))]
          | .audio m => [(18, 1, if m = .clear then 1 else 2)]))
      ∧ (index ≤ 15 → s.entry index = none → laid 1 1 2 ([(4, 1, (index : Int)), (5, 13, -1)] ++ queues)
        ∧ laid 1 2 2 [(4, 1, (index : Int)), (5, 27, -1)])
      ∧ laid 2 1 3 ([(4, 1, flag (s.window .report).isSome), (6, 1, flag s.report.lost), (7, 1, flag s.report.drop.isSome),
        (20, 1, (s.report.queue.length : Int)), (21, 1, (((s.report.drop.map fun d => d.dropped).getD 0 : Nat) : Int)),
        (22, 1, (s.command.queue.length : Int)), (23, 1, flag s.report.attn), (24, 1, flag s.report.quietEnd.isSome)]
        ++ match s.window .report with
          | some w => [(5, 1, flag s.report.lap), (8, 4, ((w.size / 32 : Nat) : Int)), (12, 4, (s.report.nextSlot : Int)),
            (16, 4, ((w.size / 32 - s.report.slots.length : Nat) : Int))]
          | none => [(5, 1, -1), (8, 12, -1)])
      ∧ (events.length = 25 → laid 2 2 3 [(4, 4, (bits fun e => e.pending : Int)), (8, 4, (bits fun e => e.masked : Int))]
        ∧ laid 2 3 3 ((List.range 25).map fun k => (4 + k, 1, ((events.getD k ⟨false, false, 0⟩).count.toNat : Int))))
      ∧ laid 3 1 2 ([(4, 1, (s.frame.tracker.code : Int)), (5, 1, (s.frame.rate.code : Int)), (6, 1, flag s.frame.dropFrame),
        (7, 1, (s.frame.mode.code : Int)), (12, 1, flag (s.window .frame).isSome), (13, 1, (s.frame.history.length : Int)),
        half 14 s.frame.nextSeq] ++ clock 8 s.frame.timecode)
      ∧ laid 3 2 2 (((List.range 4).map fun b => (28 + b, 1, match (s.frame.history.filter fun r => r.buffer == b).getLast? with
          | some r => (r.state.code : Int)
          | none => 0)) ++ match s.frame.history.getLast? with
          | some r => [half 4 r.seq, (6, 1, (r.buffer : Int)), (7, 1, (r.state.code : Int)), (8, 2, r.dx), (10, 2, r.dy),
            (12, 1, flag r.limited), (17, 1, flag r.dropFrame), (18, 1, flag r.lens.isSome)] ++ clock 13 r.timecode
            ++ (match r.lens with
              | some q => [(20, 2, (q.zoom : Int)), (22, 2, (q.focus : Int)), (24, 2, (q.iris : Int)),
                (26, 2, (q.extender : Int))]
              | none => [])
          | none => [(4, 24, -1)])
      ∧ laid 4 1 4 [(4, 1, (l.link.code : Int)), (5, 1, flag l.enable), (6, 1, (l.miss : Int)), (7, 1, flag l.identity.isSome),
        (8, 1, flag l.position.isSome), (9, 1, sent l.waiting), (10, 1, sent l.sending), (11, 1, flag l.window.isSome),
        (12, 4, (l.focal : Int)), (16, 2, match l.identity, l.position with
          | some i, some q => if i.extender then (q.extender : Int) else 100
          | some i, none => if i.extender then -1 else 100
          | none, _ => -1)]
      ∧ laid 4 2 4 (match l.position with
        | some q => [(4, 2, (q.zoom : Int)), (6, 2, (q.focus : Int)), (8, 2, (q.iris : Int)), (10, 2, (q.fNumber : Int)),
          (12, 2, q.shiftX), (14, 2, q.shiftY), (16, 2, (q.extender : Int)), (18, 1, q.rocker), (19, 2, (q.wheel : Int)),
          (21, 1, (q.status.toNat : Int))]
        | none => [(4, 18, -1)])
      ∧ laid 4 3 4 (match l.identity with
        | some i => ((List.range 12).map fun k => (4 + k, 1, ((i.name.getD k 0).toNat : Int))) ++ [(16, 2, (i.zoomMin : Int)),
          (18, 2, (i.zoomMax : Int)), (20, 2, (i.focusMin : Int)), (22, 2, (i.focusMax : Int)), (24, 2, (i.irisMin : Int)),
          (26, 2, (i.irisMax : Int)), (28, 2, (i.shiftX : Int)), (30, 2, (i.shiftY : Int))]
        | none => [(4, 28, -1)])
      ∧ laid 4 4 4 (match l.identity with
        | some i => ((List.range 9).map fun k => (4 + 3 * k, 3, ((i.focal.getD k 0 : Nat) : Int))) ++ [(31, 1, flag i.extender)]
        | none => [(4, 28, -1)])
      ∧ laid 5 1 1 (axis 4 s.axis.zoom ++ axis 9 s.axis.focus ++ axis 14 s.axis.iris ++ [(19, 1, (s.axis.deadband : Int)),
        (20, 2, (s.axis.vmax : Int)), (22, 2, (s.axis.trim : Int)), (24, 1, flag s.axis.zoomTakeover),
        (25, 1, flag s.axis.focusTakeover), (26, 2, (s.axis.wheelThreshold : Int)), (28, 1, flag s.axis.wheelRef.isSome),
        (29, 2, ((s.axis.wheelRef.getD 0 : Nat) : Int))])
      ∧ ∀ id : EngineId,
        let g := s.engines.get id
        laid 6 id.number 3 ([(4, 1, (g.state.code : Int)), (5, 1, (g.mode.code : Int)),
        (6, 1, if s.axis.zoom.source = .engine id then 1 else if s.axis.focus.source = .engine id then 2
          else if s.axis.iris.source = .engine id then 3 else 0),
        (7, 1, (g.received.toNat : Int)), (8, 2, (g.output : Int)), (10, 1, (g.queue.length : Int))] ++ match g.move with
          | some (.ramp start target n shape k) => [(11, 1, 1), (12, 2, (start : Int)), (14, 2, (target : Int)),
            (16, 2, (n : Int)), (18, 2, (k : Int)), (20, 1, (shape.code : Int))]
          | some (.dwell n k) => [(11, 1, 2), (16, 2, (n : Int)), (18, 2, (k : Int))]
          | some (.wait set) => [(11, 1, 4), (21, 1, (set.toNat : Int))]
          | none => [])

/-- The STATUS reports of blocks 7 to 12, part by part, by the byte numbers of 11.2's STATUS table (LaidOut, as in
StatusPartsOfSetup). Gyro port, one: its setup, the last good rates with their flag, the runs. Stabiliser, four: the mode
and the capture, the settings of both axes in the layout of STAB SETUP, and one part an axis. Overlay unit, two: slots,
count, zebra and holds, then the palette. Audio unit, four: the routes and settings, the outputs two by two, the cadence
check. Record tracker, four: the ring setup, all ones in bytes 5 to 8 and 12 to 23 with no RECORD window, the cursors and
the newest clip, and the clip records two by two, a field with its presence bit clear 0 and a record the list does not hold
all 0. Metadata writer, one: its number of slots is 0 with no METADATA window, the model's choice (log entry 18). An absent
value is all ones unless the layout gives it a flag, and is then 0, the model's choice where the table gives no value (log
entry 18). The period count is written modulo 65,536 (log entry 47). (R104, R127, R148, R174, R185, R190, R192, R208) -/
def Obligations.StatusPartsOfSignals : Prop :=
    ∀ (s : State) (index : Nat) (tag : Half) (lap lost : Bool),
      let flag := fun b : Bool => if b then (1 : Int) else 0
      let laid := fun (block n parts : Nat) (fields : List (Nat × Nat × Int)) =>
        ∃ all items, statusParts block index s = some all ∧ all.length = parts ∧ all[n - 1]? = some items
          ∧ LaidOut ((Report.status block n parts tag items).compose lap lost) 32
            ([(0, 1, flag lap + 2 * flag lost + 48), (1, 1, ((block + 16 * (n - 1) + 64 * (parts - 1) : Nat) : Int)),
              (2, 2, (tag.toNat : Int))] ++ fields)
      let half := fun (pos : Nat) (v : Half) => ((pos, 2, (v.toNat : Int)) : Nat × Nat × Int)
      let absent := fun v : Option Nat => match v with
        | some x => (x : Int)
        | none => -1
      let g := s.gyro
      let t := s.stab
      let settings := fun (pos : Nat) (x : StabSettings) => [((pos, 2, (x.gain : Int)) : Nat × Nat × Int),
        (pos + 2, 1, if x.negative then -1 else 1), (pos + 3, 2, (x.leakSteady : Int)), (pos + 5, 2, (x.leakPan : Int)),
        (pos + 7, 2, (x.panThreshold : Int)), (pos + 9, 1, (x.panEnter : Int)), (pos + 10, 1, (x.panExit : Int))]
      let stab := fun a : StabAxis => [((4, 2, a.bias) : Nat × Nat × Int), (6, 4, a.acc), (10, 1, (a.pan.code : Int)),
        (11, 1, (a.panRun : Int)), (12, 4, a.corr16), (16, 4, a.o16), (20, 4, a.a16), (24, 4, a.e16)]
      let o := s.overlay
      let slot := fun (pos : Nat) (x : OverlaySlot) =>
        [((pos, 1, (x.state.code : Int)) : Nat × Nat × Int), (pos + 1, 1, (x.list.length : Int))]
      let u := s.audio
      let route := fun (pos : Nat) (c : Channel) =>
        let q := (u.outputs.get c).route
        [((pos, 1, (q.source.number : Int)) : Nat × Nat × Int), (pos + 1, 2, q.gain.getD (-32768)),
          (pos + 3, 1, flag q.limiter)]
      let output := fun (pos : Nat) (c : Channel) =>
        let q := u.outputs.get c
        [((pos, 2, (q.r : Int)) : Nat × Nat × Int), (pos + 2, 3, (q.peak : Int)), (pos + 5, 1, flag q.clip),
          (pos + 6, 1, (q.displayed : Int)), (pos + 7, 1, (q.decay : Int)),
          (pos + 8, 1, (q.held : Int)), (pos + 9, 1, (q.hold : Int))]
      let r := s.record
      let clip := fun (pos k : Nat) => match r.clips[k]? with
        | some c => [((pos, 2, (c.number : Int)) : Nat × Nat × Int), (pos + 2, 1, (c.state.code : Int)),
          (pos + 3, 1, flag c.start.isSome + 2 * flag c.stop.isSome + 4 * flag c.stopSeq.isSome),
          (pos + 4, 4, ((c.start.getD 0 : Nat) : Int)), (pos + 8, 4, ((c.stop.getD 0 : Nat) : Int)),
          half (pos + 12) (c.stopSeq.getD 0)]
        | none => []
      let m := s.metadata
      laid 7 1 1 ([(4, 1, (g.state.code : Int)), (5, 2, (g.setup.clockKHz : Int)), (7, 1, (g.setup.polarity.code : Int)),
        (8, 1, (g.setup.phase.code : Int)), (9, 2, (g.setup.sampleRate : Int)), (11, 1, (g.setup.command.toNat : Int)),
        (12, 1, (g.setup.validMask.toNat : Int)), (13, 1, (g.setup.validValue.toNat : Int)), (14, 1, flag g.last.isSome),
        (19, 1, (g.badRun : Int)), (20, 1, (g.goodRun : Int)), (21, 1, flag g.transaction)] ++ match g.last with
          | some v => [(15, 2, v.1), (17, 2, v.2)]
          | none => [])
      ∧ laid 8 1 4 [(4, 1, (t.mode.code : Int)), (5, 2, (t.pixelPitch : Int)), (7, 1, flag t.optical), (8, 1, flag t.limited),
        (9, 1, flag t.capture.isSome), (10, 1, (((t.capture.map fun c => c.count).getD 0 : Nat) : Int))]
      ∧ laid 8 2 4 (settings 4 t.x.settings ++ settings 15 t.y.settings) ∧ laid 8 3 4 (stab t.x) ∧ laid 8 4 4 (stab t.y)
      ∧ laid 9 1 2 (slot 4 o.s0 ++ slot 6 o.s1 ++ slot 8 o.s2 ++ [half 10 o.frameCount, (12, 1, (o.zebra.mode.code : Int)),
        (13, 1, (o.zebra.level.toNat : Int)), (14, 1, (o.zebra.low.toNat : Int)), (15, 1, (o.zebra.high.toNat : Int)),
        (16, 1, (o.zebra.luma.toNat : Int)), (17, 1, (o.overrunHold : Int)), (18, 1, (o.clipHold : Int))])
      ∧ (o.palette.length = 8 → laid 9 2 2 ((List.range 8).flatMap fun k =>
        let c := o.palette.getD k ⟨0, 0, 0⟩
        [(4 + 3 * k, 1, (c.luma.toNat : Int)), (5 + 3 * k, 1, (c.cb.toNat : Int)), (6 + 3 * k, 1, (c.cr.toNat : Int))]))
      ∧ laid 10 1 4 (route 4 .c1 ++ route 8 .c2 ++ route 12 .c3 ++ route 16 .c4 ++ [(20, 4, (u.threshold : Int)),
        (24, 2, (u.release : Int)), (26, 1, (u.decayInterval : Int)), (27, 1, (u.holdTime : Int)),
        (28, 2, (u.tolerance : Int))])
      ∧ laid 10 2 4 (output 4 .c1 ++ output 14 .c2) ∧ laid 10 3 4 (output 4 .c3 ++ output 14 .c4)
      ∧ laid 10 4 4 [(4, 1, (u.cadence.code : Int)), (5, 2, (u.count : Int)), (7, 1, (u.phase : Int)), (8, 2, u.drift),
        (10, 1, flag u.driftFlag)]
      ∧ laid 11 1 4 ([(10, 2, (r.nextClip : Int)), (24, 1, (r.timecode.hours : Int)), (25, 1, (r.timecode.minutes : Int)),
        (26, 1, (r.timecode.seconds : Int)), (27, 1, (r.timecode.frames : Int)), (28, 1, flag s.frame.dropFrame)]
        ++ match s.ring with
          | some (size, q) => [(4, 1, 1), (5, 1, (q.highWater : Int)), (6, 1, (q.drainLevel : Int)), (7, 1, flag q.button),
            (8, 1, (q.preRoll : Int)), (12, 4, (size : Int)), (16, 8, (q.marker.toNat : Int))]
          | none => [(5, 4, -1), (12, 12, -1)])
      ∧ laid 11 2 4 [(4, 4, absent r.writeEnd), (8, 4, absent r.drain), (12, 4, (r.guarded : Int)),
        (16, 1, (r.level.code : Int)), (17, 1, flag r.episode.isSome), (18, 4, ((r.episode.getD 0 : Nat) : Int)),
        (22, 2, (r.index.length : Int)),
        (24, 4, absent (r.clips.getLast?.map fun c => c.stamped)), (28, 2, absent (r.clips.getLast?.map fun c => c.dropped))]
      ∧ laid 11 3 4 (clip 4 0 ++ clip 18 1) ∧ laid 11 4 4 (clip 4 2 ++ clip 18 3)
      ∧ laid 12 1 1 [(4, 1, flag (s.window .metadata).isSome), (5, 1, flag m.waiting.isSome), half 6 m.mark,
        half 8 ((m.waiting.map fun w => w.mark).getD 0),
        (12, 4, ((((s.window .metadata).map fun w => w.size / 64).getD 0 : Nat) : Int)), (16, 4, (m.cursor : Int))]

/-- The sample timer begins a transaction and is set one period on; the sample event comes 57 clock periods after its expiry
(log entry 43). GSEL is low during it, and GCLK leaves its idle level between the two edges of each of 56 clock periods, the
first edge half a period after GSEL goes low. GDO sends the command byte, most significant bit first, and is then low; each
bit goes out half a period before its sampling edge, the first edge in LEADING and the second in TRAILING phase, the first
bit of LEADING as GSEL goes low (log entry 57). Between transactions GSEL is high, GCLK idle and GDO low, in every port
state (log entry 57). The six bytes are GDI's levels at the sampling edges of the 48 periods after the command byte's. A
good sample passes both tests and becomes the last good one; a bad one carries the last good rates, or none, and then r is
0. In RUNNING each axis counts its pan run, changes its pan state with PAN_STATE, x before y (log entry 39), and integrates
with the leak of the new state; a bad sample adds to the bad run, and the sixteenth makes the port FAILED with GYRO_STATE: r
is 0, both runs are 0, a capture ends ABORTED, and the leak is c_pan. In FAILED pan states and runs are kept, and the
sixteenth good sample in a row makes the port RUNNING and integrates as RUNNING. A capture collects good samples; its 256th
ends it DONE with both sums over 256, rounded, as biases, used from the next sample; an axis entering PANNING, its PAN_STATE
first (the model's choice, log entry 51), ends it ABORTED with the biases in force and the count, before the PAN_STATE of y
where both change (log entry 39). (R87, R88, R89, R90, R91, R92, R94, R212) -/
def Obligations.SampleEvents : Prop :=
    ∀ (s : State) (gdi : GdiLevels) (q : Nat), s.gyro.timer = some q →
      let period := 8 * (if s.gyro.setup.sampleRate = 2000 then 13500 else 27000)
      (s.gyro.state ≠ .unconfigured → exec .sampleTimerExpiry s = .next { s with now := max s.now q, gyro := { s.gyro with
        transaction := true, timer := some (q + period) } })
      ∧ (let idle := s.gyro.state ≠ .unconfigured && s.gyro.setup.polarity = .idleHigh
        let gone := fun halves : Nat =>
          (q - period) * s.gyro.setup.clockKHz + halves * (8 * 13500) ≤ s.now * s.gyro.setup.clockKHz
        let edge := if s.gyro.setup.phase = .leading then 1 else 2
        (s.gyro.transaction = false → (s.gyro.gsel, s.gyro.gclk s.now, s.gyro.gdo s.now) = (true, idle, false))
        ∧ (s.gyro.transaction = true → s.gyro.gsel = false
          ∧ (∀ k, k < 56 → (gone (2 * k) → ¬ gone (2 * k + 1) → s.gyro.gclk s.now = idle)
            ∧ (gone (2 * k + 1) → ¬ gone (2 * k + 2) → s.gyro.gclk s.now = !idle))
          ∧ (gone 112 → s.gyro.gclk s.now = idle)
          ∧ (∀ k, k < 8 → gone (2 * k + edge - 1) → ¬ gone (2 * k + edge + 1) →
            s.gyro.gdo s.now = s.gyro.setup.command.getLsbD (7 - k))
          ∧ (gone (15 + edge) → s.gyro.gdo s.now = false)))
      ∧ (s.gyro.transaction = true →
        let read := fun k : Nat => (match s.gyro.setup.phase with
          | .leading => gdi.atFirst
          | .trailing => gdi.atSecond).extractLsb' (8 * (5 - k)) 8
        let good := read 5 == (read 0 ^^^ read 1 ^^^ read 2 ^^^ read 3 ^^^ read 4)
          && (read 0 &&& s.gyro.setup.validMask) == s.gyro.setup.validValue
        let yaw := signed 16 ((read 1).toNat + 256 * (read 2).toNat)
        let pitch := signed 16 ((read 3).toNat + 256 * (read 4).toNat)
        let last := if good then some (yaw, pitch) else s.gyro.last
        let rx := (last.map fun v => v.1 - s.stab.x.bias).getD 0
        let ry := (last.map fun v => v.2 - s.stab.y.bias).getD 0
        let pan := fun (r : Int) (a : StabAxis) => match a.pan with
          | .steady =>
            let run := if a.settings.panThreshold < r.natAbs then a.panRun + 1 else 0
            if a.settings.panEnter ≤ run then { a with pan := .panning, panRun := 0 } else { a with panRun := run }
          | .panning =>
            let run := if 2 * r.natAbs < a.settings.panThreshold then a.panRun + 1 else 0
            if a.settings.panExit ≤ run then { a with pan := .steady, panRun := 0 } else { a with panRun := run }
        let add := fun (r : Int) (c : Nat) (a : StabAxis) =>
          { a with acc := max (-16777215) (min 16777215 (a.acc + r * a.settings.gain - truncDiv (a.acc * c) 65536)) }
        let leak := fun a : StabAxis => if a.pan = .steady then a.settings.leakSteady else a.settings.leakPan
        let x := pan rx s.stab.x
        let y := pan ry s.stab.y
        let x' := add rx (leak x) x
        let y' := add ry (leak y) y
        let report := fun (axis : ImageAxis) (before after : PanState) (t : State) =>
          if before = after then t else raiseEvent (.panState axis after) t
        let ended := fun (st : Status) (count : Nat) (tag : Half) (biasX biasY : Int) (t : State) =>
          offer (.completion st tag 0x0043 (.bias biasX biasY count) none) t
        let port := fun (g : GyroPort) (stab : Stabiliser) => { s with
          now := max s.now (q - period + (57 * (8 * 27000) + s.gyro.setup.clockKHz - 1) / s.gyro.setup.clockKHz)
          gyro := { g with last := last, transaction := false }, stab := stab }
        let faded := fun a : StabAxis => add 0 a.settings.leakPan { a with panRun := 0 }
        let kept := fun a : StabAxis => add 0 a.settings.leakPan a
        let answers := fun t : State => exec (.sampleEvent gdi) s = .next t
        let run := { s.gyro with badRun := if good then 0 else s.gyro.badRun + 1 }
        (s.gyro.state = .running → (good = true ∨ s.gyro.badRun < 15) →
          (s.stab.capture = none → answers (report .y s.stab.y.pan y.pan (report .x s.stab.x.pan x.pan
            (port run { s.stab with x := x', y := y' }))))
          ∧ (∀ c, s.stab.capture = some c → (good = true → c.count < 255) →
            let collected := if good then { c with
              count := c.count + 1, sumX := c.sumX + yaw, sumY := c.sumY + pitch } else c
            let entersX := s.stab.x.pan = .steady ∧ x.pan = .panning
            let entersY := s.stab.y.pan = .steady ∧ y.pan = .panning
            let closed := port run { s.stab with x := x', y := y', capture := none }
            let aborted := ended .aborted collected.count c.tag s.stab.x.bias s.stab.y.bias
            (¬ entersX → ¬ entersY → answers (report .y s.stab.y.pan y.pan (report .x s.stab.x.pan x.pan
              (port run { s.stab with x := x', y := y', capture := some collected }))))
            ∧ (entersX → answers (report .y s.stab.y.pan y.pan (aborted (raiseEvent (.panState .x .panning) closed))))
            ∧ (¬ entersX → entersY →
              answers (aborted (raiseEvent (.panState .y .panning) (report .x s.stab.x.pan x.pan closed)))))
          ∧ (∀ c, s.stab.capture = some c → good = true → 255 ≤ c.count →
            let biasX := roundDiv (c.sumX + yaw) 256
            let biasY := roundDiv (c.sumY + pitch) 256
            answers (report .y s.stab.y.pan y.pan (report .x s.stab.x.pan x.pan (ended .done 256 c.tag biasX biasY
              (port run { s.stab with x := { x' with bias := biasX }, y := { y' with bias := biasY }, capture := none }))))))
        ∧ (s.gyro.state = .running → good = false → 15 ≤ s.gyro.badRun →
          let failed := raiseEvent (.gyroState .failed) (port { s.gyro with state := .failed, badRun := 0 }
            { s.stab with x := faded s.stab.x, y := faded s.stab.y, capture := none })
          (s.stab.capture = none → answers failed)
          ∧ (∀ c, s.stab.capture = some c → answers (ended .aborted c.count c.tag s.stab.x.bias s.stab.y.bias failed)))
        ∧ (s.gyro.state = .failed → s.stab.capture = none →
          (good = false → answers (port { s.gyro with goodRun := 0 } { s.stab with x := kept s.stab.x, y := kept s.stab.y }))
          ∧ (good = true → s.gyro.goodRun < 15 →
            answers (port { s.gyro with goodRun := s.gyro.goodRun + 1 }
              { s.stab with x := kept s.stab.x, y := kept s.stab.y }))
          ∧ (good = true → 15 ≤ s.gyro.goodRun → answers (report .y s.stab.y.pan y.pan (report .x s.stab.x.pan x.pan
            (raiseEvent (.gyroState .running) (port { s.gyro with state := .running, goodRun := 0 }
              { s.stab with x := x', y := y' })))))))

/-- A start bit of the lens's that falls on an idle line stands on it until its character ends, one byte time later at the
earliest; no character ends without one, and none falls while one stands, on a line not yet high, or while the part drives a
frame. A character that ends leaves the line high, or low where its stop bit was read low until the line returns high; idle
time counts from there. While hunting, SYNC begins assembly at its start bit and any other character is discarded. While
assembling, TYPE, a LEN of at most 64 and the payload are collected in order. A parity error or a low stop bit, a LEN above
64, a CHECK that does not make the sum 0, and a gap of more than 2 byte times abandon the frame: the receiver hunts again; a
provisional identity goes when its 2 ms are over or the frame was a POSITION that began within them, and stays until then
for a frame whose TYPE was not read, the model's choice (log entry 56); and a reply window that the frame's start lies in
and whose 2 ms are over closes with a missed cycle, as in LensTimersExpire. A discarded character does so too: one kept for
it as a possible SYNC is kept no more (log entry 54). Nothing else changes but the line and the clock. The gap is over one
clock unit past 2 byte times, and a start at the very end counts as within the 2 ms (log entry 32); where a start bit may
fall is the model's reading (log entry 53). (R43, R45, R47, R51, R54) -/
def Obligations.LensCharactersCollected : Prop :=
    ∀ s : State,
      let drives := fun id => s.axis.zoom.source = .engine id ∨ s.axis.focus.source = .engine id
        ∨ s.axis.iris.source = .engine id
      let hold := fun (id : EngineId) (g : Engine) => if drives id then { g with state := .held } else g
      let missed := fun (at_ : Nat) (t : State) =>
        match s.lens.link with
        | .online => raiseEvent (.lensState .degraded (s.lens.miss + 1) false) { t with
            lens := { t.lens with window := none, miss := s.lens.miss + 1, link := .degraded } }
        | .degraded =>
          if s.lens.miss < 7 then { t with lens := { t.lens with window := none, miss := s.lens.miss + 1 } }
          else raiseEvent (.lensState .seeking 0 false) { t with
            lens := { t.lens with
              window := none, miss := 0, link := .seeking, seek := some at_
              waiting := s.lens.waiting.filter fun f => f.kind == .identifyRequest
              sending := s.lens.sending.map fun f => if f.kind = .demand then { f with live := false } else f }
            engines := ⟨hold .e1 s.engines.e1, hold .e2 s.engines.e2, hold .e3 s.engines.e3⟩ }
        | _ => t
      let closes := fun (start at_ : Nat) (t : State) => match s.lens.window with
        | some w => if w.opens ≤ start ∧ start ≤ w.closes ∧ w.closes ≤ at_ then missed at_ t else t
        | none => t
      let ended := fun (a : Assembly) (at_ : Nat) (t : State) =>
        let stays := fun q : Provisional =>
          decide (at_ < q.deadline) && !(a.bytes.head? == some 0x20 && decide (a.start ≤ q.deadline))
        closes a.start at_ { t with lens := { t.lens with provisional := s.lens.provisional.filter stays } }
      (∀ (c : LineChar) (last : Nat), s.lens.charStart = some last →
        let at_ := charTime last s
        let hears := fun (rx : Option Assembly) =>
          exec (.lensCharacterReceived (.character c)) s = .next (afterCharacter last c rx s)
        let abandons := fun a : Assembly =>
          exec (.lensFrameAbandoned (.char c)) s = .next (ended a at_ (afterCharacter last c none s))
        (s.lens.rx = none →
          (LineCharBad c = false → c.data = 0xA5 → hears (some { start := last, bytes := [] }))
          ∧ ((LineCharBad c = true ∨ c.data ≠ 0xA5) →
            let u := afterCharacter last c none s
            exec (.lensCharacterReceived (.character c)) s = .next (closes last at_ { u with lens := { u.lens with
              provisional := s.lens.provisional.filter fun q => decide (at_ < q.deadline) } })))
        ∧ (∀ start, s.lens.rx = some { start := start, bytes := [] } → LineCharBad c = false →
          hears (some { start := start, bytes := [c.data] }))
        ∧ (∀ start ty, s.lens.rx = some { start := start, bytes := [ty] } → LineCharBad c = false →
          (c.data.toNat ≤ 64 → hears (some { start := start, bytes := [ty, c.data] }))
          ∧ (64 < c.data.toNat → abandons { start := start, bytes := [ty] }))
        ∧ (∀ start ty len payload, s.lens.rx = some { start := start, bytes := ty :: len :: payload } →
          LineCharBad c = false →
          (payload.length < len.toNat → hears (some { start := start, bytes := ty :: len :: payload ++ [c.data] }))
          ∧ (len.toNat ≤ payload.length → sumBytes (ty :: len :: payload ++ [c.data]) ≠ 0 →
            abandons { start := start, bytes := ty :: len :: payload }))
        ∧ (∀ a, s.lens.rx = some a → LineCharBad c = true → abandons a))
      ∧ (s.lens.charStart = none → ∀ c, exec (.lensCharacterReceived (.character c)) s = .next s
        ∧ exec (.lensFrameAbandoned (.char c)) s = .next s)
      ∧ (∀ a, s.lens.rx = some a → s.lens.sending = none → s.lens.charStart = none →
        let end_ := max s.now (s.lens.lineSince + 2 * byteTime + 1)
        exec (.lensFrameAbandoned .gap) s = .next (ended a end_ { s with now := end_, lens := { s.lens with rx := none } }))
      ∧ (s.lens.charStart = none → s.lens.lineLow = false → s.lens.sending = none →
        let falls := max s.now s.lens.lineSince
        let stands := fun t : State => { t with lens := { t.lens with charStart := some falls } }
        ((∀ a, s.lens.rx = some a → falls ≤ s.lens.lineSince + 2 * byteTime) →
          exec (.lensCharacterReceived .startBit) s = .next (stands { s with now := falls }))
        ∧ (∀ a, s.lens.rx = some a → s.lens.lineSince + 2 * byteTime < falls →
          exec (.lensCharacterReceived .startBit) s =
            .next (stands (ended a falls { s with now := falls, lens := { s.lens with rx := none } }))))
      ∧ ((s.lens.charStart.isSome = true ∨ s.lens.lineLow = true) → s.lens.sending = none →
        exec (.lensCharacterReceived .startBit) s = .next s)
      ∧ (∀ f, s.lens.sending = some f → s.now < s.lens.sentAt + f.bytes.length * byteTime →
        exec (.lensCharacterReceived .startBit) s = .next s)
      ∧ (∀ f t, s.lens.sending = some f → s.lens.sentAt + f.bytes.length * byteTime ≤ s.now →
        exec .lensFrameComplete s = .next t →
        exec (.lensCharacterReceived .startBit) s = exec (.lensCharacterReceived .startBit) t)
      ∧ (s.lens.lineLow = true → exec (.lensCharacterReceived .returnsHigh) s = .next { s with
        now := max s.now s.lens.lineSince
        lens := { s.lens with lineLow := false, lineSince := max s.now s.lens.lineSince } })
      ∧ (s.lens.lineLow = false → exec (.lensCharacterReceived .returnsHigh) s = .next s)

/-- A received frame of type 0x20 with a payload of 18 bytes is a POSITION, its fields at the byte positions of 11.5, stored
as received but for an extender below 100, stored as 100, one above 400, stored as 400, and a rocker of −128, stored as
−127. One of type 0x21 with 56 bytes is an IDENTITY when no axis has its minimum above its maximum, with the name's 12
bytes, the limits, the nine focal table entries of 3 bytes, the shift ranges, one above 32,767 stored as 32,767, and the
extender flag, yes for any byte but 0. One of type 0x22 with 1 byte is a NOTICE when the byte is 1, 2 or 3. Every other
frame is discarded: one of any other type, with a payload of another length, an IDENTITY with a minimum above its maximum,
and a NOTICE that names none. F at a zoom of z is T[i] + trunc((T[i + 1] − T[i]) x f / 8,192) with i = z div 8,192 and f = z
mod 8,192, times the extender percent over 100, truncated, or times 1 for an identity without extender. (R44, R45, R46, R57,
R58, R211) -/
def Obligations.LensFramesRead : Prop :=
    (∀ (ty : Byte) (p : List Byte),
      let byte := fun k : Nat => (p.getD k 0).toNat
      let two := fun k : Nat => byte k + 256 * byte (k + 1)
      let twos := fun k : Nat => if two k < 32768 then (two k : Int) else (two k : Int) - 65536
      let position : Position := {
        zoom := two 0, focus := two 2, iris := two 4, fNumber := two 6, shiftX := twos 8, shiftY := twos 10
        extender := if two 12 < 100 then 100 else if 400 < two 12 then 400 else two 12
        rocker := if byte 14 < 128 then (byte 14 : Int) else if byte 14 = 128 then -127 else (byte 14 : Int) - 256
        wheel := two 15, status := p.getD 17 0 }
      let identity : Identity := {
        name := p.take 12, zoomMin := two 12, zoomMax := two 14, focusMin := two 16, focusMax := two 18
        irisMin := two 20, irisMax := two 22
        focal := (List.range 9).map fun i => two (24 + 3 * i) + 65536 * byte (26 + 3 * i)
        shiftX := min 32767 (two 51), shiftY := min 32767 (two 53), extender := byte 55 != 0 }
      let ordered := two 12 ≤ two 14 ∧ two 16 ≤ two 18 ∧ two 20 ≤ two 22
      (ty = 0x20 → p.length = 18 → classifyFrame ty p = .position position)
      ∧ (ty = 0x21 → p.length = 56 → ordered → classifyFrame ty p = .identity identity)
      ∧ (ty = 0x22 → p = [1] → classifyFrame ty p = .notice .recordButton)
      ∧ (ty = 0x22 → p = [2] → classifyFrame ty p = .notice .returnButton)
      ∧ (ty = 0x22 → p = [3] → classifyFrame ty p = .notice .extenderChanged)
      ∧ ((ty = 0x20 → p.length ≠ 18) → (ty = 0x21 → p.length ≠ 56 ∨ ¬ ordered) →
        (ty = 0x22 → p ≠ [1] ∧ p ≠ [2] ∧ p ≠ [3]) → classifyFrame ty p = .discarded))
    ∧ ∀ (i : Identity) (p : Position),
      let table := fun k : Nat => (i.focal.getD k 0 : Int)
      let k := p.zoom / 8192
      let bare := table k + Int.tdiv ((table (k + 1) - table k) * (p.zoom % 8192 : Nat)) 8192
      (focalLength i p : Int) = if i.extender = true then Int.tdiv (bare * p.extender) 100 else bare

/-- A POSITION that completes with no identity reply open, or starts after the 2 ms of one. A provisional identity still
held is then dropped, its 2 ms being over, and completes nothing (R51). In ONLINE it becomes the position record, the miss
count becomes 0, F is recomputed from a stored identity, and a reply window that its start lies in closes; a start at the
very end of the 2 ms counts as within them, which is the model's choice (log entry 32). In DEGRADED it does the same, the
link becomes ONLINE and LENS_STATE is raised. In SEEKING and ABSENT it is discarded. Nothing else changes but the receiver,
the line's times and the clock. LensFramesRead spells which frames are POSITIONs, what they hold and F. (R46, R50, R51, R54,
R58) -/
def Obligations.PositionTaken : Prop :=
    ∀ (s : State) (start : Nat) (ty : Byte) (p : List Byte) (last : Nat) (c : LineChar) (q : Position),
      Completes s start ty p last c →
      classifyFrame ty p = .position q →
      let after := afterCharacter last c none s
      (s.lens.link = .absent → exec (.positionTaken c) s = .next after)
      ∧ ((∀ v, s.lens.provisional = some v → v.deadline < start) →
      let t := { after with lens := { after.lens with
        provisional := s.lens.provisional.filter fun v => after.now < v.deadline } }
      let stored := { t.lens with
        position := some q, miss := 0
        focal := (match s.lens.identity with
          | some i => focalLength i q
          | none => s.lens.focal)
        window := (match s.lens.window with
          | some w => if w.opens ≤ start ∧ start ≤ w.closes then none else some w
          | none => none) }
      (s.lens.link = .online → exec (.positionTaken c) s = .next { t with lens := stored })
      ∧ (s.lens.link = .degraded → exec (.positionTaken c) s = .next (raiseEvent (.lensState .online 0 false) { t with
          lens := { stored with
            link := .online, seek := none, waiting := s.lens.waiting.filter fun f => f.kind == .demand
            sending := s.lens.sending.map fun f => if f.kind = .demand then f else { f with live := false } } }))
      ∧ (s.lens.link = .seeking → exec (.positionTaken c) s = .next t))

/-- A POSITION that starts by the end of the 2 ms of a provisional identity, outside ABSENT, completes the reply: the
identity is stored, the POSITION taken with F from the new focal table, and the link is ONLINE with the seek timer stopped.
With none stored, or with an equal one in SEEKING, the demands are aligned: each axis takes the POSITION's value clamped
into the new range, a DIRECT axis its direct value too, a bound engine its output, and the wheel reference the POSITION's
wheel. An identity that differs in name, an axis limit or a shift range is a lens change: the engines are flushed, the
demands aligned, and LENS_STATE raised once with lens changed yes. Otherwise LENS_STATE is raised when the link was not
ONLINE. A start at the very end counts as within the 2 ms (log entry 32). LensFramesRead spells which frames are POSITIONs,
what they hold and F. (R46, R50, R51, R52, R54, R58, R72) -/
def Obligations.IdentityReplyCompleted : Prop :=
    ∀ (s : State) (start : Nat) (ty : Byte) (p : List Byte) (last : Nat) (c : LineChar) (q : Position)
      (v : Provisional),
      Completes s start ty p last c → classifyFrame ty p = .position q → s.lens.provisional = some v → start ≤ v.deadline →
      s.lens.link ≠ .absent →
      let i := v.identity
      let u := afterCharacter last c none s
      let t := { u with lens := { u.lens with
        identity := some i, provisional := none, position := some q, miss := 0, focal := focalLength i q
        link := .online, seek := none, waiting := s.lens.waiting.filter fun f => f.kind == .demand
        sending := s.lens.sending.map fun f => if f.kind = .demand then f else { f with live := false }
        window := (match s.lens.window with
          | some w => if w.opens ≤ start ∧ start ≤ w.closes then none else some w
          | none => none) } }
      let zoom := max i.zoomMin (min i.zoomMax q.zoom)
      let focus := max i.focusMin (min i.focusMax q.focus)
      let iris := max i.irisMin (min i.irisMax q.iris)
      let set := fun (value : Nat) (a : AxisRecord) =>
        { a with demand := value, direct := if a.source = .direct then value else a.direct }
      let output := fun (id : EngineId) (g : Engine) =>
        if s.axis.zoom.source = .engine id then { g with output := zoom }
        else if s.axis.focus.source = .engine id then { g with output := focus }
        else if s.axis.iris.source = .engine id then { g with output := iris } else g
      let aligned := fun (x : State) => { x with
        axis := { s.axis with
          zoom := set zoom s.axis.zoom, focus := set focus s.axis.focus, iris := set iris s.axis.iris, wheelRef := some q.wheel }
        engines := ⟨output .e1 x.engines.e1, output .e2 x.engines.e2, output .e3 x.engines.e3⟩ }
      let flush := fun g : Engine => { g with queue := [], move := none, state := .idle }
      let flushed := { t with engines := ⟨flush s.engines.e1, flush s.engines.e2, flush s.engines.e3⟩ }
      let differs := fun old : Identity => old.name ≠ i.name ∨ old.zoomMin ≠ i.zoomMin ∨ old.zoomMax ≠ i.zoomMax
        ∨ old.focusMin ≠ i.focusMin ∨ old.focusMax ≠ i.focusMax ∨ old.irisMin ≠ i.irisMin ∨ old.irisMax ≠ i.irisMax
        ∨ old.shiftX ≠ i.shiftX ∨ old.shiftY ≠ i.shiftY
      let reported := raiseEvent (.lensState .online 0 false)
      (s.lens.identity = none → s.lens.link ≠ .online → exec (.positionTaken c) s = .next (reported (aligned t)))
      ∧ (s.lens.identity = none → s.lens.link = .online → exec (.positionTaken c) s = .next (aligned t))
      ∧ (∀ old, s.lens.identity = some old → differs old →
        exec (.positionTaken c) s = .next (raiseEvent (.lensState .online 0 true) (aligned flushed)))
      ∧ (∀ old, s.lens.identity = some old → ¬ differs old →
        (s.lens.link = .seeking → exec (.positionTaken c) s = .next (reported (aligned t)))
        ∧ (s.lens.link = .degraded → exec (.positionTaken c) s = .next (reported t))
        ∧ (s.lens.link = .online → exec (.positionTaken c) s = .next t))

/-- A frame that completes and is no valid POSITION. In ABSENT an IDENTITY and a NOTICE are discarded. Outside it an
IDENTITY becomes the provisional identity, replacing one held, its 2 ms running anew; a NOTICE raises LENS_NOTICE, and a
RECORD BUTTON is then handed to the record tracker. A frame that is not valid has no effect of its own. A provisional
identity whose 2 ms are over by then is dropped. A reply window that the frame's start lies in and whose 2 ms are over by
its end closes with a missed cycle, last of all: ONLINE becomes DEGRADED with LENS_STATE, DEGRADED counts, and the eighth
miss enters SEEKING with LENS_STATE, a waiting DEMAND gone, one being sent opening no window, and holds every engine that
drives an axis; any other window stays as it is. The order of these events is the model's choice (log entry 50), and so is a
start at the very end counting as within the window (log entry 32). The record button has no effect without a RECORD window
or with its enable off; with no clip ARMED or OPEN it does what REC START with the default pre-roll does, and otherwise what
REC STOP does, without the completion report, here with no request waiting upstream (RecordCommands spells both).
LensFramesRead spells which frames are IDENTITYs and NOTICEs and what they hold. (R45, R49, R50, R51, R54, R55, R57, R81,
R173) -/
def Obligations.IdentityAndNoticeTaken : Prop :=
    (∀ (s : State) (start : Nat) (ty : Byte) (p : List Byte) (last : Nat) (c : LineChar), Completes s start ty p last c →
      let u := afterCharacter last c none s
      let drives := fun id => s.axis.zoom.source = .engine id ∨ s.axis.focus.source = .engine id
        ∨ s.axis.iris.source = .engine id
      let hold := fun (id : EngineId) (g : Engine) => if drives id then { g with state := .held } else g
      let missed := fun t : State =>
        match s.lens.link with
        | .online => raiseEvent (.lensState .degraded (s.lens.miss + 1) false) { t with
            lens := { t.lens with window := none, miss := s.lens.miss + 1, link := .degraded } }
        | .degraded =>
          if s.lens.miss < 7 then { t with lens := { t.lens with window := none, miss := s.lens.miss + 1 } }
          else raiseEvent (.lensState .seeking 0 false) { t with
            lens := { t.lens with
              window := none, miss := 0, link := .seeking, seek := some (charTime last s)
              waiting := s.lens.waiting.filter fun f => f.kind == .identifyRequest
              sending := s.lens.sending.map fun f => if f.kind = .demand then { f with live := false } else f }
            engines := ⟨hold .e1 s.engines.e1, hold .e2 s.engines.e2, hold .e3 s.engines.e3⟩ }
        | _ => t
      let ends := fun t : State => match s.lens.window with
        | some w => if w.opens ≤ start ∧ start ≤ w.closes ∧ w.closes ≤ charTime last s then missed t else t
        | none => t
      let lapses := fun t : State => { t with lens := { t.lens with
        provisional := s.lens.provisional.filter fun q => decide (charTime last s < q.deadline) } }
      (∀ i, classifyFrame ty p = .identity i →
        (s.lens.link = .absent → exec (.identityTaken c) s = .next u)
        ∧ (s.lens.link ≠ .absent → exec (.identityTaken c) s = .next (ends { u with lens := { u.lens with
          provisional := some { identity := i, deadline := charTime last s + 8 * 54000 } } })))
      ∧ (∀ n, classifyFrame ty p = .notice n → s.path.waiting = [] →
        (s.lens.link = .absent → exec (.noticeTaken c) s = .next u)
        ∧ (s.lens.link ≠ .absent → n ≠ .recordButton →
          exec (.noticeTaken c) s = .next (ends (lapses (raiseEvent (.lensNotice n) u))))
        ∧ (s.lens.link ≠ .absent → n = .recordButton →
          exec (.noticeTaken c) s = .next (ends (lapses (recordButton (raiseEvent (.lensNotice n) u))))))
      ∧ (classifyFrame ty p = .discarded → exec (.lensFrameDiscarded c) s = .next (ends (lapses u))))
    ∧ ∀ s : State,
      (s.ring = none → recordButton s = s)
      ∧ ∀ size setup, s.ring = some (size, setup) →
        (setup.button = false → recordButton s = s)
        ∧ ∀ r : CommandRecord, setup.button = true → s.path.waiting = [] →
          let asked := { s with command := { queue := [r], held := [] } }
          let done := { recordButton s with command := { queue := [], held := [] } }
          (recordButton s).command = s.command
          ∧ (r.code = 0x0071 → r.half 4 = 0xFFFF → (∀ c ∈ s.record.clips, c.state ≠ .armed ∧ c.state ≠ .opened) →
            ∃ st, exec .recStart asked = .next (completed r st .none done))
          ∧ (r.code = 0x0072 → (∃ c ∈ s.record.clips, c.state = .armed ∨ c.state = .opened) →
            exec .recStop asked = .next (completed r .done .none done))

/-- The line is low when either end drives it low. A frame's characters are sent back to back, each a start bit, 8 data bits
with the least significant first, odd parity and a stop bit; the part drives the bit whose bit time it is, and releases the
line otherwise. The waiting frame starts 2 byte times after the line was last active, a frame whose gap has run out
abandoned first, and keeps waiting while a character of the lens's is on it (R47), or while it has not returned high, the
model's reading of idle (log entry 53). A frame that completes has been read back whole by the receiver, which discards it;
here with a whole frame of at most 64 payload bytes, the receiver hunting before it, no reply window and no provisional
identity. A live DEMAND that completes in ONLINE or DEGRADED opens a reply window of 2 ms from the end of its last stop bit.
A cancellation comes in the first bit from the present one on that the part releases, which is the model's choice (log
entries 2 and 26); the lens's character goes on. A first one makes the same live frame wait again when nothing else waits,
and otherwise drops it without an event, the model's reading (log entry 14); that of a retry gives it up with
LINK_COLLISION. A frame after its last stop bit is not cancelled. With nothing being sent, a completion and a cancellation
change nothing (log entry 6). A character that a stop cuts goes on with the line released (log entry 36). The characters
sent before a cancellation or a stop have been read back here (log entry 44). (R43, R47, R48, R54, R59) -/
def Obligations.TransmitterSends : Prop :=
    (∀ part lens : Bool, lensLine part lens = true ↔ part = true ∧ lens = true)
    ∧ ∀ s : State,
      (s.lens.sending = none → s.drivesLens = true ∧ stopDriving s = s ∧ exec .lensFrameComplete s = .next s
        ∧ exec .lensFrameCancelled s = .next s)
      ∧ (∀ f, s.lens.sending = some f → s.drivesLens = f.bits.getD ((s.now - s.lens.sentAt) / bitTime) true)
      ∧ (∀ f : TxFrame, f.bits.length = 11 * f.bytes.length ∧ ∀ (j k : Nat) (b : Byte), f.bytes[j]? = some b → k < 11 →
        f.bits[11 * j + k]? = some (if k = 0 then false else if k ≤ 8 then b.getLsbD (k - 1)
          else if k = 9 then ((List.range 8).filter fun i => b.getLsbD i).length % 2 == 0 else true))
      ∧ (∀ f, s.lens.waiting = some f → s.lens.sending = none →
        let start := max s.now (s.lens.lineSince + 2 * byteTime)
        let starts := fun (g : TxFrame) (t : State) => { t with
          now := start, lens := { t.lens with waiting := none, sending := some g, sentAt := start, readBack := 0 } }
        (s.lens.charStart = none → s.lens.lineLow = false →
          ((s.lens.rx = none ∨ start = s.lens.lineSince + 2 * byteTime) → exec .lensFrameStart s = .next (starts f s))
          ∧ (∀ u, s.lens.rx.isSome = true → s.lens.lineSince + 2 * byteTime < start →
            exec (.lensFrameAbandoned .gap) { s with now := start } = .next u →
            exec .lensFrameStart s = .next (match u.lens.waiting with
              | some g => starts g u
              | none => u)))
        ∧ ((s.lens.charStart.isSome = true ∨ s.lens.lineLow = true) → exec .lensFrameStart s = .next s))
      ∧ (∀ f, ∀ payload : List Byte, s.lens.sending = some f → payload.length ≤ 64 →
        let body := (match f.kind with
          | .demand => 0x10
          | .identifyRequest => 0x11) :: BitVec.ofNat 8 payload.length :: payload
        f.bytes = 0xA5 :: body ++ [0 - sumBytes body] →
        s.lens.rx = none → s.lens.readBack = 0 → s.lens.window = none → s.lens.provisional = none →
        let stop := s.lens.sentAt + (payload.length + 4) * byteTime
        exec .lensFrameComplete s = .next { s with now := max s.now stop, lens := { s.lens with
          sending := none, lineSince := stop, readBack := payload.length + 4
          window := if f.kind = .demand ∧ f.live = true ∧ s.lens.link.up = true then
            some { opens := stop, closes := stop + 8 * 54000 } else none } })
      ∧ (∀ f bit, s.lens.sending = some f → (s.now - s.lens.sentAt) / bitTime ≤ bit → f.bits[bit]? = some true →
        (∀ k, (s.now - s.lens.sentAt) / bitTime ≤ k → k < bit → f.bits[k]? = some false) →
        let stopped := { s with
          now := max s.now (s.lens.sentAt + bit * bitTime)
          lens := { s.lens with sending := none, charStart := some (s.lens.sentAt + bit / 11 * byteTime) } }
        bit / 11 ≤ s.lens.readBack →
        (f.cancels = 0 → f.live = true → s.lens.waiting = none → exec .lensFrameCancelled s =
          .next { stopped with lens := { stopped.lens with waiting := some { f with cancels := 1 } } })
        ∧ (f.cancels = 0 → (f.live = false ∨ s.lens.waiting.isSome = true) → exec .lensFrameCancelled s = .next stopped)
        ∧ (1 ≤ f.cancels → exec .lensFrameCancelled s = .next (raiseEvent (.linkCollision f.kind) stopped)))
      ∧ (∀ f, s.lens.sending = some f →
        (s.lens.sentAt + f.bytes.length * byteTime ≤ s.now → exec .lensFrameCancelled s = .next s)
        ∧ (AllRead s →
          let passed := s.now - s.lens.sentAt
          stopDriving s = { s with lens := { s.lens with
            sending := none
            charStart := if passed / byteTime < f.bytes.length ∧ passed % byteTime ≠ 0 then
              some (s.lens.sentAt + passed / byteTime * byteTime) else none } }))

/-- The end of a reply window is a missed cycle, unless a frame under assembly, or a character on the line that may be a
SYNC, started in the window: it then stays open (log entry 54). A missed cycle in ONLINE is the first, and degrades the link
with LENS_STATE; in DEGRADED the count grows without an event, and the eighth miss takes the link to SEEKING with the count
0 and LENS_STATE, a waiting DEMAND gone, a DEMAND being sent opening no window, and is a link loss: every engine that is an
axis's source enters HELD and keeps its move and queue. The 2 ms after an IDENTITY drop the provisional identity, unless a
frame that may be a POSITION, or a character on the line that may be its SYNC, started within them; in SEEKING an IDENTIFY
REQUEST, A5 11 00 EF, joins the transmitter and the timer is set 100 ms on. A start at the very end counts as within the 2
ms (log entry 32). The character on the line is the lens's, or the one the part is sending, whose own characters before it
have been read back (log entry 44). (R49, R50, R51, R54, R55, R81, R211) -/
def Obligations.LensTimersExpire : Prop :=
    ∀ s : State,
      let line := fun at_ : Nat => match s.lens.sending with
        | some f => if (at_ - s.lens.sentAt) / byteTime < f.bytes.length ∧ (at_ - s.lens.sentAt) % byteTime ≠ 0 then
          some (s.lens.sentAt + (at_ - s.lens.sentAt) / byteTime * byteTime) else none
        | none => s.lens.charStart
      let drives := fun id => s.axis.zoom.source = .engine id ∨ s.axis.focus.source = .engine id
        ∨ s.axis.iris.source = .engine id
      let hold := fun (id : EngineId) (g : Engine) => if drives id then { g with state := .held } else g
      (∀ w, s.lens.window = some w →
        let t := { s with now := max s.now w.closes }
        let start := match s.lens.rx with
          | some a => some a.start
          | none => line (max s.now w.closes)
        let held := ∃ n, start = some n ∧ w.opens ≤ n ∧ n ≤ w.closes
        (held → exec .replyWindowExpiry s = .next t)
        ∧ (¬ held → s.lens.link = .online → exec .replyWindowExpiry s =
          .next (raiseEvent (.lensState .degraded (s.lens.miss + 1) false) { t with
            lens := { s.lens with window := none, miss := s.lens.miss + 1, link := .degraded } }))
        ∧ (¬ held → s.lens.link = .degraded → s.lens.miss < 7 → exec .replyWindowExpiry s =
          .next { t with lens := { s.lens with window := none, miss := s.lens.miss + 1 } })
        ∧ (¬ held → s.lens.link = .degraded → 7 ≤ s.lens.miss → exec .replyWindowExpiry s =
          .next (raiseEvent (.lensState .seeking 0 false) { t with
            lens := { s.lens with
              window := none, miss := 0, link := .seeking, seek := some (max s.now w.closes)
              waiting := s.lens.waiting.filter fun f => f.kind == .identifyRequest
              sending := s.lens.sending.map fun f => if f.kind = .demand then { f with live := false } else f }
            engines := ⟨hold .e1 s.engines.e1, hold .e2 s.engines.e2, hold .e3 s.engines.e3⟩ })))
      ∧ (∀ q, s.lens.provisional = some q →
        let t := { s with now := max s.now q.deadline }
        AllRead t →
        let mayComplete := match s.lens.rx with
          | some a => a.start ≤ q.deadline ∧ (a.bytes = [] ∨ a.bytes.head? = some 0x20)
          | none => ∃ n, line (max s.now q.deadline) = some n ∧ n ≤ q.deadline
        (mayComplete → exec .identityReplyTimeout s = .next t)
        ∧ (¬ mayComplete → exec .identityReplyTimeout s =
          .next { t with lens := { s.lens with provisional := none } }))
      ∧ (∀ q, s.lens.link = .seeking → s.lens.seek = some q → exec .seekTimerExpiry s =
        .next { s with now := max s.now q, lens := { s.lens with
          seek := some (q + 8 * 2700000)
          waiting := some { kind := .identifyRequest, bytes := [0xA5, 0x11, 0x00, 0xEF], cancels := 0, live := true } } })

/-- What a frame mark leaves in the report unit is what these occurrences, one after another (SharedOperations spells an
occurrence), leave there: CAPTURE_ABANDONED with the sequence and buffer of the oldest FILLING record; FRAME_BEAT with
LOCKED and the new sequence, or FREE-WHEEL, at a change of the tracker; LENS_STATE with DEGRADED and the miss count, or with
SEEKING and 0 at the eighth miss, when the mark finds a cycle open; ENGINE_PREEMPTED with the engine, the axis taken over
and the kind of the move removed; ENGINE_MARK with the value of each MARK that a RUN engine passes and ENGINE_DONE with IDLE
when it passes its whole queue, or with HELD for a STEP engine, for each engine whose move completes and that neither a
takeover nor the link loss has stopped; at a capture mark STAB_LIMIT with the new sequence and each axis whose clamp acted;
AV_DRIFT with the drift, the count and the expected count. Each stands at most where its condition holds, and nothing else
of the mark raises one. The blocks' order at a mark is the model's (log entries 12 and 45), as is engine 1 before 2 before 3
within a stage (log entry 38) and the link state after the settling (log entry 41). CaptureStartRecorded,
SubstituteMarkMade, LensAtMark, AxesAtMark, EnginesAtMark, StabiliserAtMark and AudioPeriodCloses say what else the mark
does. (R25, R31, R40, R49, R55, R70, R71, R75, R78, R83, R103, R146) -/
def Obligations.MarkRaises : Prop :=
    ∀ s t : State,
      let c := s.axis
      let p := if t.lens.link.up then s.lens.position else none
      let cycle := s.lens.link.up && (s.lens.window.isSome || s.lens.waiting.any (fun f => f.kind == .demand)
        || s.lens.sending.any fun f => f.kind == .demand && f.live)
      let lost := cycle && s.lens.link == .degraded && decide (7 ≤ s.lens.miss)
      let lens : List EventPayload := if cycle && s.lens.link == .online then [.lensState .degraded (s.lens.miss + 1) false]
        else if lost then [.lensState .seeking 0 false] else []
      let drives := fun (x : AxisRecord) (id : EngineId) => x.source == .engine id
      let ids := [EngineId.e1, .e2, .e3]
      let takeable := fun x : AxisRecord => x.source == .direct || ids.any (drives x)
      let rocker := (p.map fun x : Position => x.rocker).getD 0
      let zoomTaken := c.zoomTakeover && takeable c.zoom && decide (c.deadband < rocker.natAbs)
      let focusTaken := c.focusTakeover && takeable c.focus && match p, c.wheelRef with
        | some x, some ref => decide (c.wheelThreshold < (x.wheel - ref) + (ref - x.wheel))
        | _, _ => false
      let kind := fun id : EngineId => (s.engines.get id).move.map fun m => match m with
        | .ramp .. => MoveKind.ramp
        | .dwell .. => .dwell
        | .wait .. => .wait
      let byZoom := fun id : EngineId => zoomTaken && drives c.zoom id
      let byFocus := fun id : EngineId => focusTaken && drives c.focus id
      let preempted := (ids.filter byZoom).map (fun id => EventPayload.enginePreempted id .zoom (kind id))
        ++ (ids.filter byFocus).map fun id => .enginePreempted id .focus (if byZoom id then none else kind id)
      let stopped := fun id : EngineId => byZoom id || byFocus id
        || (lost && (drives c.zoom id || drives c.focus id || drives c.iris id))
      let finishes := fun g : Engine => match g.state, g.move with
        | .ramping, some (.ramp _ _ n _ k) => decide (n ≤ k + 1)
        | .dwelling, some (.dwell n k) => decide (n ≤ k + 1)
        | .waiting, some (.wait set) => g.received &&& set == set
        | _, _ => false
      let passed := fun g : Engine => g.queue.takeWhile fun m => match m with
        | .signal _ => true
        | .mark _ => true
        | _ => false
      let done := fun id : EngineId =>
        let g := s.engines.get id
        if stopped id || !finishes g then [] else match g.mode with
          | .step => [EventPayload.engineDone id .held]
          | .run => (passed g).filterMap (fun m => match m with
              | .mark v => some (.engineMark id v)
              | _ => none)
            ++ if (passed g).length = g.queue.length then [.engineDone id .idle] else []
      let waits := fun id : EngineId => (s.engines.get id).state == .waiting
      let engines := (ids.filter fun id => !waits id).flatMap done ++ (ids.filter waits).flatMap done
      let expected := match s.frame.rate with
        | .r23976 => 2002
        | .r24 => 2000
        | .r25 => 1920
        | .r2997 => if s.audio.phase = 1 ∨ s.audio.phase = 3 then 1601 else 1602
        | .r30 => 1600
        | .r50 => 960
        | .r5994 => if s.audio.phase = 4 then 800 else 801
        | .r60 => 800
      let drift : List EventPayload :=
        if s.audio.cadence = .running ∧ s.audio.driftFlag = false ∧ s.audio.tolerance < t.audio.drift.natAbs
        then [.avDrift t.audio.drift s.audio.count expected] else []
      let raised := fun events : List EventPayload => (events.foldl (fun x e => raiseEvent e x) s).report
      (exec .frameMarkTimerExpiry s = .next t → t.report = raised
        ((if s.frame.tracker = .locked then [.frameBeat .freeWheel none] else []) ++ lens ++ preempted ++ engines ++ drift))
      ∧ ∀ (g : Geometry) (b : Nat), captureStart g b s = t →
        let abandoned := (s.frame.history.find? fun r => r.state == .filling).toList.map fun r =>
          EventPayload.captureAbandoned r.seq r.buffer
        let acted := fun a : StabAxis => t.stab.mode != .off && a.e16 != a.corr16 - a.a16
        let limit := if (acted t.stab.x || acted t.stab.y) && !s.stab.limited
          then [EventPayload.stabLimit s.frame.nextSeq (acted t.stab.x) (acted t.stab.y)] else []
        t.report = raised (abandoned
          ++ (if s.frame.tracker = .freeWheel then [.frameBeat .locked (some s.frame.nextSeq)] else [])
          ++ lens ++ preempted ++ engines ++ limit ++ drift)

/-- At a frame mark, capture or substitute. In SEEKING and ABSENT nothing of the lens link changes. In ONLINE and DEGRADED a
cycle whose reply window is open, whose DEMAND waits or whose live DEMAND is being sent is missed first, the DEMAND being
sent then opening no window: ONLINE becomes DEGRADED, the count grows, and the eighth miss goes to SEEKING and opens no
cycle. Otherwise the new DEMAND joins and replaces what waits: SYNC, type 10, length 11, the three demands this mark stores,
clamped into the stored identity, the shift demands of this mark clamped to the shift ranges, the shift enable, and the
CHECK. The link state that the stabiliser reads is the one after the settling (log entry 41). MarkRaises gives each
occurrence with its payload. (R29, R44, R53, R55, R56, R100, R211) -/
def Obligations.LensAtMark : Prop :=
    ∀ s t : State, MarkMade s t →
      let i := s.lens.identity
      let within := fun (range : Identity → Nat × Nat) (v : Nat) => match i with
        | some x => max (range x).1 (min (range x).2 v)
        | none => max 0 (min 65535 v)
      let shift := fun (range : Identity → Nat) (o : Int) => match i with
        | some x => max (-(range x : Int)) (min (range x) (roundDiv (o * s.stab.pixelPitch) 16000))
        | none => 0
      let enable := s.stab.mode == .hybrid && s.stab.optical && i.any fun x => x.shiftX != 0 || x.shiftY != 0
      let body : List Byte := [0x10, 0x0B] ++ leNat 2 (within (fun x => (x.zoomMin, x.zoomMax)) t.axis.zoom.demand)
        ++ leNat 2 (within (fun x => (x.focusMin, x.focusMax)) t.axis.focus.demand)
        ++ leNat 2 (within (fun x => (x.irisMin, x.irisMax)) t.axis.iris.demand)
        ++ leInt 2 (shift (fun x => x.shiftX) t.stab.x.o16) ++ leInt 2 (shift (fun x => x.shiftY) t.stab.y.o16)
        ++ [if enable then 1 else 0]
      let demand : TxFrame :=
        { kind := .demand, cancels := 0, live := true, bytes := 0xA5 :: body ++ [0 - sumBytes body] }
      let expired := s.lens.sending.map fun f => if f.kind = .demand then { f with live := false } else f
      (s.lens.link.up = false → t.lens = s.lens)
      ∧ (s.lens.link.up = true → NoCycleOpen s → t.lens = { s.lens with waiting := some demand })
      ∧ (s.lens.link.up = true → ¬ NoCycleOpen s → LensInv s →
        (s.lens.link = .online → t.lens = { s.lens with
          window := none, miss := s.lens.miss + 1, link := .degraded, waiting := some demand, sending := expired })
        ∧ (s.lens.link = .degraded → s.lens.miss < 7 → t.lens = { s.lens with
          window := none, miss := s.lens.miss + 1, waiting := some demand, sending := expired })
        ∧ (s.lens.link = .degraded → 7 ≤ s.lens.miss → t.lens = { s.lens with
          window := none, miss := 0, link := .seeking, seek := some t.now, sending := expired
          waiting := s.lens.waiting.filter fun f => f.kind == .identifyRequest }
          ∧ (s.report.events.length = 25 → (t.report.events.getD 7 ⟨false, true, 0⟩).pending = true)))

/-- At a frame mark, capture or substitute. The inputs are the rocker and the wheel of the position record while the link,
after the settling of the previous cycle (log entry 41), is ONLINE or DEGRADED. With its takeover on and an engine or DIRECT
as its source, ZOOM goes to ROCKER when the rocker is past the deadband, and FOCUS to WHEEL when the wheel has moved past
the threshold from the wheel reference, which follows the wheel. The engine of an axis taken over is HELD without a move,
its queue, mode and output kept, with ENGINE_PREEMPTED (zoom first, the model's choice, log entry 45; MarkRaises claims it).
Each demand then follows its source, clamped to the axis's range: the rocker adds its speed to the old demand, the wheel
gives its value, an engine its output after this mark, DIRECT its direct value, and HOLD the old demand. Nothing else of the
axis controller changes. MarkRaises gives each occurrence with its payload. (R64, R66, R67, R68, R70, R71) -/
def Obligations.AxesAtMark : Prop :=
    ∀ s t : State, MarkMade s t →
      let p := if t.lens.link.up = true then s.lens.position else none
      let d := (p.map fun x => x.rocker).getD 0
      let wheel := p.map fun x => x.wheel
      let c := s.axis
      let takeable := fun src : Source => src = .direct ∨ ∃ id, src = .engine id
      let zoomTaken := c.zoomTakeover = true ∧ takeable c.zoom.source ∧ c.deadband < d.natAbs
      let focusTaken := c.focusTakeover = true ∧ takeable c.focus.source
        ∧ ∃ w ref, wheel = some w ∧ c.wheelRef = some ref ∧ c.wheelThreshold < (w - ref) + (ref - w)
      let ease : Nat := c.vmax * (d.natAbs - c.deadband) ^ 2 / (127 - c.deadband) ^ 2 * c.trim / 256
      let speed : Int := if d.natAbs ≤ c.deadband then 0 else if d < 0 then -(ease : Int) else ease
      let range := fun a : Axis => match s.lens.identity, a with
        | some i, .zoom => (i.zoomMin, i.zoomMax)
        | some i, .focus => (i.focusMin, i.focusMax)
        | some i, .iris => (i.irisMin, i.irisMax)
        | none, _ => (0, 65535)
      (zoomTaken → t.axis.zoom.source = .rocker) ∧ (¬ zoomTaken → t.axis.zoom.source = c.zoom.source)
      ∧ (focusTaken → t.axis.focus.source = .wheel) ∧ (¬ focusTaken → t.axis.focus.source = c.focus.source)
      ∧ t.axis.iris.source = c.iris.source
      ∧ t.axis = { c with
        zoom := { c.zoom with source := t.axis.zoom.source, demand := t.axis.zoom.demand }
        focus := { c.focus with source := t.axis.focus.source, demand := t.axis.focus.demand }
        iris := { c.iris with demand := t.axis.iris.demand }
        wheelRef := match wheel with
          | some w => some w
          | none => c.wheelRef }
      ∧ (∀ a : Axis,
        let old := (c.get a).demand
        let within := fun v : Nat => max (range a).1 (min (range a).2 v)
        (t.axis.get a).demand = match (t.axis.get a).source with
          | .rocker => (max ((range a).1 : Int) (min ((range a).2 : Int) ((old : Int) + speed))).toNat
          | .wheel => within (wheel.getD old)
          | .engine id => within (t.engines.get id).output
          | .direct => within (c.get a).direct
          | .hold => within old)
      ∧ (∀ id : EngineId, (zoomTaken ∧ c.zoom.source = .engine id) ∨ (focusTaken ∧ c.focus.source = .engine id) →
        t.engines.get id = { s.engines.get id with
          move := none, state := .held, received := (t.engines.get id).received }
        ∧ (s.report.events.length = 25 → (t.report.events.getD 11 ⟨false, true, 0⟩).pending = true))

/-- At a frame mark. An engine whose axis the operator takes over enters HELD without its move; at a link loss every other
engine that drives an axis enters HELD and keeps its move; both keep their queue, mode and output, and send and use up no
signal. What follows is of the other engines. An IDLE or HELD engine is left as it is. A RAMPING one takes the output of
step k + 1 on its LINEAR or EASED curve, a DWELLING one counts k + 1, and at N the move completes; a WAITING one completes
when its received set, as it stood at the mark, holds its wait set, which leaves the set. A move that completes leaves a
STEP engine HELD; a RUN engine passes its SIGNAL and MARK moves and takes the next RAMP, from its output to the target
clamped to its axis's range, DWELL or WAIT, or enters IDLE at the end of its queue. The signals that this mark sends join
the received sets of all engines after the tests, also where the set already held the sender and the test has just used it
up, which is the model's choice (log entry 13). ENGINE_DONE is raised for an engine that enters HELD or IDLE, ENGINE_MARK
for a MARK passed. A move just taken begins at the next mark. MarkRaises gives each occurrence with its payload. (R66, R71,
R73, R75, R76, R77, R78, R81, R83) -/
def Obligations.EnginesAtMark : Prop :=
    ∀ s t : State, MarkMade s t →
      let drives := fun (id : EngineId) (a : Axis) => (s.axis.get a).source = .engine id
      let taken := fun id : EngineId => ∃ a, drives id a ∧ (t.axis.get a).source ≠ .engine id
      let lost := fun id : EngineId => s.lens.link.up = true ∧ t.lens.link.up = false ∧ ∃ a, drives id a
      let goesOn := fun id : EngineId => ¬ taken id ∧ ¬ lost id
      let finishes := fun g : Engine => match g.state, g.move with
        | .ramping, some (.ramp _ _ n _ k) => n ≤ k + 1
        | .dwelling, some (.dwell n k) => n ≤ k + 1
        | .waiting, some (.wait set) => g.received &&& set = set
        | _, _ => False
      let passing := fun m : Move => (∃ set, m = .signal set) ∨ ∃ v, m = .mark v
      let passes := fun (j : EngineId) (m : Move) => goesOn j ∧ finishes (s.engines.get j) ∧ (s.engines.get j).mode = .run
        ∧ ∃ before behind, (s.engines.get j).queue = before ++ m :: behind ∧ passing m ∧ ∀ x ∈ before, passing x
      let limits := fun id : EngineId =>
        if s.axis.zoom.source = .engine id then some ((s.lens.identity.map fun i => (i.zoomMin, i.zoomMax)).getD (0, 65535))
        else if s.axis.focus.source = .engine id then
          some ((s.lens.identity.map fun i => (i.focusMin, i.focusMax)).getD (0, 65535))
        else if s.axis.iris.source = .engine id then
          some ((s.lens.identity.map fun i => (i.irisMin, i.irisMax)).getD (0, 65535))
        else none
      let clamped := fun (id : EngineId) (v : Nat) => match limits id with
        | some r => max r.1 (min r.2 v)
        | none => v
      let curve := fun (start target n : Nat) (shape : Shape) (k : Nat) =>
        let u := 65536 * k / n
        match shape with
        | .linear => ((start : Int) + truncDiv (((target : Int) - start) * k) n).toNat
        | .eased => ((start : Int)
          + truncDiv (((target : Int) - start) * (min 65536 ((3 * u ^ 2 * 65536 - 2 * u ^ 3) / 65536 ^ 2) : Nat)) 65536).toNat
      (∀ id : EngineId,
        let g := s.engines.get id
        let h := t.engines.get id
        let is := fun x : Engine => h = { x with received := h.received }
        let ends := fun x : Engine =>
          (x.mode = .step → is { x with move := none, state := .held })
          ∧ (x.mode = .run → ∀ before rest, x.queue = before ++ rest → (∀ m ∈ before, passing m) →
            (rest = [] → is { x with queue := [], move := none, state := .idle })
            ∧ (∀ target n shape later, rest = .ramp target n shape :: later → is { x with
              queue := later, state := .ramping, move := some (.ramp x.output (clamped id target) n shape 0) })
            ∧ (∀ n later, rest = .dwell n :: later → is { x with queue := later, state := .dwelling, move := some (.dwell n 0) })
            ∧ (∀ set later, rest = .wait set :: later →
              is { x with queue := later, state := .waiting, move := some (.wait set) }))
        (taken id → is { g with move := none, state := .held })
        ∧ (¬ taken id → lost id → is { g with state := .held })
        ∧ (goesOn id → (g.state = .idle ∨ g.state = .held) → is g)
        ∧ (∀ start target n shape k, goesOn id → g.state = .ramping → g.move = some (.ramp start target n shape k) →
          let out := curve start target n shape (k + 1)
          (k + 1 < n → is { g with output := out, move := some (.ramp start target n shape (k + 1)) })
          ∧ (n ≤ k + 1 → ends { g with output := out }))
        ∧ (∀ n k, goesOn id → g.state = .dwelling → g.move = some (.dwell n k) →
          (k + 1 < n → is { g with move := some (.dwell n (k + 1)) }) ∧ (n ≤ k + 1 → ends g))
        ∧ (∀ set, goesOn id → g.state = .waiting → g.move = some (.wait set) →
          (g.received &&& set = set → ends g) ∧ (g.received &&& set ≠ set → is g))
        ∧ (∀ j : EngineId,
          let stays := g.received &&& j.bit ≠ 0
            ∧ ¬ ∃ set, goesOn id ∧ g.state = .waiting ∧ g.move = some (.wait set) ∧ g.received &&& set = set ∧ set &&& j.bit ≠ 0
          h.received &&& j.bit ≠ 0 ↔ stays ∨ ∃ set, passes j (.signal set) ∧ set &&& id.bit ≠ 0)
        ∧ (s.report.events.length = 25 →
          (goesOn id → finishes g → (h.state = .held ∨ h.state = .idle) →
            (t.report.events.getD 10 ⟨false, true, 0⟩).pending = true)
          ∧ (∀ v, passes id (.mark v) → (t.report.events.getD 12 ⟨false, true, 0⟩).pending = true)))

/-- At each frame mark corr16 is A x F over 16,000 P, rounded, with the polarity's sign, and o16 is it clamped to the shift
range S16 while the optical path is active: HYBRID, optical enable, the link ONLINE or DEGRADED, and a shift range above 0;
otherwise o16 is 0. The link state is the one after the mark's settling (log entry 41). At a capture mark a16 is the shift
reported, 0 in OFF, with the link down or no position record; e16 is corr16 − a16 clamped to 16 times the margin, and 0 in
OFF; the new record latches dx = 4 x e16x over 64 and dy = e16y over 16, rounded, and limited when a clamp changed a value;
STAB_LIMIT is raised when the flag was not yet latched. At a substitute mark a16, e16 and the flag are kept and nothing is
latched. Nothing else of the stabiliser changes. MarkRaises gives each occurrence with its payload. (R33, R96, R98, R99,
R100, R101, R102, R103) -/
def Obligations.StabiliserAtMark : Prop :=
    ∀ s t : State,
      let p := s.stab.pixelPitch
      let up := t.lens.link.up
      let i := s.lens.identity
      let corr := fun a : StabAxis =>
        (if a.settings.negative then (-1 : Int) else 1) * roundDiv (a.acc * s.lens.focal) (16000 * p)
      let active := s.stab.mode == .hybrid && s.stab.optical && up && i.any fun x => x.shiftX != 0 || x.shiftY != 0
      let share := fun (range : Identity → Nat) (a : StabAxis) =>
        let span : Int := (((i.map range).getD 0 * 16000 / p : Nat) : Int)
        if active then max (-span) (min span (corr a)) else 0
      let x := { s.stab.x with corr16 := corr s.stab.x, o16 := share (fun v => v.shiftX) s.stab.x }
      let y := { s.stab.y with corr16 := corr s.stab.y, o16 := share (fun v => v.shiftY) s.stab.y }
      (exec .frameMarkTimerExpiry s = .next t → t.stab = { s.stab with x := x, y := y } ∧ t.frame.history = s.frame.history)
      ∧ ∀ (g : Geometry) (b : Nat), captureStart g b s = t →
        let actual := fun shift : Position → Int => match (if up then s.lens.position else none) with
          | some q => if s.stab.mode = .off then 0 else roundDiv (shift q * 16000) p
          | none => 0
        let ax := actual fun q => q.shiftX
        let ay := actual fun q => q.shiftY
        let clamp := fun (margin : Nat) (v : Int) => max (-(16 * margin : Int)) (min (16 * margin) v)
        let ex := if s.stab.mode = .off then 0 else clamp g.marginX (x.corr16 - ax)
        let ey := if s.stab.mode = .off then 0 else clamp g.marginY (y.corr16 - ay)
        let limited := s.stab.mode != .off && (ex != x.corr16 - ax || ey != y.corr16 - ay)
        t.stab = { s.stab with x := { x with a16 := ax, e16 := ex }, y := { y with a16 := ay, e16 := ey }, limited := limited }
        ∧ (∃ r, t.frame.history.getLast? = some r ∧ r.seq = s.frame.nextSeq ∧ r.dx = 4 * roundDiv ex 64 ∧ r.dy = roundDiv ey 16
          ∧ r.limited = limited)
        ∧ (s.report.events.length = 25 → limited = true → s.stab.limited = false →
          (t.report.events.getD 14 ⟨false, true, 0⟩).pending = true)

/-- At a frame mark, capture or substitute. The count c of a period peak is the number of the 32 thresholds, L_i the floor
of 8,388,607 x 10^((2i − 64) / 20), at or below it. A displayed segment at or below c rises to it; a higher one falls by one
when its decay counter reaches the decay interval. A displayed segment above the held one is held for the hold time;
otherwise the hold counter falls, and at 0 the held segment follows. Peaks, clip flags and the period count become 0; routes
and limiter gains are kept. The cadence check in WAITING goes to RUNNING at phase 0 when samples came; in RUNNING the drift
takes the count less the expected count of the rate and phase, within 16 bits (the count taken whole, the model's choice,
log entry 47), the phase moves on, and a drift beyond the tolerance sets the flag and, the flag being clear, raises
AV_DRIFT. MarkRaises gives each occurrence with its payload. (R140, R141, R142, R144, R145, R146) -/
def Obligations.AudioPeriodCloses : Prop :=
    (meterTable.length = 32 ∧ ∀ i l, meterTable[i]? = some l →
      l ^ 10 * 10 ^ (31 - i) ≤ 8388607 ^ 10 ∧ 8388607 ^ 10 < (l + 1) ^ 10 * 10 ^ (31 - i))
    ∧ ∀ s t : State, MarkMade s t →
      let u := s.audio
      let closed := fun o : AudioOutput =>
        let c := (meterTable.filter fun l => decide (l ≤ o.peak)).length
        let shown := if o.displayed ≤ c then (c, 0)
          else if u.decayInterval ≤ o.decay + 1 then (o.displayed - 1, 0) else (o.displayed, o.decay + 1)
        let hold := if o.held < shown.1 then (shown.1, u.holdTime)
          else if o.hold ≤ 1 then (shown.1, 0) else (o.held, o.hold - 1)
        { o with
          peak := 0, clip := false, displayed := shown.1, decay := shown.2, held := hold.1, hold := hold.2 }
      let expected := match s.frame.rate with
        | .r23976 => 2002
        | .r24 => 2000
        | .r25 => 1920
        | .r2997 => if u.phase = 1 ∨ u.phase = 3 then 1601 else 1602
        | .r30 => 1600
        | .r50 => 960
        | .r5994 => if u.phase = 4 then 800 else 801
        | .r60 => 800
      let drift := max (-32768) (min 32767 (u.drift + (u.count : Int) - (expected : Nat)))
      let rest := { u with
        outputs := ⟨closed u.outputs.c1, closed u.outputs.c2, closed u.outputs.c3, closed u.outputs.c4⟩, count := 0 }
      (u.cadence = .waiting → u.count = 0 → t.audio = rest)
      ∧ (u.cadence = .waiting → 0 < u.count → t.audio = { rest with cadence := .running, phase := 0 })
      ∧ (u.cadence = .running →
        t.audio = { rest with
          drift := drift, phase := if 4 ≤ u.phase then 0 else u.phase + 1
          driftFlag := u.driftFlag || decide (u.tolerance < drift.natAbs) }
        ∧ (s.report.events.length = 25 → u.driftFlag = false → u.tolerance < drift.natAbs →
          (t.report.events.getD 19 ⟨false, true, 0⟩).pending = true))

/-- A write of whole sample frames with every enable set: frame by frame, each output takes its source's input sample times
its gain multiplier over 16,384, rounded; with its limiter on, a sample that would come out above the threshold lowers r to
the threshold over it, any other lets r rise by the release step up to 16,384, and the sample is scaled by r; the result is
kept within 8,388,607 and written with the low byte of the flag byte mode. The peaks follow. A sample at either end of the
range is a clip: the clip hold becomes 50, the clip flag is set and, when it was clear, AUDIO_CLIP is raised, output 1 first
within a frame, an order that is the model's choice (log entry 46). The period count grows by the frames, without a bound,
which is the model's choice (log entry 47). Each gain multiplier is 16,384 x 10^(steps / 40), rounded. Every sample so
forwarded lies within full scale. A misaligned write is forwarded as written and raises AUDIO_MISALIGNED with the first
failed condition. (R131, R132, R133, R134, R135, R137, R139, R140, R117) -/
def Obligations.AudioWriteConditioned : Prop :=
    (gainTable.length = 145 ∧ ∀ i m, gainTable[i]? = some m →
      (2 * m - 1) ^ 40 * 10 ^ 96 ≤ 32768 ^ 40 * 10 ^ i ∧ 32768 ^ 40 * 10 ^ i < (2 * m + 1) ^ 40 * 10 ^ 96)
    ∧ (∀ (mode : FlagByteMode) (beats : List Beat) (s : State), beats.length % 2 = 0 →
      ∀ x ∈ (processFrames mode beats s).2, (signed 24 (x.data.toNat % 2 ^ 32 / 256)).natAbs ≤ 8388607
        ∧ (signed 24 (x.data.toNat / 2 ^ 32 / 256)).natAbs ≤ 8388607)
    ∧ ∀ (b : WriteBurst) (s : State) (w : WindowRecord) (mode : FlagByteMode), b.wellFormed = true → s.path.waiting = [] →
      s.path.passQueue.length < 16 →
      classify s b.addr.toNat b.beats.length b.tag = .belongs { window := w, setIndex := 0 } → w.role = .audio →
      w.params = .audio mode →
      let written := fun (beats : List Beat) (t : State) =>
        exec (.upstreamWriteAccepted b) s = .next (forwardWrite b beats t)
      let misaligned := fun n : Nat =>
        written b.beats (raiseEvent (.audioMisaligned b.addr.toNat b.beats.length n) s)
      (b.addr.toNat % 16 ≠ 0 → misaligned 1)
      ∧ (b.addr.toNat % 16 = 0 → b.beats.length % 2 = 1 → misaligned 2)
      ∧ (b.addr.toNat % 16 = 0 → b.beats.length % 2 = 0 → (∃ x ∈ b.beats, x.enables ≠ 255) → misaligned 3)
      ∧ (∀ frames : List (BeatData × BeatData), b.addr.toNat % 16 = 0 →
        b.beats = (frames.flatMap fun f => [{ data := f.1, enables := 255 }, { data := f.2, enables := 255 }]) →
        let frame := fun (u : State) (f : BeatData × BeatData) =>
          let words : PerChannel Nat := ⟨f.1.toNat % 2 ^ 32, f.1.toNat / 2 ^ 32, f.2.toNat % 2 ^ 32, f.2.toNat / 2 ^ 32⟩
          let gain := fun o : AudioOutput => match o.route.gain with
            | some steps => gainTable.getD (steps + 96).toNat 0
            | none => 0
          let y := fun o : AudioOutput => roundDiv (signed 24 (words.get o.route.source / 256) * gain o) 16384
          let r := fun o : AudioOutput => if o.route.limiter = false then o.r
            else if u.audio.threshold * 16384 < (y o).natAbs * o.r then u.audio.threshold * 16384 / (y o).natAbs
            else min 16384 (o.r + u.audio.release)
          let v := fun o : AudioOutput =>
            max (-8388607) (min 8388607 (if o.route.limiter then roundDiv (y o * r o) 16384 else y o))
          let after := fun o : AudioOutput =>
            { o with r := r o, peak := max o.peak (v o).natAbs, clip := o.clip || decide ((v o).natAbs = 8388607) }
          let hand := fun (c : Channel) (t : State) =>
            let o := u.audio.outputs.get c
            if (v o).natAbs = 8388607 then
              let held := { t with overlay := { t.overlay with clipHold := 50 } }
              if o.clip then held else raiseEvent (.audioClip c (if 0 < v o then .positive else .negative)) held
            else t
          let word := fun c : Channel =>
            (v (u.audio.outputs.get c) % 16777216).toNat * 256 + (if mode = .keep then words.get c % 256 else 0)
          (hand .c4 (hand .c3 (hand .c2 (hand .c1 { u with audio := { u.audio with
            outputs := ⟨after u.audio.outputs.c1, after u.audio.outputs.c2, after u.audio.outputs.c3,
              after u.audio.outputs.c4⟩ } }))),
            [{ data := BitVec.ofNat 64 (word .c1 + word .c2 * 2 ^ 32), enables := (255 : Byte) },
              ({ data := BitVec.ofNat 64 (word .c3 + word .c4 * 2 ^ 32), enables := 255 } : Beat)])
        let all := frames.foldl (fun (acc : State × List Beat) f => ((frame acc.1 f).1, acc.2 ++ (frame acc.1 f).2)) (s, [])
        written all.2 { all.1 with audio := { all.1.audio with count := s.audio.count + frames.length } })

/-- An element covers an output pixel (P, Q) when it is visible, its condition holding in the snapshot and, for a blinking
one, the count div 16 even, when the pixel lies in its rectangle, and when its kind covers it: TALLY everywhere, BOX an
outline of t, CROSS two centred bands of t, TEXT the set positions of its characters' glyphs at its scale, BAR its fill,
along the longer side and upward when vertical, and for AUDIO the peak-hold mark. Code 32 has no position set, 127 every
one, and 33 to 126 the part's patterns, which the spec does not list and the model leaves free. The strings and the bar
values are those of the snapshot. A snapshot holds zoom and focus of the position record and the ranges of the stored
identity. (R109, R111, R112, R113, R114, R115, R116) -/
def Obligations.OverlayCovers : Prop :=
    ∀ (snap : Snapshot) (e : Element) (p q : Nat),
      let n := snap.conditions
      let holds := match e.visibility with
        | .always => true
        | .recording => n.recording
        | .standby => n.standby
        | .overrun => n.overrun
        | .lensLost => n.lensLost
        | .stabLimit => n.stabLimit
        | .audioOver => n.audioOver
        | .avDrift => n.avDrift
      let visible := holds = true ∧ (e.blink = true → snap.count.toNat / 16 % 2 = 0)
      let inside := e.x ≤ p ∧ p < e.x + e.w ∧ e.y ≤ q ∧ q < e.y + e.h
      let band := fun (corner extent t v : Nat) =>
        extent < t ∨ (corner + (extent - t) / 2 ≤ v ∧ v < corner + (extent - t) / 2 + t)
      let horizontal := decide (e.h ≤ e.w)
      let extent := if horizontal then e.w else e.h
      let reached := fun length : Nat => if horizontal then p < e.x + length else e.y + e.h < q + 1 + length
      let atEnd := fun m : Nat => if horizontal then p + 1 = e.x + m else q + m = e.y + e.h
      let zoom := snap.lens.map fun v => v.zoom
      let focus := snap.lens.map fun v => v.focus
      let above := fun (lo hi : Nat) (v : Option Nat) => match v with
        | some v => max lo (min hi v) - lo
        | none => 0
      let fill := fun (value most : Nat) => if most = 0 then 0 else value * extent / most
      (e.covers snap p q = true ↔ visible ∧ inside ∧ match e.kind with
        | .tally => True
        | .box t => p < e.x + t ∨ e.x + e.w ≤ p + t ∨ q < e.y + t ∨ e.y + e.h ≤ q + t
        | .cross t => band e.y e.h t q ∨ band e.x e.w t p
        | .text source scale => ∃ code, (sourceText snap source)[(p - e.x) / (8 * scale)]? = some code ∧ q < e.y + 16 * scale
          ∧ (code = 127 ∨ (33 ≤ code ∧ code ≤ 126
            ∧ Config.glyph code ((p - e.x) % (8 * scale) / scale) ((q - e.y) / scale) = true))
        | .bar (.audio c) =>
          let m := (snap.meters.get c).held * extent / 32
          reached (fill (snap.meters.get c).displayed 32) ∨ (0 < m ∧ atEnd m)
        | .bar .zoom => reached (fill (above snap.zoomMin snap.zoomMax zoom) (snap.zoomMax - snap.zoomMin))
        | .bar .focus => reached (fill (above snap.focusMin snap.focusMax focus) (snap.focusMax - snap.focusMin))
        | .bar .ringFill => reached (fill (snap.ring.getD (0, 0)).1 (snap.ring.getD (0, 0)).2))
      ∧ (∀ codes, sourceText snap (.static codes) = codes)
      ∧ (let two := fun v : Nat => [48 + v / 10 % 10, 48 + v % 10]
        let tc := snap.timecode
        sourceText snap .timecode = two tc.hours ++ [58] ++ two tc.minutes ++ [58] ++ two tc.seconds
          ++ [if snap.dropFrame then 59 else 58] ++ two tc.frames)
      ∧ (let f := min 9999 (snap.focal / 1000)
        sourceText snap .focal = [if f < 1000 then 32 else 48 + f / 1000, if f < 100 then 32 else 48 + f / 100 % 10,
          if f < 10 then 32 else 48 + f / 10 % 10, 48 + f % 10, 109, 109])
      ∧ (∀ v, snap.lens = some v → v.fNumber < 1000 → sourceText snap .iris = [70]
        ++ (if v.fNumber < 100 then [] else [48 + v.fNumber / 100]) ++ [48 + v.fNumber / 10 % 10, 46, 48 + v.fNumber % 10])
      ∧ (∀ v, snap.lens = some v → 1000 ≤ v.fNumber → v.fNumber < 65536 → sourceText snap .iris = [70]
        ++ (if v.fNumber < 10000 then [] else [48 + v.fNumber / 10000])
        ++ [48 + v.fNumber / 1000 % 10, 48 + v.fNumber / 100 % 10, 48 + v.fNumber / 10 % 10, 46, 48 + v.fNumber % 10])
      ∧ (∀ v, snap.lens = some v → snap.zoomMin ≤ snap.zoomMax →
        let span := snap.zoomMax - snap.zoomMin
        let percent := if span = 0 then 0 else (max snap.zoomMin (min snap.zoomMax v.zoom) - snap.zoomMin) * 100 / span
        sourceText snap .zoom = [90, if percent < 100 then 32 else 48 + percent / 100,
          if percent < 10 then 32 else 48 + percent / 10 % 10, 48 + percent % 10])
      ∧ (snap.lens = none → sourceText snap .iris = [70, 45, 46, 45] ∧ sourceText snap .zoom = [90, 45, 45])
      ∧ (∀ n, snap.clip = some n → sourceText snap .clip
        = [67, 48 + n / 1000 % 10, 48 + n / 100 % 10, 48 + n / 10 % 10, 48 + n % 10])
      ∧ (snap.clip = none → sourceText snap .clip = [67, 45, 45, 45, 45])

/-- In the beats of an overlaid read, the first at offset o of its buffer and each beat within one line: the beat at offset
a carries the pixels X to X + 3 of line L, with X = (a mod pitch) / 2 − Mx and L = (a div pitch) − My. The topmost element
at a pixel is the last of the list that covers it (OverlayCovers). A pixel's Y becomes the palette Y of its topmost element;
without one it becomes the zebra luma when its returned Y is bright and (P + Q + 2 x count) div 4 is even, and is otherwise
kept. A pair's Cb and Cr become those of the topmost element of its even pixel, and without one are kept. As many beats go
upstream as came. (R23, R109, R123, R124) -/
def Obligations.OverlayDraws : Prop :=
    ∀ (snap : Snapshot) (list : List Element) (g : Geometry) (o : Nat) (beats : List BeatData),
      (drawBeats snap list g o beats).length = beats.length
      ∧ ∀ (i k : Nat) (was : BeatData), beats[i]? = some was → k < 8 →
        let p0 := (o + 8 * i) % g.pitch / 2 - g.marginX
        let q := (o + 8 * i) / g.pitch - g.marginY
        let byte := fun d : BeatData => d.toNat / 256 ^ k % 256
        let returned := BitVec.ofNat 8 (byte was)
        let zebra := snap.zebra
        let bright := (zebra.mode = .above ∧ zebra.level ≤ returned)
          ∨ (zebra.mode = .band ∧ zebra.low ≤ returned ∧ returned ≤ zebra.high)
        let topmost := fun (p : Nat) (e : Element) => ∃ before behind, list = before ++ e :: behind
          ∧ e.covers snap p q = true ∧ ∀ x ∈ behind, x.covers snap p q = false
        let bare := fun p : Nat => ∀ e ∈ list, e.covers snap p q = false
        let becomes := fun v : Byte => ∃ d, (drawBeats snap list g o beats)[i]? = some d ∧ byte d = v.toNat
        let colour := fun e : Element => snap.palette.getD e.palette ⟨0, 0, 0⟩
        (k % 2 = 0 →
          let p := p0 + k / 2
          (∀ e, topmost p e → becomes (colour e).luma)
          ∧ (bare p → bright → (p + q + 2 * snap.count.toNat) / 4 % 2 = 0 → becomes zebra.luma)
          ∧ (bare p → ¬ (bright ∧ (p + q + 2 * snap.count.toNat) / 4 % 2 = 0) → becomes returned))
        ∧ (k % 2 = 1 →
          let p := p0 + 2 * (k / 4)
          (∀ e, topmost p e → becomes (if k % 4 = 1 then (colour e).cb else (colour e).cr))
          ∧ (bare p → becomes returned))

/-- SERVICE DONE, executed with an interval running or not, starts the quiet interval for 540 REFCLK counts from its
execution, releases ATTN, leaves every event entry as it was and completes DONE. When the interval ends, ATTN is asserted
exactly if some kind is pending with its mask no. An occurrence during the interval sets its kind pending, counts, and makes
its report as usual, here with a place in the report queue, or none without a REPORT window; ATTN is evaluated and stays
released. RESET JOB REPORT keeps an interval that runs and pin reset leaves none. Nothing else changes. (R204) -/
def Obligations.QuietInterval : Prop :=
    ∀ (s : State) (r : CommandRecord) (q : Nat) (p : EventPayload),
      let events := s.report.events.modify (p.kind.number - 1) fun e => { e with pending := true, count := e.count + 1 }
      let counted := { s with report := { s.report with events := events, attn := false } }
      (NextIs s r → r.code = 0x0012 → exec .serviceDone s = .next (completed r .done .none { popCommand s with
        report := { s.report with quietEnd := some (s.now + 8 * 540), attn := false } }))
      ∧ (s.report.quietEnd = some q → exec .quietIntervalEnd s = .next { s with
          now := max s.now q
          report := { s.report with quietEnd := none, attn := s.report.events.any fun e => e.pending && !e.masked } })
      ∧ (s.report.quietEnd.isSome = true →
        (s.window .report = none → raiseEvent p s = counted)
        ∧ ((s.window .report).isSome = true → s.report.queue.length < 16 → raiseEvent p s = { counted with
          report := { counted.report with
            queue := s.report.queue ++ [.event p.kind (events.getD (p.kind.number - 1) ⟨false, true, 0⟩).count p false] } }))
      ∧ (NextIs s r → r.code = 0x0015 → r.byte 4 = 7 → ∃ t, exec .resetJobReport s = .next t
        ∧ t.report.quietEnd = s.report.quietEnd)
      ∧ ∀ (cws : BitVec 3) (e : Bool), ∃ t, exec (.pinReset cws e) s = .next t ∧ t.report.quietEnd = none

/-- The three initiator sets stand in bytes 12 to 17 of the record. They pass when exactly the number the role requires, one
for COMMAND, REPORT and AUDIO, three for FRAME, two for RECORD and none for METADATA and PASS, are not empty and none of
those names tag 15, the others being 0; and no two may share a tag. The parameters stand in bytes 18 to 31 as R207 lays them
out. FRAME's pass when n is 2 to 4, W 64 to 4,096 and a multiple of 4, H 64 to 2,304, the pitch a multiple of 64 of at least
2 W, Mx at most 256 and a multiple of 4, My at most 255, the output area at least 64 by 64, the stride a multiple of 4,096
of at least H x pitch, and (n − 1) x stride + H x pitch at most the window size. RECORD's pass with a size of at least 1
MiB, H and T in 1 to 63 with T below H, a button flag of 0 or 1 and a pre-roll of at most 240. AUDIO's flag byte mode is 1,
CLEAR, or 2, KEEP. The other roles have none. That a set beyond the role's number must be 0 is how the model reads the
number of sets in the layout of R207. (R4, R18, R22, R131, R151, R207) -/
def Obligations.WindowRecordRead : Prop :=
    (∀ (g : Geometry) (size : Nat), g.ok size = true ↔
      (2 ≤ g.buffers ∧ g.buffers ≤ 4) ∧ (64 ≤ g.width ∧ g.width ≤ 4096 ∧ g.width % 4 = 0) ∧ (64 ≤ g.height ∧ g.height ≤ 2304)
        ∧ (g.pitch % 64 = 0 ∧ 2 * g.width ≤ g.pitch) ∧ (g.marginX ≤ 256 ∧ g.marginX % 4 = 0) ∧ g.marginY ≤ 255
        ∧ (64 ≤ (g.width : Int) - 2 * g.marginX ∧ 64 ≤ (g.height : Int) - 2 * g.marginY)
        ∧ (g.stride % 4096 = 0 ∧ g.height * g.pitch ≤ g.stride)
        ∧ (g.buffers - 1) * g.stride + g.height * g.pitch ≤ size)
    ∧ ∀ (r : CommandRecord) (size : Nat),
      let sets := windowMasks r
      let names := fun (k tag : Nat) => (sets.getD k 0).getLsbD tag = true
      let count : Role → Nat := fun role => match role with
        | .frame => 3
        | .record => 2
        | .metadata => 0
        | .pass => 0
        | _ => 1
      let geometry : Geometry := {
        buffers := r.byte 18, marginY := r.byte 19, width := r.half 20, height := r.half 22, pitch := r.half 24
        marginX := r.half 26, stride := r.word 28 }
      let setup : RingSetup := {
        marker := BitVec.ofNat 64 (r.word 18 + 2 ^ 32 * r.word 22), highWater := r.byte 26, drainLevel := r.byte 27
        button := r.byte 28 == 1, preRoll := r.byte 29 }
      let ringOk := 1048576 ≤ size ∧ (1 ≤ r.byte 26 ∧ r.byte 26 ≤ 63) ∧ (1 ≤ r.byte 27 ∧ r.byte 27 < r.byte 26)
        ∧ r.byte 28 ≤ 1 ∧ r.byte 29 ≤ 240
      sets = [BitVec.ofNat 16 (r.half 12), BitVec.ofNat 16 (r.half 14), BitVec.ofNat 16 (r.half 16)]
      ∧ (∀ role : Role, role.setCount = count role
        ∧ (masksOk role sets = true ↔ ∀ k, k < 3 →
          if k < count role then (∃ tag, names k tag) ∧ ¬ names k 15 else ∀ tag, ¬ names k tag))
      ∧ (masksShare sets = true ↔ ∃ j k tag, j < k ∧ k < 3 ∧ names j tag ∧ names k tag)
      ∧ windowParams .frame size r = (if geometry.ok size = true then some (.frame geometry) else none)
      ∧ (ringOk → windowParams .record size r = some (.record setup)) ∧ (¬ ringOk → windowParams .record size r = none)
      ∧ windowParams .audio size r = (if r.byte 18 = 1 then some (.audio .clear) else if r.byte 18 = 2 then some (.audio .keep)
        else none)
      ∧ ∀ role : Role, role = .command ∨ role = .report ∨ role = .metadata ∨ role = .pass →
        windowParams role size r = some .absent

/-- With no request waiting upstream: a role or enabled flag that names nothing is refused REFUSED_RANGE and any failed
check of R18 with its status, changing nothing (WindowRecordRead spells the checks of the sets and the parameters); a record
that passes on entry 0 is carried by the completion report that will move the command window (ReportPlaces), and on another
entry replaces it at once, with the consequences of R21 for the role the entry held and the role it now holds: of FRAME, the
history is emptied; of RECORD, a new ring begins (R153); of METADATA, the cursor is 0 and the waiting record discarded
(R184); of REPORT, with a REPORT window then in force the ring restarts at slot 0 and lap 1 with every slot FREE, the queue,
the drop report and the lost flag kept, and with none the queue and the drop report are discarded and the lost flag cleared
(R198); in both the report writes composed before belong to no slot of the ring. AUDIO and PASS have no other consequence.
With none, the next slot and the lap are kept, which is the model's choice (log entry 19). (R18, R20, R21, R22, R153, R184,
R194, R198, R207) -/
def Obligations.WindowSet : Prop :=
    ∀ (s : State) (r : CommandRecord), NextIs s r → r.code = 0x0001 → s.path.waiting = [] →
      ((Role.ofCode (r.byte 5) = none ∨ 1 < r.byte 6) →
        exec .setWindow s = .next (completed r .refusedRange .none (popCommand s)))
      ∧ (∀ role params, Role.ofCode (r.byte 5) = some role → r.byte 6 ≤ 1 →
        windowParams role (2 ^ r.byte 7) r = params →
        let fails : List (Prop × Status) :=
          [(15 < r.byte 4, .refusedRange), (r.byte 4 = 0 ∧ (role ≠ .command ∨ r.byte 6 = 0), .refusedState),
           (role ≠ .pass ∧ ∃ j w, j ≠ r.byte 4 ∧ s.entry j = some w ∧ w.role = role, .refusedState),
           (r.byte 7 < 12 ∨ 30 < r.byte 7 ∨ r.word 8 % 2 ^ r.byte 7 ≠ 0, .refusedRange),
           (masksOk role (windowMasks r) = false ∨ masksShare (windowMasks r) = true ∨ params = none, .refusedRange),
           ((role = .record ∨ ∃ old, s.entry (r.byte 4) = some old ∧ old.role = .record) ∧ s.record.clips ≠ [], .refusedState)]
        (∀ before p st behind, fails = before ++ (p, st) :: behind → (∀ q ∈ before, ¬ q.1) → p →
          exec .setWindow s = .next (completed r st .none (popCommand s)))
        ∧ (∀ v, (∀ q ∈ fails, ¬ q.1) → params = some v →
          let w : WindowRecord := {
            role := role, base := r.word 8, sizeExp := r.byte 7, enabled := r.byte 6 == 1
            sets := (windowMasks r).take role.setCount, params := v }
          (r.byte 4 = 0 → exec .setWindow s =
            .next (offer (.completion .done r.tag r.code .none (some w)) (popCommand s))) ∧
          (r.byte 4 ≠ 0 →
            let t := { popCommand s with path := { s.path with windows := s.path.windows.set (r.byte 4) (some w) } }
            let touches := fun x : Role => x = role ∨ ∃ old, s.entry (r.byte 4) = some old ∧ old.role = x
            ∃ u, exec .setWindow s = .next (completed r .done .none u)
              ∧ u = { t with frame := u.frame, record := u.record, metadata := u.metadata, report := u.report, path := u.path }
              ∧ (touches .frame → u.frame = { t.frame with history := [] })
              ∧ (touches .record → u.record = { t.record with
                  index := [], writeEnd := none, drain := none, guarded := 0, episode := none, level := .low })
              ∧ (touches .metadata → u.metadata = { t.metadata with cursor := 0, waiting := none })
              ∧ (touches .report → (t.window .report).isSome = true →
                u.report = { t.report with nextSlot := 0, lap := true, slots := [] })
              ∧ (touches .report → t.window .report = none →
                u.report = { t.report with queue := [], drop := none, lost := false, slots := [] })
              ∧ (touches .report → u.path =
                { t.path with injected := t.path.injected.map fun x => { x with slot := none } })
              ∧ (¬ touches .frame → u.frame = t.frame) ∧ (¬ touches .record → u.record = t.record)
              ∧ (¬ touches .metadata → u.metadata = t.metadata)
              ∧ (¬ touches .report → u.report = t.report ∧ u.path = t.path))))

/-- With no request waiting upstream: an index above 15 is refused REFUSED_RANGE, index 0 and a RECORD entry with a clip in
the list REFUSED_STATE; an empty entry stays so; another is emptied with the consequences of R21: a change of FRAME empties
the history (R21), of RECORD starts a new ring (R153), of METADATA sets the cursor to 0 (R21) and discards the waiting
record (R184), of REPORT discards the queue, the held reports and the drop report and clears the lost flag (R198), a held
completion that moves the command window moving it then (R20), here with at most one held. The next slot and the lap are
kept where no ring exists any more, which is the model's choice (log entry 19). (R19, R20, R21, R153, R184, R198) -/
def Obligations.WindowCleared : Prop :=
    ∀ (s : State) (r : CommandRecord), NextIs s r → r.code = 0x0002 → s.path.waiting = [] →
      let i := r.byte 4
      (15 < i → exec .clearWindow s = .next (completed r .refusedRange .none (popCommand s)))
      ∧ (i = 0 → exec .clearWindow s = .next (completed r .refusedState .none (popCommand s)))
      ∧ (0 < i → i ≤ 15 → (holdsRecord (s.entry i) = true ∧ s.record.clips ≠ []) →
        exec .clearWindow s = .next (completed r .refusedState .none (popCommand s)))
      ∧ (0 < i → i ≤ 15 → s.entry i = none → exec .clearWindow s = .next (completed r .done .none (popCommand s)))
      ∧ (∀ w, 0 < i → i ≤ 15 → s.entry i = some w → (w.role ≠ .record ∨ s.record.clips = []) →
        let t := { popCommand s with path := { s.path with windows := s.path.windows.set i none } }
        exec .clearWindow s = .next (completed r .done .none (windowChanged (some w) none t))
        ∧ (w.role = .frame → windowChanged (some w) none t = { t with frame := { t.frame with history := [] } })
        ∧ (w.role = .record → windowChanged (some w) none t = { t with record := { t.record with
            index := [], writeEnd := none, drain := none, guarded := 0, episode := none, level := .low } })
        ∧ (w.role = .metadata → windowChanged (some w) none t = { t with metadata := { t.metadata with
            cursor := 0, waiting := none } })
        ∧ (w.role = .audio ∨ w.role = .pass → windowChanged (some w) none t = t)
        ∧ (w.role = .report → t.window .report = none →
          let u := { t with
            report := { t.report with queue := [], drop := none, lost := false, slots := [] }
            command := { t.command with held := [] }
            path := { t.path with injected := t.path.injected.map fun x => { x with slot := none } } }
          windowChanged (some w) none t = u
          ∧ ∀ st tag code res m, windowChanged (some w) none
            { t with command := { t.command with held := [.completion st tag code res m] } } = match m with
              | some v => { u with path := { u.path with windows := u.path.windows.set 0 (some v) } }
              | none => u))

/-- SET EVENT MASK completes DONE with bit k − 1 of its mask as the mask of kind k, for each of the 25 kinds; pending flags
and counts keep their values, and ATTN is evaluated again: asserted while some kind is pending with its mask no and no quiet
interval runs. Nothing else changes. (R200) -/
def Obligations.EventMaskReplaced : Prop :=
    ∀ (s : State) (r : CommandRecord), NextIs s r → r.code = 0x0010 →
      let events := s.report.events.zipIdx.map fun p => { p.1 with masked := (r.word 4).testBit p.2 }
      exec .setEventMask s = .next (completed r .done .none { popCommand s with report := { s.report with
        events := events, attn := (events.any fun e => e.pending && !e.masked) && s.report.quietEnd.isNone } })

/-- ACK EVENT: a kind outside 1 to 25 is refused REFUSED_RANGE, with an empty result: that the refused command's result is
empty is the model's reading (log entry 24). Otherwise it completes DONE: with a count equal to the kind's occurrence count
its pending flag is cleared and the result says cleared yes; with another the flag stands and the result says cleared no;
the result carries the current count and ATTN is evaluated again. An occurrence of the kind taken at the same moment as an
ACK with the count software read is never lost: taken first or second, it leaves the kind pending. SERVICE DONE starts the
quiet interval for 540 counts and releases ATTN. RAISE EVENT makes one occurrence of its kind: pending, count advanced
modulo 256, ATTN evaluated, and with a REPORT window and a place in the queue its event report, software-raised, joins; to a
full queue it is offered (ReportPlaces). STATUS REQUEST offers as many STATUS reports as R192 gives its block, part by part
from the values then held (StatusPartsOfSetup, StatusPartsOfSignals), and then its completion. A code that names no command
is answered REFUSED_UNKNOWN. (R191, R192, R199, R201, R202, R204, R207) -/
def Obligations.ReportUnitCommands : Prop :=
    ∀ (s : State) (r : CommandRecord), NextIs s r →
      (r.code = 0x0012 → exec .serviceDone s = .next (completed r .done .none { popCommand s with report := { s.report with
        quietEnd := some (s.now + 8 * 540), attn := false } }))
      ∧ (r.code = 0x0013 → (r.byte 4 = 0 ∨ 25 < r.byte 4) →
        exec .raiseEvent s = .next (completed r .refusedRange .none (popCommand s)))
      ∧ (∀ k : EventKind, r.code = 0x0013 → k.number = r.byte 4 →
        let events := s.report.events.modify (r.byte 4 - 1) fun e => { e with pending := true, count := e.count + 1 }
        let t := { popCommand s with report := { s.report with
          events := events, attn := (events.any fun e => e.pending && !e.masked) && s.report.quietEnd.isNone } }
        (s.window .report = none → exec .raiseEvent s = .next (completed r .done .none t))
        ∧ ((s.window .report).isSome = true → s.report.queue.length < 16 →
          exec .raiseEvent s = .next (completed r .done .none { t with report := { t.report with
            queue := s.report.queue ++ [.event k (eventEntry t k).count (.raw (r.bytes 5 16)) true] } }))
        ∧ ((s.window .report).isSome = true → 16 ≤ s.report.queue.length →
          exec .raiseEvent s = .next (completed r .done .none
            (offer (.event k (eventEntry t k).count (.raw (r.bytes 5 16)) true) t))))
      ∧ (r.code = 0x0014 → (r.byte 4 = 0 ∨ 12 < r.byte 4 ∨ (r.byte 4 = 1 ∧ 15 < r.byte 5)) →
        exec .statusRequest s = .next (completed r .refusedRange .none (popCommand s)))
      ∧ (r.code = 0x0014 → 1 ≤ r.byte 4 → r.byte 4 ≤ 12 → (r.byte 4 = 1 → r.byte 5 ≤ 15) →
        ∃ parts, statusParts (r.byte 4) (r.byte 5) (popCommand s) = some parts
          ∧ parts.length = [2, 3, 2, 4, 1, 3, 1, 4, 2, 4, 4, 1].getD (r.byte 4 - 1) 0
          ∧ exec .statusRequest s = .next (completed r .done (.statusReports parts.length)
              (parts.zipIdx.foldl (fun t p => offer (.status (r.byte 4) (p.2 + 1) parts.length r.tag p.1) t) (popCommand s))))
      ∧ (r.code.toNat ∉ commandCodes → exec .unknownCommand s = .next (completed r .refusedUnknown .none (popCommand s)))
      ∧ (r.code = 0x0011 → (r.byte 4 = 0 ∨ 25 < r.byte 4) →
        exec .ackEvent s = .next (completed r .refusedRange .none (popCommand s)))
      ∧ (∀ k : EventKind, r.code = 0x0011 → k.number = r.byte 4 →
        let count := (eventEntry s k).count
        let cleared := s.report.events.modify (r.byte 4 - 1) fun e => { e with pending := false }
        let after := fun events : List EventEntry => { popCommand s with report := { s.report with
          events := events, attn := (events.any fun e => e.pending && !e.masked) && s.report.quietEnd.isNone } }
        (r.byte 5 = count.toNat → exec .ackEvent s = .next (completed r .done (.ack true count) (after cleared)))
        ∧ (r.byte 5 ≠ count.toNat →
          exec .ackEvent s = .next (completed r .done (.ack false count) (after s.report.events))))
      ∧ (∀ (k : EventKind) (p : EventPayload), r.code = 0x0011 → k.number = r.byte 4 → p.kind = k →
        s.report.events.length = 25 →
        r.byte 5 = (eventEntry s k).count.toNat →
        (∃ t, exec .ackEvent s = .next t ∧ (eventEntry (raiseEvent p t) k).pending = true)
        ∧ (∃ t, exec .ackEvent (raiseEvent p s) = .next t ∧ (eventEntry t k).pending = true))

/-- LENS stops a frame being sent (TransmitterSends), clears identity, position and transmitter, sets the enable again from
the strap, enters SEEKING or ABSENT with LENS_STATE on a change, and resets sources, demands and engines, keeping F, the
settings and the outputs. A target that names none of the eight is refused by this row, which is the model's choice (log
entry 9). STAB stops the port and zeroes biases, accumulators and pan states, keeping settings and setup; a bias capture
ends ABORTED first, its completion with the biases before they are zeroed (log entry 15) and ahead of GYRO_STATE (log entry
40): both are the model's. FRAME empties the history and enters FREE-WHEEL, with FRAME_BEAT when it was LOCKED, keeping the
next sequence, rate, mode and counter. AUDIO clears limiter gains, meters, clip flags and the cadence check and keeps routes
and settings. OVERLAY empties the slots into their pin-reset states and restores the palette. RECORD empties clips and
index, ends the episode, leaves D absent and G 0, and raises RING_LEVEL if the level was not LOW. REPORT empties queue and
drop report, marking reports lost if either held one, and clears every pending flag. PART is all seven, the report unit's
part first, as R193 says; that the other six follow in the order LENS, STAB, FRAME, AUDIO, OVERLAY, RECORD is the model's
choice (log entry 42). (R42, R63, R85, R94, R107, R130, R150, R177, R193, R206) -/
def Obligations.ResetJobs : Prop :=
    ∀ (s : State) (r : CommandRecord), NextIs s r → r.code = 0x0015 →
      let lens := fun x : State =>
        let link : LinkState := if x.straps.lensEn then .seeking else .absent
        let engine := fun g : Engine =>
          { g with queue := [], move := none, state := .idle, mode := .run, received := 0 }
        let u := stopDriving x
        let t := { u with
          axis := { u.axis with zoom := ⟨.rocker, 0, 0⟩, focus := ⟨.wheel, 0, 0⟩, iris := ⟨.hold, 0, 0⟩, wheelRef := none }
          engines := ⟨engine u.engines.e1, engine u.engines.e2, engine u.engines.e3⟩
          lens := { u.lens with
            identity := none, provisional := none, position := none, waiting := none, sending := none, window := none
            miss := 0, enable := x.straps.lensEn, link := link, seek := if x.straps.lensEn then some x.now else none } }
        if link = u.lens.link then t else raiseEvent (.lensState link 0 false) t
      let stab := fun x : State =>
        let u := match x.stab.capture with
          | some c => offer (.completion .aborted c.tag 0x0043 (.bias x.stab.x.bias x.stab.y.bias c.count) none)
              { x with stab := { x.stab with capture := none } }
          | none => x
        let axis := fun a : StabAxis => { a with bias := 0, acc := 0, pan := .steady, panRun := 0 }
        let t := { u with
          gyro := { x.gyro with
            transaction := false, timer := none, state := .unconfigured, last := none, badRun := 0
            goodRun := 0 }
          stab := { x.stab with x := axis x.stab.x, y := axis x.stab.y, mode := .off, limited := false, capture := none } }
        if x.gyro.state = .unconfigured then t else raiseEvent (.gyroState .unconfigured) t
      let frame := fun x : State =>
        let t := { x with frame := { x.frame with
          history := [], tracker := .freeWheel, expiry := x.now + 8 * x.frame.rate.period } }
        if x.frame.tracker = .locked then raiseEvent (.frameBeat .freeWheel none) t else t
      let audio := fun x : State =>
        let output := fun o : AudioOutput =>
          { o with r := 16384, peak := 0, clip := false, displayed := 0, decay := 0, held := 0, hold := 0 }
        { x with audio := { x.audio with
          outputs := ⟨output x.audio.outputs.c1, output x.audio.outputs.c2, output x.audio.outputs.c3,
            output x.audio.outputs.c4⟩
          cadence := .waiting, count := 0, phase := 0, drift := 0, driftFlag := false } }
      let overlay := fun x : State => { x with overlay := { x.overlay with
        s0 := ⟨.shown, []⟩, s1 := ⟨.edit, []⟩, s2 := ⟨.free, []⟩
        palette := [⟨235, 128, 128⟩, ⟨16, 128, 128⟩, ⟨81, 90, 240⟩, ⟨145, 54, 34⟩, ⟨210, 16, 146⟩, ⟨170, 166, 16⟩,
          ⟨126, 128, 128⟩, ⟨160, 44, 180⟩] } }
      let record := fun x : State =>
        let t := { x with record := { x.record with
          clips := [], index := [], episode := none, drain := none, guarded := 0, level := .low } }
        if x.record.level = .low then t else raiseEvent (.ringLevel .low 0) t
      let report := fun x : State => { x with report := { x.report with
        queue := [], drop := none, lost := x.report.lost || !x.report.queue.isEmpty || x.report.drop.isSome
        events := x.report.events.map fun e => { e with pending := false }
        attn := false } }
      let does := fun (c : Instr) (t : State) => exec c s = .next (completed r .done .none t)
      let u := popCommand s
      ((r.byte 4 = 0 ∨ 8 < r.byte 4) → exec .resetJobLens s = .next (completed r .refusedRange .none u))
      ∧ (r.byte 4 = 1 → does .resetJobLens (lens u)) ∧ (r.byte 4 = 2 → does .resetJobStab (stab u))
      ∧ (r.byte 4 = 3 → does .resetJobFrame (frame u)) ∧ (r.byte 4 = 4 → does .resetJobAudio (audio u))
      ∧ (r.byte 4 = 5 → does .resetJobOverlay (overlay u)) ∧ (r.byte 4 = 6 → does .resetJobRecord (record u))
      ∧ (r.byte 4 = 7 → does .resetJobReport (report u))
      ∧ (r.byte 4 = 8 → does .resetJobPart (record (overlay (audio (frame (stab (lens (report u))))))))

/-- The nominal periods, the timecode frames per second and the drop counts of the eight rates are those of R30 and R36, in
numbers: drop-frame may be on at 29.97 and 59.94 alone. A label is dropped with drop-frame on at second 0 of a minute not
divisible by 10, its frames below 2 at 29.97 and below 4 at 59.94; it is moved forward to those frames of its second. An
advance by one counts frames, seconds, minutes and hours, 23:59:59 with the last frame going to 0, and moves a dropped label
forward. A rate, flag or mode that names nothing is refused REFUSED_RANGE. A rate clears drop-frame where the rate has none
and brings both counters into it; it moves the expiry to one lock deadline or nominal period after the last mark, or to the
present when that has passed: the mark itself is left to the next expiry step, where R32 has a passed expiry reached at
once, which is the model's reading (log entry 28). SET TIMECODE sets the counter with each field at most its maximum, a
dropped label moved forward and drop-frame only at 29.97 and 59.94. CLAMPED exactly when something asked was changed;
nothing else changes. (R30, R32, R35, R36, R37, R38, R207) -/
def Obligations.FrameTrackerCommands : Prop :=
    (∀ (rate : FrameRate) (drop : Bool) (t : Timecode),
      let numbers : Nat × Nat × Nat := match rate with
        | .r23976 => (1126125, 24, 0)
        | .r24 => (1125000, 24, 0)
        | .r25 => (1080000, 25, 0)
        | .r2997 => (900900, 30, 2)
        | .r30 => (900000, 30, 0)
        | .r50 => (540000, 50, 0)
        | .r5994 => (450450, 60, 4)
        | .r60 => (450000, 60, 0)
      let last := t.frames + 1 ≥ numbers.2.1
      let next : Timecode :=
        if ¬ last then { t with frames := t.frames + 1 } else if t.seconds < 59 then ⟨t.hours, t.minutes, t.seconds + 1, 0⟩
        else if t.minutes < 59 then ⟨t.hours, t.minutes + 1, 0, 0⟩ else if t.hours < 23 then ⟨t.hours + 1, 0, 0, 0⟩
        else ⟨0, 0, 0, 0⟩
      let dropped := fun x : Timecode => drop = true ∧ x.seconds = 0 ∧ ¬ 10 ∣ x.minutes ∧ x.frames < numbers.2.2
      rate.period = numbers.1 ∧ rate.framesPerSecond = numbers.2.1 ∧ (rate.allowsDrop = true ↔ rate = .r2997 ∨ rate = .r5994)
        ∧ (t.isDropped rate drop = true ↔ dropped t)
        ∧ (dropped t → t.skipDropped rate drop = { t with frames := numbers.2.2 })
        ∧ (¬ dropped t → t.skipDropped rate drop = t)
        ∧ (dropped next → t.advance rate drop = { next with frames := numbers.2.2 })
        ∧ (¬ dropped next → t.advance rate drop = next))
    ∧ ∀ (s : State) (r : CommandRecord), NextIs s r →
      (r.code = 0x0020 → FrameRate.ofCode (r.byte 4) = none →
        exec .setFrameRate s = .next (completed r .refusedRange .none (popCommand s)))
      ∧ (∀ rate, r.code = 0x0020 → FrameRate.ofCode (r.byte 4) = some rate →
        let drop := s.frame.dropFrame && rate.allowsDrop
        let fit := fun t : Timecode =>
          Timecode.skipDropped rate drop { t with frames := min t.frames (rate.framesPerSecond - 1) }
        let span := match s.frame.tracker with
          | .locked => 8 * (3 * rate.period / 2)
          | .freeWheel => 8 * rate.period
        exec .setFrameRate s = .next (completed r
          (if drop = s.frame.dropFrame ∧ fit s.frame.timecode = s.frame.timecode ∧ fit s.record.timecode = s.record.timecode
            then .done else .clamped) .none
          { popCommand s with
            frame := { s.frame with
              rate := rate, dropFrame := drop, timecode := fit s.frame.timecode
              expiry := max s.now (s.frame.lastMark + span) }
            record := { s.record with timecode := fit s.record.timecode } }))
      ∧ (r.code = 0x0021 → 1 < r.byte 8 → exec .setTimecode s = .next (completed r .refusedRange .none (popCommand s)))
      ∧ (r.code = 0x0021 → r.byte 8 ≤ 1 →
        let drop := r.byte 8 == 1 && s.frame.rate.allowsDrop
        let tc := Timecode.skipDropped s.frame.rate drop
          ⟨min 23 (r.byte 4), min 59 (r.byte 5), min 59 (r.byte 6), min (s.frame.rate.framesPerSecond - 1) (r.byte 7)⟩
        exec .setTimecode s = .next (completed r
          (if drop = (r.byte 8 == 1) ∧ tc = ⟨r.byte 4, r.byte 5, r.byte 6, r.byte 7⟩ then .done else .clamped) .none
          { popCommand s with
            frame := { s.frame with timecode := tc, dropFrame := drop }
            record := { s.record with timecode := if drop = s.frame.dropFrame then s.record.timecode
              else s.record.timecode.skipDropped s.frame.rate drop } }))
      ∧ (r.code = 0x0022 → TimecodeMode.ofCode (r.byte 4) = none →
        exec .setTimecodeMode s = .next (completed r .refusedRange .none (popCommand s)))
      ∧ (∀ m, r.code = 0x0022 → TimecodeMode.ofCode (r.byte 4) = some m →
        exec .setTimecodeMode s = .next (completed r .done .none { popCommand s with frame := { s.frame with mode := m } }))

/-- LENS LINK: enable takes an ABSENT link to SEEKING with LENS_STATE and changes no other. Disable takes any other to
ABSENT with LENS_STATE, the part having stopped driving any frame (TransmitterSends); that an IDENTIFY REQUEST stops too is
the model's choice (log entry 37). Re-seek enters SEEKING anew, with LENS_STATE from ONLINE or DEGRADED, and is refused
REFUSED_STATE in ABSENT. Leaving ONLINE or DEGRADED is a link loss: every engine that is an axis's source enters HELD and
keeps its move and queue. An action that names none of the three is refused REFUSED_RANGE; that the enable row executes it
is the model's choice (log entry 9). Identity, position and F are kept. SET AXIS SOURCE refuses an axis or source that names
nothing, ROCKER off ZOOM and WHEEL off FOCUS; naming the current source changes nothing; a new source is taken with the
demand kept, an engine leaves any other axis to HOLD and takes the demand as its output, DIRECT takes it as the direct
value. The settings commands store their values brought into range, CLAMPED when one was changed. (R50, R59, R65, R69, R81,
R207) -/
def Obligations.LensAndAxisCommands : Prop :=
    ∀ (s : State) (r : CommandRecord), NextIs s r →
      (r.code = 0x0030 → (Axis.ofCode (r.byte 4) = none ∨ Source.ofCode (r.byte 5) = none
          ∨ (r.byte 5 = 1 ∧ r.byte 4 ≠ 1) ∨ (r.byte 5 = 2 ∧ r.byte 4 ≠ 2)) →
        exec .setAxisSource s = .next (completed r .refusedRange .none (popCommand s)))
      ∧ (∀ a src, r.code = 0x0030 → Axis.ofCode (r.byte 4) = some a → Source.ofCode (r.byte 5) = some src →
        (src = .rocker → a = .zoom) → (src = .wheel → a = .focus) →
        let cur := s.axis.get a
        (cur.source = src → exec .setAxisSource s = .next (completed r .done .none (popCommand s)))
        ∧ (cur.source ≠ src →
          let freed := fun x : AxisRecord => match src with
            | .engine _ => if x.source = src then { x with source := .hold } else x
            | _ => x
          exec .setAxisSource s = .next (completed r .done .none { popCommand s with
            axis := AxisController.set
              { s.axis with zoom := freed s.axis.zoom, focus := freed s.axis.focus, iris := freed s.axis.iris } a
              { source := src, demand := cur.demand, direct := if src = .direct then cur.demand else cur.direct }
            engines := match src with
              | .engine id => s.engines.set id { s.engines.get id with output := cur.demand }
              | _ => s.engines })))
      ∧ (r.code = 0x0031 → Axis.ofCode (r.byte 4) = none →
        exec .setDirectDemand s = .next (completed r .refusedRange .none (popCommand s)))
      ∧ (∀ a, r.code = 0x0031 → Axis.ofCode (r.byte 4) = some a →
        exec .setDirectDemand s = .next (completed r (if r.word 8 ≤ 65535 then .done else .clamped) .none
          { popCommand s with axis := s.axis.set a { s.axis.get a with direct := min 65535 (r.word 8) } }))
      ∧ (r.code = 0x0032 → exec .setRocker s = .next (completed r
          (if r.half 4 ≤ 40 ∧ 1 ≤ r.half 6 ∧ r.half 6 ≤ 4096 ∧ r.half 8 ≤ 256 then .done else .clamped) .none
          { popCommand s with axis := { s.axis with
            deadband := min 40 (r.half 4), vmax := max 1 (min 4096 (r.half 6)), trim := min 256 (r.half 8) } }))
      ∧ (r.code = 0x0033 → (1 < r.byte 4 ∨ 1 < r.byte 5) →
        exec .setOverride s = .next (completed r .refusedRange .none (popCommand s)))
      ∧ (r.code = 0x0033 → r.byte 4 ≤ 1 → r.byte 5 ≤ 1 →
        exec .setOverride s = .next (completed r (if r.half 6 ≤ 4096 then .done else .clamped) .none
          { popCommand s with axis := { s.axis with
            zoomTakeover := r.byte 4 == 1, focusTakeover := r.byte 5 == 1, wheelThreshold := min 4096 (r.half 6) } }))
      ∧ (r.code = 0x0028 →
      let seeking := fun enable : Bool => { popCommand s with lens := { s.lens with
          enable := enable, link := .seeking, window := none, miss := 0, seek := some s.now
          waiting := s.lens.waiting.filter fun f => f.kind == .identifyRequest
          sending := s.lens.sending.map fun f => if f.kind = .demand then { f with live := false } else f } }
        let u := stopDriving (popCommand s)
        let absent := { u with lens := { u.lens with
          enable := false, link := .absent, waiting := none, sending := none, window := none, provisional := none, miss := 0
          seek := none } }
        let lost := fun t : State =>
          let hold := fun (id : EngineId) (g : Engine) =>
            if t.axis.zoom.source = .engine id ∨ t.axis.focus.source = .engine id ∨ t.axis.iris.source = .engine id
            then { g with state := .held } else g
          { t with engines := ⟨hold .e1 t.engines.e1, hold .e2 t.engines.e2, hold .e3 t.engines.e3⟩ }
        ((r.byte 4 = 0 ∨ 3 < r.byte 4) → exec .lensLinkEnable s = .next (completed r .refusedRange .none (popCommand s)))
        ∧ (r.byte 4 = 1 → s.lens.link = .absent → exec .lensLinkEnable s =
          .next (completed r .done .none (raiseEvent (.lensState .seeking 0 false) (seeking true))))
        ∧ (r.byte 4 = 1 → s.lens.link ≠ .absent → exec .lensLinkEnable s = .next (completed r .done .none (popCommand s)))
        ∧ (r.byte 4 = 2 → s.lens.link = .absent → exec .lensLinkDisable s = .next (completed r .done .none (popCommand s)))
        ∧ (r.byte 4 = 2 → s.lens.link ≠ .absent → u.lens.link.up = false → exec .lensLinkDisable s =
          .next (completed r .done .none (raiseEvent (.lensState .absent 0 false) absent)))
        ∧ (r.byte 4 = 2 → s.lens.link ≠ .absent → u.lens.link.up = true → exec .lensLinkDisable s =
          .next (completed r .done .none (lost (raiseEvent (.lensState .absent 0 false) absent))))
        ∧ (r.byte 4 = 3 → s.lens.link = .absent →
          exec .lensLinkReSeek s = .next (completed r .refusedState .none (popCommand s)))
        ∧ (r.byte 4 = 3 → s.lens.link = .seeking →
          exec .lensLinkReSeek s = .next (completed r .done .none (seeking s.lens.enable)))
        ∧ (r.byte 4 = 3 → s.lens.link.up = true → exec .lensLinkReSeek s =
          .next (completed r .done .none (lost (raiseEvent (.lensState .seeking 0 false) (seeking s.lens.enable))))))

/-- ENGINE APPEND refuses a bad engine, kind, shape or set REFUSED_RANGE and a queue of 16 REFUSED_FULL; otherwise the move
joins at the end, frames brought into 1 to 4,096 and a target into 65,535, CLAMPED when one was changed. FLUSH empties the
queue, abandons the move and enters IDLE. HOLD enters HELD and keeps move and mode. ENGINE MODE RUN and STEP: an engine
outside 1 to 3 or a mode naming none of the three is refused REFUSED_RANGE; that the RUN row executes a mode that names none
is the model's choice (log entry 9). On a running engine only the mode changes. On a stopped one a kept move resumes in its
own state. With none, RUN passes the SIGNAL and MARK moves at the head of the queue and takes the RAMP, DWELL or WAIT behind
them, a RAMP from the output to its target clamped to the axis's range; at the end of the queue it enters IDLE with
ENGINE_DONE. STEP takes one move: a SIGNAL or MARK completes at once and leaves it HELD with ENGINE_DONE. A MARK raises
ENGINE_MARK; a SIGNAL adds this engine to the received set of each engine it names. Nothing else changes. (R74, R75, R76,
R77, R78, R79, R80, R83, R207) -/
def Obligations.EngineCommands : Prop :=
    ∀ (s : State) (r : CommandRecord), NextIs s r →
      (r.code = 0x0038 → (r.byte 4 = 0 ∨ 3 < r.byte 4 ∨ r.byte 5 = 0 ∨ 5 < r.byte 5
          ∨ (r.byte 5 = 1 ∧ r.byte 14 ≠ 1 ∧ r.byte 14 ≠ 2)
          ∨ ((r.byte 5 = 3 ∨ r.byte 5 = 4) ∧ (r.byte 6 = 0 ∨ 8 ≤ r.byte 6 ∨ (r.byte 6).testBit (r.byte 4 - 1) = true))) →
        exec .engineAppend s = .next (completed r .refusedRange .none (popCommand s)))
      ∧ (∀ (id : EngineId) (m : Move) (clamped : Bool), r.code = 0x0038 → id.number = r.byte 4 →
        ((r.byte 5 = 1 ∧ ∃ shape, Shape.ofCode (r.byte 14) = some shape
            ∧ m = .ramp (min 65535 (r.word 8)) (max 1 (min 4096 (r.half 12))) shape
            ∧ clamped = !(1 ≤ r.half 12 && r.half 12 ≤ 4096 && r.word 8 ≤ 65535))
          ∨ (r.byte 5 = 2 ∧ m = .dwell (max 1 (min 4096 (r.half 12)))
            ∧ clamped = !(1 ≤ r.half 12 && r.half 12 ≤ 4096))
          ∨ (r.byte 5 = 3 ∧ r.byte 6 ≠ 0 ∧ r.byte 6 < 8 ∧ (r.byte 6).testBit (r.byte 4 - 1) = false
            ∧ m = .signal (BitVec.ofNat 3 (r.byte 6)) ∧ clamped = false)
          ∨ (r.byte 5 = 4 ∧ r.byte 6 ≠ 0 ∧ r.byte 6 < 8 ∧ (r.byte 6).testBit (r.byte 4 - 1) = false
            ∧ m = .wait (BitVec.ofNat 3 (r.byte 6)) ∧ clamped = false)
          ∨ (r.byte 5 = 5 ∧ m = .mark (r.half 8) ∧ clamped = false)) →
        let g := s.engines.get id
        (16 ≤ g.queue.length → exec .engineAppend s = .next (completed r .refusedFull .none (popCommand s)))
        ∧ (g.queue.length < 16 → exec .engineAppend s = .next (completed r (if clamped then .clamped else .done) .none
          { popCommand s with engines := s.engines.set id { g with queue := g.queue ++ [m] } })))
      ∧ (∀ id : EngineId, r.code = 0x0039 → id.number = r.byte 4 →
        exec .engineFlush s = .next (completed r .done .none { popCommand s with
          engines := s.engines.set id { s.engines.get id with queue := [], move := none, state := .idle } }))
      ∧ (r.code = 0x0039 → (r.byte 4 = 0 ∨ 3 < r.byte 4) →
        exec .engineFlush s = .next (completed r .refusedRange .none (popCommand s)))
      ∧ (∀ id : EngineId, r.code = 0x003A → r.byte 5 = 3 → id.number = r.byte 4 →
        exec .engineModeHold s = .next (completed r .done .none { popCommand s with
          engines := s.engines.set id { s.engines.get id with state := .held } }))
      ∧ (r.code = 0x003A → r.byte 5 = 3 → (r.byte 4 = 0 ∨ 3 < r.byte 4) →
        exec .engineModeHold s = .next (completed r .refusedRange .none (popCommand s)))
      ∧ (r.code = 0x003A →
      ((r.byte 5 = 0 ∨ 3 < r.byte 5 ∨ (r.byte 5 = 1 ∧ (r.byte 4 = 0 ∨ 3 < r.byte 4))) →
          exec .engineModeRun s = .next (completed r .refusedRange .none (popCommand s)))
        ∧ (r.byte 5 = 2 → (r.byte 4 = 0 ∨ 3 < r.byte 4) →
          exec .engineModeStep s = .next (completed r .refusedRange .none (popCommand s)))
        ∧ (∀ (id : EngineId) (mode : EngineMode) (c : Instr), id.number = r.byte 4 →
          (r.byte 5 = 1 ∧ mode = .run ∧ c = .engineModeRun ∨ r.byte 5 = 2 ∧ mode = .step ∧ c = .engineModeStep) →
          let g := { s.engines.get id with mode := mode }
          let becomes := fun h : Engine => { popCommand s with engines := s.engines.set id h }
          let answers := fun t : State => exec c s = .next (completed r .done .none t)
          let limits :=
            if s.axis.zoom.source = .engine id then some ((s.lens.identity.map fun i => (i.zoomMin, i.zoomMax)).getD (0, 65535))
            else if s.axis.focus.source = .engine id then
              some ((s.lens.identity.map fun i => (i.focusMin, i.focusMax)).getD (0, 65535))
            else if s.axis.iris.source = .engine id then
              some ((s.lens.identity.map fun i => (i.irisMin, i.irisMax)).getD (0, 65535))
            else none
          let clamped := fun v : Nat => match limits with
            | some x => max x.1 (min x.2 v)
            | none => v
          let signal := fun (set : EngineSet) (t : State) =>
            let add := fun (bit : EngineSet) (h : Engine) =>
              if set &&& bit = 0 then h else { h with received := h.received ||| id.bit }
            { t with engines := ⟨add 1 t.engines.e1, add 2 t.engines.e2, add 4 t.engines.e3⟩ }
          let pass := fun (t : State) (m : Move) => match m with
            | .signal set => signal set t
            | .mark v => raiseEvent (.engineMark id v) t
            | _ => t
          (g.state.running = true → answers (becomes g))
          ∧ (g.state.running = false →
            (∀ p, g.move = some p → answers (becomes { g with state := match p with
              | .ramp .. => .ramping
              | .dwell .. => .dwelling
              | .wait _ => .waiting }))
            ∧ (g.move = none →
              (∀ before rest, g.queue = before ++ rest → (∀ m ∈ before, (∃ set, m = .signal set) ∨ ∃ v, m = .mark v) →
                (mode = .step → before = []) →
                let passed := fun h : Engine => before.foldl pass (becomes h)
                (rest = [] → answers (raiseEvent (.engineDone id .idle) (passed { g with queue := [], state := .idle })))
                ∧ (∀ target n shape later, rest = .ramp target n shape :: later → answers (passed { g with
                  queue := later, state := .ramping, move := some (.ramp g.output (clamped target) n shape 0) }))
                ∧ (∀ n later, rest = .dwell n :: later → answers (passed { g with
                  queue := later, state := .dwelling, move := some (.dwell n 0) }))
                ∧ (∀ set later, rest = .wait set :: later → answers (passed { g with
                  queue := later, state := .waiting, move := some (.wait set) })))
              ∧ (∀ set rest, mode = .step → g.queue = .signal set :: rest →
                answers (raiseEvent (.engineDone id .held) (signal set (becomes { g with queue := rest, state := .held }))))
              ∧ (∀ v rest, mode = .step → g.queue = .mark v :: rest → answers (raiseEvent (.engineDone id .held)
                (raiseEvent (.engineMark id v) (becomes { g with queue := rest, state := .held }))))))))

/-- GYRO SETUP refuses a polarity, phase or sample rate that names nothing; otherwise it replaces the setup, the clock rate
clamped, stops a transaction, zeroes both runs, restarts the timer at once, ends a bias capture ABORTED with the biases in
force and the count collected, its completion offered ahead of its own, and takes an UNCONFIGURED port to RUNNING with
GYRO_STATE. STAB SETUP refuses a bad polarity or flag; otherwise the settings are replaced, every number clamped into its
range. STAB MODE refuses a mode that names nothing; leaving OFF zeroes both accumulators, any other change keeps them. STAB
RECENTRE zeroes both accumulators in every mode and port state and keeps everything else. BIAS CAPTURE is refused
REFUSED_BUSY while one runs and REFUSED_STATE unless the port is RUNNING and both axes STEADY, with an empty result: R191
gives the command's result as biases and count, and that a refusal's result is empty is the model's choice (log entry 24).
Otherwise it begins with count and sums 0 and the command's tag, and makes no completion report. (R86, R93, R94, R95, R96,
R97, R190) -/
def Obligations.StabiliserCommands : Prop :=
    ∀ (s : State) (r : CommandRecord), NextIs s r →
      (r.code = 0x0040 → (ClockPolarity.ofCode (r.byte 6) = none ∨ ClockPhase.ofCode (r.byte 7) = none
          ∨ (r.half 8 ≠ 1000 ∧ r.half 8 ≠ 2000)) →
        exec .gyroSetup s = .next (completed r .refusedRange .none (popCommand s)))
      ∧ (∀ p f, r.code = 0x0040 → ClockPolarity.ofCode (r.byte 6) = some p → ClockPhase.ofCode (r.byte 7) = some f →
        (r.half 8 = 1000 ∨ r.half 8 = 2000) →
        let began := { popCommand s with gyro := { s.gyro with
          setup := {
            clockKHz := max 1000 (min 10000 (r.half 4)), polarity := p, phase := f, sampleRate := r.half 8
            command := byteOf (r.byte 10), validMask := byteOf (r.byte 11), validValue := byteOf (r.byte 12) }
          transaction := false, badRun := 0, goodRun := 0, timer := some s.now
          state := if s.gyro.state = .unconfigured then .running else s.gyro.state } }
        let t := match s.stab.capture with
          | some c => offer (.completion .aborted c.tag 0x0043 (.bias s.stab.x.bias s.stab.y.bias c.count) none)
              { began with stab := { s.stab with capture := none } }
          | none => began
        exec .gyroSetup s = .next (completed r (if 1000 ≤ r.half 4 ∧ r.half 4 ≤ 10000 then .done else .clamped) .none
          (if s.gyro.state = .unconfigured then raiseEvent (.gyroState .running) t else t)))
      ∧ (r.code = 0x0041 → ((r.byte 6 ≠ 1 ∧ r.byte 6 ≠ 255) ∨ (r.byte 17 ≠ 1 ∧ r.byte 17 ≠ 255) ∨ 1 < r.byte 28) →
        exec .stabSetup s = .next (completed r .refusedRange .none (popCommand s)))
      ∧ (r.code = 0x0041 → (r.byte 6 = 1 ∨ r.byte 6 = 255) → (r.byte 17 = 1 ∨ r.byte 17 = 255) → r.byte 28 ≤ 1 →
        let settings := fun n : Nat => ({
          gain := max 1 (min 65535 (r.half n)), negative := r.byte (n + 2) == 255
          leakSteady := min 4095 (r.half (n + 3)), leakPan := min 4095 (r.half (n + 5))
          panThreshold := max 1 (min 32767 (r.half (n + 7))), panEnter := max 1 (min 255 (r.byte (n + 9)))
          panExit := max 1 (min 255 (r.byte (n + 10))) } : StabSettings)
        let same := fun n : Nat => (settings n).gain = r.half n ∧ (settings n).leakSteady = r.half (n + 3)
          ∧ (settings n).leakPan = r.half (n + 5) ∧ (settings n).panThreshold = r.half (n + 7)
          ∧ (settings n).panEnter = r.byte (n + 9) ∧ (settings n).panExit = r.byte (n + 10)
        exec .stabSetup s = .next (completed r
          (if same 4 ∧ same 15 ∧ 1000 ≤ r.half 26 ∧ r.half 26 ≤ 20000 then .done else .clamped) .none
          { popCommand s with stab := { s.stab with
            x := { s.stab.x with settings := settings 4 }, y := { s.stab.y with settings := settings 15 }
            pixelPitch := max 1000 (min 20000 (r.half 26)), optical := r.byte 28 == 1 } }))
      ∧ (
        let zeroed := { s.stab with x := { s.stab.x with acc := 0 }, y := { s.stab.y with acc := 0 } }
        (r.code = 0x0042 → StabMode.ofCode (r.byte 4) = none →
          exec .stabMode s = .next (completed r .refusedRange .none (popCommand s)))
        ∧ (∀ m, r.code = 0x0042 → StabMode.ofCode (r.byte 4) = some m →
          exec .stabMode s = .next (completed r .done .none { popCommand s with
            stab := { (if s.stab.mode = .off ∧ m ≠ .off then zeroed else s.stab) with mode := m } }))
        ∧ (r.code = 0x0044 → exec .stabRecentre s = .next (completed r .done .none { popCommand s with stab := zeroed }))
        ∧ (r.code = 0x0043 → s.stab.capture.isSome = true →
          exec .biasCapture s = .next (completed r .refusedBusy .none (popCommand s)))
        ∧ (r.code = 0x0043 → s.stab.capture = none →
          (s.gyro.state ≠ .running ∨ s.stab.x.pan = .panning ∨ s.stab.y.pan = .panning) →
          exec .biasCapture s = .next (completed r .refusedState .none (popCommand s)))
        ∧ (r.code = 0x0043 → s.stab.capture = none → s.gyro.state = .running → s.stab.x.pan = .steady →
          s.stab.y.pan = .steady →
          exec .biasCapture s = .next { popCommand s with
            stab := { s.stab with capture := some { count := 0, sumX := 0, sumY := 0, tag := r.tag } } }))

/-- OVERLAY BEGIN empties the EDIT slot's list. OVERLAY ELEMENT is refused REFUSED_RANGE for a kind that names none of the
five, a palette index above 7, a visibility or blink that names nothing, a TEXT source or scale that names nothing, STATIC
text longer than 16 or with a code outside 32 to 127, and a bar source that names nothing; and REFUSED_FULL with 32 elements
in the EDIT list; otherwise the element it names, its numbers brought into range and the fields that its kind does not use
stored as well (log entry 23), is appended, CLAMPED when a number was changed. OVERLAY COMMIT makes the EDIT slot PENDING; a
slot that was PENDING, else the FREE slot, becomes EDIT and is emptied. SET PALETTE refuses an index above 7, else replaces
that colour. SET ZEBRA refuses a mode that names nothing and, in BAND, a low bound above the high bound after clamping, else
replaces all five items. Values above 255 are stored as 255 and answered CLAMPED. Nothing else changes, the live snapshot
included. AUDIO ROUTE refuses an output or source outside 1 to 4 or a bad limiter flag; otherwise it replaces that output's
entry, the gain clamped or MUTE, and sets r to 16,384 when the limiter setting changes. AUDIO LIMITER and AUDIO METER store
their settings brought into range. AUDIO SYNC RESET clears drift, flag, phase and count and enters WAITING. CLAMPED when a
value was changed; nothing else changes. (R112, R119, R120, R121, R125, R126, R136, R138, R143, R147, R207) -/
def Obligations.OverlayAndAudioCommands : Prop :=
    ∀ (s : State) (r : CommandRecord), NextIs s r →
      (r.code = 0x0060 → (r.byte 4 = 0 ∨ 4 < r.byte 4 ∨ r.byte 5 = 0 ∨ 4 < r.byte 5 ∨ 1 < r.byte 8) →
        exec .audioRoute s = .next (completed r .refusedRange .none (popCommand s)))
      ∧ (∀ out source, r.code = 0x0060 → Channel.number out = r.byte 4 → Channel.number source = r.byte 5 → r.byte 8 ≤ 1 →
        let v := r.signedHalf 6
        let o := s.audio.outputs.get out
        let on := r.byte 8 == 1
        exec .audioRoute s = .next (completed r (if v = -32768 ∨ (-96 ≤ v ∧ v ≤ 48) then .done else .clamped) .none
          { popCommand s with audio := { s.audio with outputs := s.audio.outputs.set out { o with
            route := { source := source, gain := if v = -32768 then none else some (max (-96) (min 48 v)), limiter := on }
            r := if on = o.route.limiter then o.r else 16384 } } }))
      ∧ (r.code = 0x0061 → exec .audioLimiter s = .next (completed r
          (if 1 ≤ r.word 4 ∧ r.word 4 ≤ 8388607 ∧ 1 ≤ r.half 8 ∧ r.half 8 ≤ 1024 then .done else .clamped) .none
          { popCommand s with audio := { s.audio with
            threshold := max 1 (min 8388607 (r.word 4)), release := max 1 (min 1024 (r.half 8)) } }))
      ∧ (r.code = 0x0062 → exec .audioMeter s = .next (completed r
          (if 1 ≤ r.byte 4 ∧ r.byte 4 ≤ 15 ∧ r.half 6 ≤ 255 ∧ 1 ≤ r.half 8 ∧ r.half 8 ≤ 2000 then .done else .clamped) .none
          { popCommand s with audio := { s.audio with
            decayInterval := max 1 (min 15 (r.byte 4)), holdTime := min 255 (r.half 6)
            tolerance := max 1 (min 2000 (r.half 8)) } }))
      ∧ (r.code = 0x0063 → exec .audioSyncReset s = .next (completed r .done .none { popCommand s with
          audio := { s.audio with cadence := .waiting, count := 0, phase := 0, drift := 0, driftFlag := false } }))
      ∧ (
      let slots := fun f : OverlaySlot → OverlaySlot => { popCommand s with overlay := { s.overlay with
          s0 := f s.overlay.s0, s1 := f s.overlay.s1, s2 := f s.overlay.s2 } }
        let kind := r.byte 4 % 16
        let palette := r.byte 4 / 16
        let visibility := r.byte 5 % 16
        let blink := r.byte 5 / 16
        let detail := r.byte 6 % 16
        let scale := r.byte 6 / 16
        let text := r.bytes 16 (r.byte 7)
        let badText := kind = 3 ∧ (detail = 0 ∨ 6 < detail ∨ scale = 0 ∨ 2 < scale
          ∨ (detail = 1 ∧ (16 < r.byte 7 ∨ ∃ c ∈ text, c.toNat < 32 ∨ 127 < c.toNat)))
        let bad := kind = 0 ∨ 5 < kind ∨ 7 < palette ∨ visibility = 0 ∨ 8 < visibility ∨ 1 < blink ∨ badText
          ∨ (kind = 4 ∧ (detail = 0 ∨ 7 < detail))
        let t := max 1 (min 8 detail)
        let source := match detail with
          | 2 => TextSource.timecode
          | 3 => .focal
          | 4 => .iris
          | 5 => .zoom
          | 6 => .clip
          | _ => .static (text.map fun c => c.toNat)
        let bar := match detail with
          | 5 => BarSource.zoom
          | 6 => .focus
          | 7 => .ringFill
          | n => .audio (if n = 1 then .c1 else if n = 2 then .c2 else if n = 3 then .c3 else .c4)
        let named := match kind with
          | 1 => ElementKind.box t
          | 2 => .cross t
          | 3 => .text source scale
          | 4 => .bar bar
          | _ => .tally
        let condition := match visibility with
          | 2 => Visibility.recording
          | 3 => .standby
          | 4 => .overrun
          | 5 => .lensLost
          | 6 => .stabLimit
          | 7 => .audioOver
          | 8 => .avDrift
          | _ => .always
        let element : Element := {
          kind := named, x := min 4095 (r.half 8), y := min 4095 (r.half 10), w := max 1 (min 4096 (r.half 12))
          h := max 1 (min 4096 (r.half 14)), palette := palette, visibility := condition, blink := blink == 1
          detail := detail, scale := scale, text := if kind = 3 ∧ detail ≠ 1 then [] else text }
        let same := ((kind = 1 ∨ kind = 2) → 1 ≤ detail ∧ detail ≤ 8) ∧ r.half 8 ≤ 4095 ∧ r.half 10 ≤ 4095
          ∧ 1 ≤ r.half 12 ∧ r.half 12 ≤ 4096 ∧ 1 ≤ r.half 14 ∧ r.half 14 ≤ 4096
        let byte := fun n : Nat => byteOf (min 255 n)
        let colour : Colour := ⟨byte (r.half 6), byte (r.half 8), byte (r.half 10)⟩
        (r.code = 0x0050 → exec .overlayBegin s = .next (completed r .done .none
          (slots fun x => if x.state = .edit then { x with list := [] } else x)))
        ∧ (r.code = 0x0051 → bad → exec .overlayElement s = .next (completed r .refusedRange .none (popCommand s)))
        ∧ (r.code = 0x0051 → ¬ bad → 32 ≤ (s.overlay.listIn .edit).length →
          exec .overlayElement s = .next (completed r .refusedFull .none (popCommand s)))
        ∧ (∀ st, r.code = 0x0051 → ¬ bad → (s.overlay.listIn .edit).length < 32 →
          ((same ∧ st = .done) ∨ (¬ same ∧ st = .clamped)) → exec .overlayElement s = .next (completed r st .none
            (slots fun x => if x.state = .edit then { x with list := x.list ++ [element] } else x)))
        ∧ (r.code = 0x0052 →
          let pending := s.overlay.s0.state = .pending ∨ s.overlay.s1.state = .pending ∨ s.overlay.s2.state = .pending
          exec .overlayCommit s = .next (completed r .done .none (slots fun x =>
            if x.state = .edit then { x with state := .pending }
            else if x.state = .pending ∨ (x.state = .free ∧ ¬ pending) then { state := .edit, list := [] } else x)))
        ∧ (r.code = 0x0053 → 7 < r.byte 4 → exec .setPalette s = .next (completed r .refusedRange .none (popCommand s)))
        ∧ (r.code = 0x0053 → r.byte 4 ≤ 7 → exec .setPalette s = .next (completed r
            (if r.half 6 ≤ 255 ∧ r.half 8 ≤ 255 ∧ r.half 10 ≤ 255 then .done else .clamped) .none
            { popCommand s with overlay := { s.overlay with palette := s.overlay.palette.set (r.byte 4) colour } }))
        ∧ (r.code = 0x0054 → (ZebraMode.ofCode (r.byte 4) = none
            ∨ (r.byte 4 = 3 ∧ min 255 (r.half 10) < min 255 (r.half 8))) →
          exec .setZebra s = .next (completed r .refusedRange .none (popCommand s)))
        ∧ (∀ m, r.code = 0x0054 → ZebraMode.ofCode (r.byte 4) = some m →
          (m = .band → min 255 (r.half 8) ≤ min 255 (r.half 10)) → exec .setZebra s = .next (completed r
            (if r.half 6 ≤ 255 ∧ r.half 8 ≤ 255 ∧ r.half 10 ≤ 255 ∧ r.half 12 ≤ 255 then .done else .clamped) .none
            { popCommand s with overlay := { s.overlay with
              zebra := ⟨m, byte (r.half 6), byte (r.half 8), byte (r.half 10), byte (r.half 12)⟩ } })))

/-- A read's beats come back in one return or in several, each return handled under the state that then stands; that they go
upstream together once the last has come, and that slots are freed and D advanced only at the last return, is the model's
reading of R12, R169 and R195 (log entry 55). Data that no owner acts on goes unchanged. A report reader's whole read frees
each WRITTEN slot whose final beat it read; the slots are those of the REPORT window in force at the last return, not of the
read's acceptance, which is the model's choice (log entry 19). A whole card read at D moves D and G by its length, by G, or
by the distance to the end of a CLOSED oldest clip, whichever is least, and the level is evaluated; reaching that end drains
the clip, and the level is evaluated again (log entry 35). Ring offsets are those of the RECORD window in force at the last
return (log entry 34). The beats of an overlaid viewfinder read are drawn with the live snapshot and the SHOWN list, each at
its own place in the read; with an output origin beat among the read's beats the frame count grows before its first beats
are drawn, a PENDING slot is SHOWN with OVERLAY_SWAPPED, the SHOWN one FREE, and the snapshot is taken anew. Any other
viewfinder read is passed on. (R8, R12, R108, R110, R111, R116, R122, R130, R169, R170, R172, R195) -/
def Obligations.ReadDataReachesOwner : Prop :=
    ∀ (s : State) (p : PassBurst) (len : Nat) (cls : ReadClass) (beats : List BeatData),
      s.path.atMemory = some (.pass p) → p.body = .read len (some cls) → 1 ≤ beats.length →
      s.path.beatsBack.length + beats.length ≤ len →
      let back := s.path.beatsBack
      let whole := back.length + beats.length = len
      let passed := fun (t : State) (out : List BeatData) =>
        (whole → exec (.readReturn (some beats)) s = .next (finishResponse p.id (.data (back ++ out)) (answered t)))
        ∧ (¬ whole → exec (.readReturn (some beats)) s =
          .next { t with path := { t.path with beatsBack := back ++ out } })
      ((cls.window.role = .command ∨ cls.window.role = .audio ∨ cls.window.role = .metadata ∨ cls.window.role = .pass
          ∨ (cls.window.role = .frame ∧ cls.setIndex < 2) ∨ (cls.window.role = .record ∧ cls.setIndex = 0)) → passed s beats)
      ∧ ((cls.window.role = .report ∨ cls.window.role = .record) → ¬ whole → passed s beats)
      ∧ (∀ w, whole → cls.window.role = .report → s.window .report = some w →
        passed { s with report := { s.report with slots := s.report.slots.filter fun e =>
          !(e.2 == .written && p.issued ≤ w.base + 32 * e.1 + 24 && w.base + 32 * e.1 + 24 < p.issued + 8 * len) } } beats)
      ∧ (cls.window.role = .report → s.window .report = none → passed s beats)
      ∧ (whole → cls.window.role = .record → cls.setIndex = 1 →
        ((s.window .record = none ∨ s.record.drain = none) → passed s beats)
        ∧ ∀ w d, s.window .record = some w → s.record.drain = some d →
          let moved := fun k : Nat => evaluateLevel { s with record := { s.record with
            drain := some ((d + k) % w.size), guarded := s.record.guarded - k } }
          let most := min (8 * len) s.record.guarded
          (p.issued ≠ w.base + d → passed s beats)
          ∧ (p.issued = w.base + d →
            (s.record.clips = [] → passed (moved most) beats)
            ∧ ∀ c rest, s.record.clips = c :: rest →
              (c.state ≠ .closed → passed (moved most) beats)
              ∧ (∀ e, c.state = .closed → c.stop = some e →
                let k := min most ((e + w.size - d) % w.size)
                ((d + k) % w.size = e → passed (evaluateLevel (removeOldest .drained (moved k))) beats)
                ∧ ((d + k) % w.size ≠ e → passed (moved k) beats))))
      ∧ (∀ g, cls.window.role = .frame → cls.setIndex = 2 → cls.window.params = .frame g →
        (g.outputBuffer cls.window.base p.issued len = none → passed s beats)
        ∧ (∀ bf, g.outputBuffer cls.window.base p.issued len = some bf →
          let origin := cls.window.base + bf * g.stride + g.marginY * g.pitch + 2 * g.marginX
          let offset := p.issued + 8 * back.length - (cls.window.base + bf * g.stride)
          let clips := s.record.clips
          let i := s.lens.identity
          let count := s.overlay.frameCount + 1
          let snap : Snapshot := {
            count := count, palette := s.overlay.palette, zebra := s.overlay.zebra
            conditions := {
              recording := clips.any fun c => c.state == .opened
              standby := clips.all fun c => c.state != .opened && c.state != .armed
              overrun := decide (0 < s.overlay.overrunHold)
              lensLost := s.lens.link == .seeking || s.lens.link == .absent
              stabLimit := s.stab.limited, audioOver := decide (0 < s.overlay.clipHold), avDrift := s.audio.driftFlag }
            timecode := if s.frame.mode = .recRun then s.record.timecode else s.frame.timecode
            dropFrame := s.frame.dropFrame, focal := s.lens.focal
            lens := s.lens.position.map fun q => ⟨q.fNumber, q.zoom, q.focus⟩
            zoomMin := (i.map fun v => v.zoomMin).getD 0, zoomMax := (i.map fun v => v.zoomMax).getD 65535
            focusMin := (i.map fun v => v.focusMin).getD 0, focusMax := (i.map fun v => v.focusMax).getD 65535
            clip := clips.getLast?.map fun c => c.number
            meters := s.audio.outputs.map fun o => ⟨o.displayed, o.held⟩
            ring := s.ring.map fun v => (s.record.guarded, v.1) }
          let swap := fun x : OverlaySlot => if x.state = .pending then { x with state := .shown }
            else if x.state = .shown then { x with state := .free } else x
          let o := s.overlay
          ((back ≠ [] ∨ ∀ i, i < len → p.issued + 8 * i ≠ origin) →
            passed s (drawBeats o.snapshot (o.listIn .shown) g offset beats))
          ∧ (∀ i, back = [] → i < len → p.issued + 8 * i = origin →
            ((∀ x ∈ [o.s0, o.s1, o.s2], x.state ≠ .pending) →
              passed { s with overlay := { o with frameCount := count, snapshot := snap } }
                (drawBeats snap (o.listIn .shown) g offset beats))
            ∧ (∀ before x behind, [o.s0, o.s1, o.s2] = before ++ x :: behind → x.state = .pending →
              (∀ y ∈ before ++ behind, y.state ≠ .pending) →
              passed (raiseEvent (.overlaySwapped before.length x.list.length count) { s with overlay := { o with
                s0 := swap o.s0, s1 := swap o.s1, s2 := swap o.s2, frameCount := count, snapshot := snap } })
                (drawBeats snap x.list g offset beats)))))
end

