-- ==== Sys2Proof/Laws/State.lean ====
section
/-! SUPPORT. The fields of a state after a named update, and what a per-channel, per-engine or per-axis value reads after one
of its parts is replaced: each true by the definition of the update. -/

namespace Sys2Proof.Machine

@[simp] theorem reachTime_now (t : Nat) (s : State) : (reachTime t s).now = max s.now t := rfl

@[simp] theorem tick_now (s : State) : (tick s).now = s.now + 8 := rfl

/-! ### Per-channel, per-engine and per-axis values -/

@[simp] theorem PerChannel.get_set_self {α : Type} (p : PerChannel α) (c : Channel) (a : α) : (p.set c a).get c = a := by
  cases c <;> rfl

theorem PerChannel.get_set_other {α : Type} (p : PerChannel α) {c d : Channel} (a : α) (h : d ≠ c) :
    (p.set c a).get d = p.get d := by
  cases c <;> cases d <;> first | rfl | exact absurd rfl h

@[simp] theorem PerChannel.get_map {α β : Type} (f : α → β) (p : PerChannel α) (c : Channel) :
    (p.map f).get c = f (p.get c) := by
  cases c <;> rfl

@[simp] theorem MoveEngines.get_set_self (m : MoveEngines) (id : EngineId) (g : Engine) : (m.set id g).get id = g := by
  cases id <;> rfl

theorem MoveEngines.get_set_other (m : MoveEngines) {id other : EngineId} (g : Engine) (h : other ≠ id) :
    (m.set id g).get other = m.get other := by
  cases id <;> cases other <;> first | rfl | exact absurd rfl h

@[simp] theorem AxisController.get_set_self (c : AxisController) (a : Axis) (r : AxisRecord) : (c.set a r).get a = r := by
  cases a <;> rfl

theorem AxisController.get_set_other (c : AxisController) {a b : Axis} (r : AxisRecord) (h : b ≠ a) :
    (c.set a r).get b = c.get b := by
  cases a <;> cases b <;> first | rfl | exact absurd rfl h

/-! ### Pin reset -/

@[simp] theorem atPinReset_now (cws : BitVec 3) (e : Bool) : (State.atPinReset cws e).now = 0 := rfl
@[simp] theorem atPinReset_path (cws : BitVec 3) (e : Bool) : (State.atPinReset cws e).path = .reset cws := rfl
@[simp] theorem atPinReset_command (cws : BitVec 3) (e : Bool) :
    (State.atPinReset cws e).command = { queue := [], held := [] } := rfl
@[simp] theorem atPinReset_report (cws : BitVec 3) (e : Bool) : (State.atPinReset cws e).report = .reset := rfl
@[simp] theorem atPinReset_frame (cws : BitVec 3) (e : Bool) : (State.atPinReset cws e).frame = .reset := rfl
@[simp] theorem atPinReset_lens (cws : BitVec 3) (e : Bool) : (State.atPinReset cws e).lens = .reset e := rfl
@[simp] theorem atPinReset_axis (cws : BitVec 3) (e : Bool) : (State.atPinReset cws e).axis = .reset := rfl
@[simp] theorem atPinReset_engines (cws : BitVec 3) (e : Bool) :
    (State.atPinReset cws e).engines = ⟨.reset, .reset, .reset⟩ := rfl
@[simp] theorem atPinReset_gyro (cws : BitVec 3) (e : Bool) : (State.atPinReset cws e).gyro = .reset := rfl
@[simp] theorem atPinReset_stab (cws : BitVec 3) (e : Bool) : (State.atPinReset cws e).stab = .reset := rfl
@[simp] theorem atPinReset_overlay (cws : BitVec 3) (e : Bool) : (State.atPinReset cws e).overlay = .reset := rfl
@[simp] theorem atPinReset_audio (cws : BitVec 3) (e : Bool) : (State.atPinReset cws e).audio = .reset := rfl
@[simp] theorem atPinReset_record (cws : BitVec 3) (e : Bool) : (State.atPinReset cws e).record = .reset := rfl
@[simp] theorem atPinReset_metadata (cws : BitVec 3) (e : Bool) : (State.atPinReset cws e).metadata = .reset := rfl
@[simp] theorem atPinReset_pending (cws : BitVec 3) (e : Bool) : (State.atPinReset cws e).pending = [] := rfl

end Sys2Proof.Machine
end

