-- ==== Sys2Proof/Laws/Frames.lean ====
section
/-! SUPPORT. What each operation leaves alone: for every operation over State, the blocks it does not touch. Each lemma is a
conjunction of equations, so that simp rewrites with each of them. -/

namespace Sys2Proof.Machine

/-! ### Time, events and reports -/

@[simp] theorem reachTime_frame (t : Nat) (s : State) :
    (reachTime t s).straps = s.straps ∧ (reachTime t s).path = s.path ∧ (reachTime t s).command = s.command ∧
    (reachTime t s).report = s.report ∧ (reachTime t s).frame = s.frame ∧ (reachTime t s).lens = s.lens ∧
    (reachTime t s).axis = s.axis ∧ (reachTime t s).engines = s.engines ∧ (reachTime t s).gyro = s.gyro ∧
    (reachTime t s).stab = s.stab ∧ (reachTime t s).overlay = s.overlay ∧ (reachTime t s).audio = s.audio ∧
    (reachTime t s).record = s.record ∧ (reachTime t s).metadata = s.metadata ∧ (reachTime t s).pending = s.pending := by
  simp [reachTime]

@[simp] theorem tick_frame (s : State) :
    (tick s).straps = s.straps ∧ (tick s).path = s.path ∧ (tick s).command = s.command ∧
    (tick s).report = s.report ∧ (tick s).frame = s.frame ∧ (tick s).lens = s.lens ∧
    (tick s).axis = s.axis ∧ (tick s).engines = s.engines ∧ (tick s).gyro = s.gyro ∧
    (tick s).stab = s.stab ∧ (tick s).overlay = s.overlay ∧ (tick s).audio = s.audio ∧
    (tick s).record = s.record ∧ (tick s).metadata = s.metadata ∧ (tick s).pending = s.pending := by
  simp [tick]

@[simp] theorem evaluateAttn_frame (s : State) :
    (evaluateAttn s).now = s.now ∧ (evaluateAttn s).straps = s.straps ∧ (evaluateAttn s).path = s.path ∧
    (evaluateAttn s).command = s.command ∧ (evaluateAttn s).frame = s.frame ∧ (evaluateAttn s).lens = s.lens ∧
    (evaluateAttn s).axis = s.axis ∧ (evaluateAttn s).engines = s.engines ∧ (evaluateAttn s).gyro = s.gyro ∧
    (evaluateAttn s).stab = s.stab ∧ (evaluateAttn s).overlay = s.overlay ∧ (evaluateAttn s).audio = s.audio ∧
    (evaluateAttn s).record = s.record ∧ (evaluateAttn s).metadata = s.metadata ∧ (evaluateAttn s).pending = s.pending := by
  simp [evaluateAttn]

@[simp] theorem markPending_frame (k : EventKind) (s : State) :
    (markPending k s).now = s.now ∧ (markPending k s).straps = s.straps ∧ (markPending k s).path = s.path ∧
    (markPending k s).command = s.command ∧ (markPending k s).frame = s.frame ∧ (markPending k s).lens = s.lens ∧
    (markPending k s).axis = s.axis ∧ (markPending k s).engines = s.engines ∧ (markPending k s).gyro = s.gyro ∧
    (markPending k s).stab = s.stab ∧ (markPending k s).overlay = s.overlay ∧ (markPending k s).audio = s.audio ∧
    (markPending k s).record = s.record ∧ (markPending k s).metadata = s.metadata ∧ (markPending k s).pending = s.pending := by
  simp [markPending]

@[simp] theorem dropEvent_frame (k : EventKind) (s : State) :
    (dropEvent k s).now = s.now ∧ (dropEvent k s).straps = s.straps ∧ (dropEvent k s).path = s.path ∧
    (dropEvent k s).command = s.command ∧ (dropEvent k s).frame = s.frame ∧ (dropEvent k s).lens = s.lens ∧
    (dropEvent k s).axis = s.axis ∧ (dropEvent k s).engines = s.engines ∧ (dropEvent k s).gyro = s.gyro ∧
    (dropEvent k s).stab = s.stab ∧ (dropEvent k s).overlay = s.overlay ∧ (dropEvent k s).audio = s.audio ∧
    (dropEvent k s).record = s.record ∧ (dropEvent k s).metadata = s.metadata ∧ (dropEvent k s).pending = s.pending := by
  simp only [dropEvent]
  repeat' split
  all_goals simp

@[simp] theorem moveCommandWindow_frame (w : WindowRecord) (s : State) :
    (moveCommandWindow w s).now = s.now ∧ (moveCommandWindow w s).straps = s.straps ∧ (moveCommandWindow w s).command = s.command ∧
    (moveCommandWindow w s).report = s.report ∧ (moveCommandWindow w s).frame = s.frame ∧ (moveCommandWindow w s).lens = s.lens ∧
    (moveCommandWindow w s).axis = s.axis ∧ (moveCommandWindow w s).engines = s.engines ∧ (moveCommandWindow w s).gyro = s.gyro ∧
    (moveCommandWindow w s).stab = s.stab ∧ (moveCommandWindow w s).overlay = s.overlay ∧ (moveCommandWindow w s).audio = s.audio ∧
    (moveCommandWindow w s).record = s.record ∧ (moveCommandWindow w s).metadata = s.metadata ∧ (moveCommandWindow w s).pending = s.pending := by
  simp [moveCommandWindow]

@[simp] theorem applyMove_frame (r : Report) (s : State) :
    (applyMove r s).now = s.now ∧ (applyMove r s).straps = s.straps ∧ (applyMove r s).command = s.command ∧
    (applyMove r s).report = s.report ∧ (applyMove r s).frame = s.frame ∧ (applyMove r s).lens = s.lens ∧
    (applyMove r s).axis = s.axis ∧ (applyMove r s).engines = s.engines ∧ (applyMove r s).gyro = s.gyro ∧
    (applyMove r s).stab = s.stab ∧ (applyMove r s).overlay = s.overlay ∧ (applyMove r s).audio = s.audio ∧
    (applyMove r s).record = s.record ∧ (applyMove r s).metadata = s.metadata ∧ (applyMove r s).pending = s.pending := by
  simp only [applyMove]
  repeat' split
  all_goals simp

@[simp] theorem enqueueReport_frame (r : Report) (s : State) :
    (enqueueReport r s).now = s.now ∧ (enqueueReport r s).straps = s.straps ∧ (enqueueReport r s).command = s.command ∧
    (enqueueReport r s).frame = s.frame ∧ (enqueueReport r s).lens = s.lens ∧ (enqueueReport r s).axis = s.axis ∧
    (enqueueReport r s).engines = s.engines ∧ (enqueueReport r s).gyro = s.gyro ∧ (enqueueReport r s).stab = s.stab ∧
    (enqueueReport r s).overlay = s.overlay ∧ (enqueueReport r s).audio = s.audio ∧ (enqueueReport r s).record = s.record ∧
    (enqueueReport r s).metadata = s.metadata ∧ (enqueueReport r s).pending = s.pending := by
  simp [enqueueReport]

@[simp] theorem offer_frame (r : Report) (s : State) :
    (offer r s).now = s.now ∧ (offer r s).straps = s.straps ∧ (offer r s).frame = s.frame ∧
    (offer r s).lens = s.lens ∧ (offer r s).axis = s.axis ∧ (offer r s).engines = s.engines ∧
    (offer r s).gyro = s.gyro ∧ (offer r s).stab = s.stab ∧ (offer r s).overlay = s.overlay ∧
    (offer r s).audio = s.audio ∧ (offer r s).record = s.record ∧ (offer r s).metadata = s.metadata ∧
    (offer r s).pending = s.pending := by
  simp only [offer]
  repeat' split
  all_goals simp

/-- A report that moves no window leaves the path unit alone. -/
@[simp] theorem offer_completion_path (st : Status) (tag code : Half) (res : CommandResult) (s : State) :
    (offer (.completion st tag code res none) s).path = s.path := by
  simp only [offer, enqueueReport, applyMove]
  repeat' split
  all_goals rfl

/-- A STATUS report leaves the path unit alone. -/
@[simp] theorem offer_status_path (b p n : Nat) (tag : Half) (items : List Byte) (s : State) :
    (offer (.status b p n tag items) s).path = s.path := by
  simp only [offer, enqueueReport, applyMove]
  repeat' split
  all_goals rfl

/-- Applying the moves of reports one after another changes the window table alone. -/
@[simp] theorem foldl_applyMove_frame (rs : List Report) (s : State) :
    (rs.foldl (fun s r => applyMove r s) s).now = s.now ∧ (rs.foldl (fun s r => applyMove r s) s).straps = s.straps ∧
    (rs.foldl (fun s r => applyMove r s) s).command = s.command ∧
    (rs.foldl (fun s r => applyMove r s) s).report = s.report ∧
    (rs.foldl (fun s r => applyMove r s) s).frame = s.frame ∧ (rs.foldl (fun s r => applyMove r s) s).lens = s.lens ∧
    (rs.foldl (fun s r => applyMove r s) s).axis = s.axis ∧ (rs.foldl (fun s r => applyMove r s) s).engines = s.engines ∧
    (rs.foldl (fun s r => applyMove r s) s).gyro = s.gyro ∧ (rs.foldl (fun s r => applyMove r s) s).stab = s.stab ∧
    (rs.foldl (fun s r => applyMove r s) s).overlay = s.overlay ∧ (rs.foldl (fun s r => applyMove r s) s).audio = s.audio ∧
    (rs.foldl (fun s r => applyMove r s) s).record = s.record ∧
    (rs.foldl (fun s r => applyMove r s) s).metadata = s.metadata ∧
    (rs.foldl (fun s r => applyMove r s) s).pending = s.pending := by
  induction rs generalizing s with
  | nil => simp
  | cons r rs ih => simp [ih]

@[simp] theorem occur_frame (k : EventKind) (p : EventPayload) (sw : Bool) (s : State) :
    (occur k p sw s).now = s.now ∧ (occur k p sw s).straps = s.straps ∧ (occur k p sw s).path = s.path ∧
    (occur k p sw s).command = s.command ∧ (occur k p sw s).frame = s.frame ∧ (occur k p sw s).lens = s.lens ∧
    (occur k p sw s).axis = s.axis ∧ (occur k p sw s).engines = s.engines ∧ (occur k p sw s).gyro = s.gyro ∧
    (occur k p sw s).stab = s.stab ∧ (occur k p sw s).overlay = s.overlay ∧ (occur k p sw s).audio = s.audio ∧
    (occur k p sw s).record = s.record ∧ (occur k p sw s).metadata = s.metadata ∧ (occur k p sw s).pending = s.pending := by
  simp only [occur, offer]
  repeat' split
  all_goals simp [enqueueReport, applyMove]

@[simp] theorem raiseEvent_frame (p : EventPayload) (s : State) :
    (raiseEvent p s).now = s.now ∧ (raiseEvent p s).straps = s.straps ∧ (raiseEvent p s).path = s.path ∧
    (raiseEvent p s).command = s.command ∧ (raiseEvent p s).frame = s.frame ∧ (raiseEvent p s).lens = s.lens ∧
    (raiseEvent p s).axis = s.axis ∧ (raiseEvent p s).engines = s.engines ∧ (raiseEvent p s).gyro = s.gyro ∧
    (raiseEvent p s).stab = s.stab ∧ (raiseEvent p s).overlay = s.overlay ∧ (raiseEvent p s).audio = s.audio ∧
    (raiseEvent p s).record = s.record ∧ (raiseEvent p s).metadata = s.metadata ∧ (raiseEvent p s).pending = s.pending := by
  simp [raiseEvent]

@[simp] theorem raiseAll_frame (ps : List EventPayload) (s : State) :
    (raiseAll ps s).now = s.now ∧ (raiseAll ps s).straps = s.straps ∧ (raiseAll ps s).path = s.path ∧
    (raiseAll ps s).command = s.command ∧ (raiseAll ps s).frame = s.frame ∧ (raiseAll ps s).lens = s.lens ∧
    (raiseAll ps s).axis = s.axis ∧ (raiseAll ps s).engines = s.engines ∧ (raiseAll ps s).gyro = s.gyro ∧
    (raiseAll ps s).stab = s.stab ∧ (raiseAll ps s).overlay = s.overlay ∧ (raiseAll ps s).audio = s.audio ∧
    (raiseAll ps s).record = s.record ∧ (raiseAll ps s).metadata = s.metadata ∧ (raiseAll ps s).pending = s.pending := by
  induction ps generalizing s with
  | nil => simp [raiseAll]
  | cons p ps ih => simp [raiseAll, ih]

@[simp] theorem loseRecord_frame (w : InjectedWrite) (s : State) :
    (loseRecord w s).now = s.now ∧ (loseRecord w s).straps = s.straps ∧ (loseRecord w s).path = s.path ∧
    (loseRecord w s).command = s.command ∧ (loseRecord w s).frame = s.frame ∧ (loseRecord w s).lens = s.lens ∧
    (loseRecord w s).axis = s.axis ∧ (loseRecord w s).engines = s.engines ∧ (loseRecord w s).gyro = s.gyro ∧
    (loseRecord w s).stab = s.stab ∧ (loseRecord w s).overlay = s.overlay ∧ (loseRecord w s).audio = s.audio ∧
    (loseRecord w s).record = s.record ∧ (loseRecord w s).metadata = s.metadata ∧ (loseRecord w s).pending = s.pending := by
  simp only [loseRecord]
  repeat' split
  all_goals simp

@[simp] theorem startReportRing_frame (s : State) :
    (startReportRing s).now = s.now ∧ (startReportRing s).straps = s.straps ∧ (startReportRing s).command = s.command ∧
    (startReportRing s).frame = s.frame ∧ (startReportRing s).lens = s.lens ∧ (startReportRing s).axis = s.axis ∧
    (startReportRing s).engines = s.engines ∧ (startReportRing s).gyro = s.gyro ∧ (startReportRing s).stab = s.stab ∧
    (startReportRing s).overlay = s.overlay ∧ (startReportRing s).audio = s.audio ∧ (startReportRing s).record = s.record ∧
    (startReportRing s).metadata = s.metadata ∧ (startReportRing s).pending = s.pending := by
  simp [startReportRing]

@[simp] theorem discardReports_frame (s : State) :
    (discardReports s).now = s.now ∧ (discardReports s).straps = s.straps ∧ (discardReports s).frame = s.frame ∧
    (discardReports s).lens = s.lens ∧ (discardReports s).axis = s.axis ∧ (discardReports s).engines = s.engines ∧
    (discardReports s).gyro = s.gyro ∧ (discardReports s).stab = s.stab ∧ (discardReports s).overlay = s.overlay ∧
    (discardReports s).audio = s.audio ∧ (discardReports s).record = s.record ∧ (discardReports s).metadata = s.metadata ∧
    (discardReports s).pending = s.pending := by
  simp [discardReports]

/-! ### Frame tracker, axes and engines -/

@[simp] theorem emptyHistory_frame (s : State) :
    (emptyHistory s).now = s.now ∧ (emptyHistory s).straps = s.straps ∧ (emptyHistory s).path = s.path ∧
    (emptyHistory s).command = s.command ∧ (emptyHistory s).report = s.report ∧ (emptyHistory s).lens = s.lens ∧
    (emptyHistory s).axis = s.axis ∧ (emptyHistory s).engines = s.engines ∧ (emptyHistory s).gyro = s.gyro ∧
    (emptyHistory s).stab = s.stab ∧ (emptyHistory s).overlay = s.overlay ∧ (emptyHistory s).audio = s.audio ∧
    (emptyHistory s).record = s.record ∧ (emptyHistory s).metadata = s.metadata ∧ (emptyHistory s).pending = s.pending := by
  simp [emptyHistory]

@[simp] theorem resetFrame_frame (s : State) :
    (resetFrame s).now = s.now ∧ (resetFrame s).straps = s.straps ∧ (resetFrame s).path = s.path ∧
    (resetFrame s).command = s.command ∧ (resetFrame s).lens = s.lens ∧ (resetFrame s).axis = s.axis ∧
    (resetFrame s).engines = s.engines ∧ (resetFrame s).gyro = s.gyro ∧ (resetFrame s).stab = s.stab ∧
    (resetFrame s).overlay = s.overlay ∧ (resetFrame s).audio = s.audio ∧ (resetFrame s).record = s.record ∧
    (resetFrame s).metadata = s.metadata ∧ (resetFrame s).pending = s.pending := by
  simp only [resetFrame]
  repeat' split
  all_goals simp

@[simp] theorem applyEngineStep_frame (id : EngineId) (r : EngineStep) (s : State) :
    (applyEngineStep id r s).now = s.now ∧ (applyEngineStep id r s).straps = s.straps ∧
    (applyEngineStep id r s).path = s.path ∧ (applyEngineStep id r s).command = s.command ∧
    (applyEngineStep id r s).frame = s.frame ∧ (applyEngineStep id r s).lens = s.lens ∧
    (applyEngineStep id r s).axis = s.axis ∧ (applyEngineStep id r s).gyro = s.gyro ∧
    (applyEngineStep id r s).stab = s.stab ∧ (applyEngineStep id r s).overlay = s.overlay ∧
    (applyEngineStep id r s).audio = s.audio ∧ (applyEngineStep id r s).record = s.record ∧
    (applyEngineStep id r s).metadata = s.metadata ∧ (applyEngineStep id r s).pending = s.pending := by
  simp [applyEngineStep]

@[simp] theorem linkLoss_frame (s : State) :
    (linkLoss s).now = s.now ∧ (linkLoss s).straps = s.straps ∧ (linkLoss s).path = s.path ∧
    (linkLoss s).command = s.command ∧ (linkLoss s).report = s.report ∧ (linkLoss s).frame = s.frame ∧
    (linkLoss s).lens = s.lens ∧ (linkLoss s).axis = s.axis ∧ (linkLoss s).gyro = s.gyro ∧
    (linkLoss s).stab = s.stab ∧ (linkLoss s).overlay = s.overlay ∧ (linkLoss s).audio = s.audio ∧
    (linkLoss s).record = s.record ∧ (linkLoss s).metadata = s.metadata ∧ (linkLoss s).pending = s.pending := by
  simp [linkLoss]

@[simp] theorem flushAll_frame (s : State) :
    (flushAll s).now = s.now ∧ (flushAll s).straps = s.straps ∧ (flushAll s).path = s.path ∧
    (flushAll s).command = s.command ∧ (flushAll s).report = s.report ∧ (flushAll s).frame = s.frame ∧
    (flushAll s).lens = s.lens ∧ (flushAll s).axis = s.axis ∧ (flushAll s).gyro = s.gyro ∧
    (flushAll s).stab = s.stab ∧ (flushAll s).overlay = s.overlay ∧ (flushAll s).audio = s.audio ∧
    (flushAll s).record = s.record ∧ (flushAll s).metadata = s.metadata ∧ (flushAll s).pending = s.pending := by
  simp [flushAll]

@[simp] theorem resetEngines_frame (s : State) :
    (resetEngines s).now = s.now ∧ (resetEngines s).straps = s.straps ∧ (resetEngines s).path = s.path ∧
    (resetEngines s).command = s.command ∧ (resetEngines s).report = s.report ∧ (resetEngines s).frame = s.frame ∧
    (resetEngines s).lens = s.lens ∧ (resetEngines s).axis = s.axis ∧ (resetEngines s).gyro = s.gyro ∧
    (resetEngines s).stab = s.stab ∧ (resetEngines s).overlay = s.overlay ∧ (resetEngines s).audio = s.audio ∧
    (resetEngines s).record = s.record ∧ (resetEngines s).metadata = s.metadata ∧ (resetEngines s).pending = s.pending := by
  simp [resetEngines]

@[simp] theorem takeOver_frame (a : Axis) (new : Source) (s : State) :
    (takeOver a new s).now = s.now ∧ (takeOver a new s).straps = s.straps ∧ (takeOver a new s).path = s.path ∧
    (takeOver a new s).command = s.command ∧ (takeOver a new s).frame = s.frame ∧ (takeOver a new s).lens = s.lens ∧
    (takeOver a new s).gyro = s.gyro ∧ (takeOver a new s).stab = s.stab ∧ (takeOver a new s).overlay = s.overlay ∧
    (takeOver a new s).audio = s.audio ∧ (takeOver a new s).record = s.record ∧ (takeOver a new s).metadata = s.metadata ∧
    (takeOver a new s).pending = s.pending := by
  simp only [takeOver]
  repeat' split
  all_goals simp

@[simp] theorem zoomTakeover_frame (s : State) :
    (zoomTakeover s).now = s.now ∧ (zoomTakeover s).straps = s.straps ∧ (zoomTakeover s).path = s.path ∧
    (zoomTakeover s).command = s.command ∧ (zoomTakeover s).frame = s.frame ∧ (zoomTakeover s).lens = s.lens ∧
    (zoomTakeover s).gyro = s.gyro ∧ (zoomTakeover s).stab = s.stab ∧ (zoomTakeover s).overlay = s.overlay ∧
    (zoomTakeover s).audio = s.audio ∧ (zoomTakeover s).record = s.record ∧ (zoomTakeover s).metadata = s.metadata ∧
    (zoomTakeover s).pending = s.pending := by
  simp only [zoomTakeover]
  repeat' split
  all_goals simp

@[simp] theorem focusTakeover_frame (s : State) :
    (focusTakeover s).now = s.now ∧ (focusTakeover s).straps = s.straps ∧ (focusTakeover s).path = s.path ∧
    (focusTakeover s).command = s.command ∧ (focusTakeover s).frame = s.frame ∧ (focusTakeover s).lens = s.lens ∧
    (focusTakeover s).gyro = s.gyro ∧ (focusTakeover s).stab = s.stab ∧ (focusTakeover s).overlay = s.overlay ∧
    (focusTakeover s).audio = s.audio ∧ (focusTakeover s).record = s.record ∧ (focusTakeover s).metadata = s.metadata ∧
    (focusTakeover s).pending = s.pending := by
  simp only [focusTakeover]
  repeat' split
  all_goals simp

@[simp] theorem storeDemands_frame (s : State) :
    (storeDemands s).now = s.now ∧ (storeDemands s).straps = s.straps ∧ (storeDemands s).path = s.path ∧
    (storeDemands s).command = s.command ∧ (storeDemands s).report = s.report ∧ (storeDemands s).frame = s.frame ∧
    (storeDemands s).lens = s.lens ∧ (storeDemands s).engines = s.engines ∧ (storeDemands s).gyro = s.gyro ∧
    (storeDemands s).stab = s.stab ∧ (storeDemands s).overlay = s.overlay ∧ (storeDemands s).audio = s.audio ∧
    (storeDemands s).record = s.record ∧ (storeDemands s).metadata = s.metadata ∧ (storeDemands s).pending = s.pending := by
  simp [storeDemands]

@[simp] theorem engineStages_frame (w : EngineId → Bool) (s : State) :
    (engineStages w s).now = s.now ∧ (engineStages w s).straps = s.straps ∧ (engineStages w s).path = s.path ∧
    (engineStages w s).command = s.command ∧ (engineStages w s).frame = s.frame ∧ (engineStages w s).lens = s.lens ∧
    (engineStages w s).axis = s.axis ∧ (engineStages w s).gyro = s.gyro ∧ (engineStages w s).stab = s.stab ∧
    (engineStages w s).overlay = s.overlay ∧ (engineStages w s).audio = s.audio ∧ (engineStages w s).record = s.record ∧
    (engineStages w s).metadata = s.metadata ∧ (engineStages w s).pending = s.pending := by
  simp [engineStages]

@[simp] theorem demandOperation_frame (s : State) :
    (demandOperation s).now = s.now ∧ (demandOperation s).straps = s.straps ∧ (demandOperation s).path = s.path ∧
    (demandOperation s).command = s.command ∧ (demandOperation s).frame = s.frame ∧ (demandOperation s).lens = s.lens ∧
    (demandOperation s).gyro = s.gyro ∧ (demandOperation s).stab = s.stab ∧ (demandOperation s).overlay = s.overlay ∧
    (demandOperation s).audio = s.audio ∧ (demandOperation s).record = s.record ∧ (demandOperation s).metadata = s.metadata ∧
    (demandOperation s).pending = s.pending := by
  simp [demandOperation]

@[simp] theorem align_frame (p : Position) (s : State) :
    (align p s).now = s.now ∧ (align p s).straps = s.straps ∧ (align p s).path = s.path ∧
    (align p s).command = s.command ∧ (align p s).report = s.report ∧ (align p s).frame = s.frame ∧
    (align p s).lens = s.lens ∧ (align p s).gyro = s.gyro ∧ (align p s).stab = s.stab ∧
    (align p s).overlay = s.overlay ∧ (align p s).audio = s.audio ∧ (align p s).record = s.record ∧
    (align p s).metadata = s.metadata ∧ (align p s).pending = s.pending := by
  simp [align]

@[simp] theorem resetAxes_frame (s : State) :
    (resetAxes s).now = s.now ∧ (resetAxes s).straps = s.straps ∧ (resetAxes s).path = s.path ∧
    (resetAxes s).command = s.command ∧ (resetAxes s).report = s.report ∧ (resetAxes s).frame = s.frame ∧
    (resetAxes s).lens = s.lens ∧ (resetAxes s).engines = s.engines ∧ (resetAxes s).gyro = s.gyro ∧
    (resetAxes s).stab = s.stab ∧ (resetAxes s).overlay = s.overlay ∧ (resetAxes s).audio = s.audio ∧
    (resetAxes s).record = s.record ∧ (resetAxes s).metadata = s.metadata ∧ (resetAxes s).pending = s.pending := by
  simp [resetAxes]

/-! ### Gyro port and stabiliser -/

@[simp] theorem endCapture_frame (st : Status) (n : Nat) (tag : Half) (s : State) :
    (endCapture st n tag s).now = s.now ∧ (endCapture st n tag s).straps = s.straps ∧ (endCapture st n tag s).path = s.path ∧
    (endCapture st n tag s).frame = s.frame ∧ (endCapture st n tag s).lens = s.lens ∧ (endCapture st n tag s).axis = s.axis ∧
    (endCapture st n tag s).engines = s.engines ∧ (endCapture st n tag s).gyro = s.gyro ∧ (endCapture st n tag s).overlay = s.overlay ∧
    (endCapture st n tag s).audio = s.audio ∧ (endCapture st n tag s).record = s.record ∧ (endCapture st n tag s).metadata = s.metadata ∧
    (endCapture st n tag s).pending = s.pending := by
  simp [endCapture]

@[simp] theorem abortCapture_frame (s : State) :
    (abortCapture s).now = s.now ∧ (abortCapture s).straps = s.straps ∧ (abortCapture s).path = s.path ∧
    (abortCapture s).frame = s.frame ∧ (abortCapture s).lens = s.lens ∧ (abortCapture s).axis = s.axis ∧
    (abortCapture s).engines = s.engines ∧ (abortCapture s).gyro = s.gyro ∧ (abortCapture s).overlay = s.overlay ∧
    (abortCapture s).audio = s.audio ∧ (abortCapture s).record = s.record ∧ (abortCapture s).metadata = s.metadata ∧
    (abortCapture s).pending = s.pending := by
  simp only [abortCapture]
  repeat' split
  all_goals simp

@[simp] theorem collectSample_frame (good : Bool) (rates : Int × Int) (s : State) :
    (collectSample good rates s).now = s.now ∧ (collectSample good rates s).straps = s.straps ∧
    (collectSample good rates s).path = s.path ∧ (collectSample good rates s).frame = s.frame ∧
    (collectSample good rates s).lens = s.lens ∧ (collectSample good rates s).axis = s.axis ∧
    (collectSample good rates s).engines = s.engines ∧ (collectSample good rates s).gyro = s.gyro ∧
    (collectSample good rates s).overlay = s.overlay ∧ (collectSample good rates s).audio = s.audio ∧
    (collectSample good rates s).record = s.record ∧ (collectSample good rates s).metadata = s.metadata ∧
    (collectSample good rates s).pending = s.pending := by
  simp only [collectSample]
  repeat' split
  all_goals simp

@[simp] theorem reportPan_frame (a : ImageAxis) (b c : PanState) (s : State) :
    (reportPan a b c s).now = s.now ∧ (reportPan a b c s).straps = s.straps ∧ (reportPan a b c s).path = s.path ∧
    (reportPan a b c s).frame = s.frame ∧ (reportPan a b c s).lens = s.lens ∧ (reportPan a b c s).axis = s.axis ∧
    (reportPan a b c s).engines = s.engines ∧ (reportPan a b c s).gyro = s.gyro ∧ (reportPan a b c s).overlay = s.overlay ∧
    (reportPan a b c s).audio = s.audio ∧ (reportPan a b c s).record = s.record ∧ (reportPan a b c s).metadata = s.metadata ∧
    (reportPan a b c s).pending = s.pending := by
  simp only [reportPan]
  repeat' split
  all_goals simp

@[simp] theorem enterFailed_frame (s : State) :
    (enterFailed s).now = s.now ∧ (enterFailed s).straps = s.straps ∧ (enterFailed s).path = s.path ∧
    (enterFailed s).frame = s.frame ∧ (enterFailed s).lens = s.lens ∧ (enterFailed s).axis = s.axis ∧
    (enterFailed s).engines = s.engines ∧ (enterFailed s).gyro = s.gyro ∧ (enterFailed s).overlay = s.overlay ∧
    (enterFailed s).audio = s.audio ∧ (enterFailed s).record = s.record ∧ (enterFailed s).metadata = s.metadata ∧
    (enterFailed s).pending = s.pending := by
  simp [enterFailed]

@[simp] theorem detectPans_frame (rx ry : Int) (s : State) :
    (detectPans rx ry s).now = s.now ∧ (detectPans rx ry s).straps = s.straps ∧ (detectPans rx ry s).path = s.path ∧
    (detectPans rx ry s).frame = s.frame ∧ (detectPans rx ry s).lens = s.lens ∧ (detectPans rx ry s).axis = s.axis ∧
    (detectPans rx ry s).engines = s.engines ∧ (detectPans rx ry s).gyro = s.gyro ∧ (detectPans rx ry s).overlay = s.overlay ∧
    (detectPans rx ry s).audio = s.audio ∧ (detectPans rx ry s).record = s.record ∧ (detectPans rx ry s).metadata = s.metadata ∧
    (detectPans rx ry s).pending = s.pending := by
  simp only [detectPans]
  repeat' split
  all_goals simp

@[simp] theorem integrateBoth_frame (rx ry : Int) (s : State) :
    (integrateBoth rx ry s).now = s.now ∧ (integrateBoth rx ry s).straps = s.straps ∧ (integrateBoth rx ry s).path = s.path ∧
    (integrateBoth rx ry s).command = s.command ∧ (integrateBoth rx ry s).report = s.report ∧ (integrateBoth rx ry s).frame = s.frame ∧
    (integrateBoth rx ry s).lens = s.lens ∧ (integrateBoth rx ry s).axis = s.axis ∧ (integrateBoth rx ry s).engines = s.engines ∧
    (integrateBoth rx ry s).gyro = s.gyro ∧ (integrateBoth rx ry s).overlay = s.overlay ∧ (integrateBoth rx ry s).audio = s.audio ∧
    (integrateBoth rx ry s).record = s.record ∧ (integrateBoth rx ry s).metadata = s.metadata ∧ (integrateBoth rx ry s).pending = s.pending := by
  simp [integrateBoth]

@[simp] theorem sampleEnds_frame (b : GyroBytes) (s : State) :
    (sampleEnds b s).now = s.now ∧ (sampleEnds b s).straps = s.straps ∧ (sampleEnds b s).path = s.path ∧
    (sampleEnds b s).frame = s.frame ∧ (sampleEnds b s).lens = s.lens ∧ (sampleEnds b s).axis = s.axis ∧
    (sampleEnds b s).engines = s.engines ∧ (sampleEnds b s).overlay = s.overlay ∧ (sampleEnds b s).audio = s.audio ∧
    (sampleEnds b s).record = s.record ∧ (sampleEnds b s).metadata = s.metadata ∧ (sampleEnds b s).pending = s.pending := by
  simp only [sampleEnds]
  repeat' split
  all_goals simp

@[simp] theorem stabMark_frame (m : Option (Nat × Nat)) (s : State) :
    (stabMark m s).1.now = s.now ∧ (stabMark m s).1.straps = s.straps ∧ (stabMark m s).1.path = s.path ∧
    (stabMark m s).1.command = s.command ∧ (stabMark m s).1.report = s.report ∧ (stabMark m s).1.frame = s.frame ∧
    (stabMark m s).1.lens = s.lens ∧ (stabMark m s).1.axis = s.axis ∧ (stabMark m s).1.engines = s.engines ∧
    (stabMark m s).1.gyro = s.gyro ∧ (stabMark m s).1.overlay = s.overlay ∧ (stabMark m s).1.audio = s.audio ∧
    (stabMark m s).1.record = s.record ∧ (stabMark m s).1.metadata = s.metadata ∧ (stabMark m s).1.pending = s.pending := by
  simp only [stabMark]
  repeat' split
  all_goals simp

@[simp] theorem latchLimited_frame (q : Half) (c : Correction) (s : State) :
    (latchLimited q c s).now = s.now ∧ (latchLimited q c s).straps = s.straps ∧ (latchLimited q c s).path = s.path ∧
    (latchLimited q c s).command = s.command ∧ (latchLimited q c s).frame = s.frame ∧ (latchLimited q c s).lens = s.lens ∧
    (latchLimited q c s).axis = s.axis ∧ (latchLimited q c s).engines = s.engines ∧ (latchLimited q c s).gyro = s.gyro ∧
    (latchLimited q c s).overlay = s.overlay ∧ (latchLimited q c s).audio = s.audio ∧ (latchLimited q c s).record = s.record ∧
    (latchLimited q c s).metadata = s.metadata ∧ (latchLimited q c s).pending = s.pending := by
  simp only [latchLimited]
  repeat' split
  all_goals simp

@[simp] theorem recentre_frame (s : State) :
    (recentre s).now = s.now ∧ (recentre s).straps = s.straps ∧ (recentre s).path = s.path ∧
    (recentre s).command = s.command ∧ (recentre s).report = s.report ∧ (recentre s).frame = s.frame ∧
    (recentre s).lens = s.lens ∧ (recentre s).axis = s.axis ∧ (recentre s).engines = s.engines ∧
    (recentre s).gyro = s.gyro ∧ (recentre s).overlay = s.overlay ∧ (recentre s).audio = s.audio ∧
    (recentre s).record = s.record ∧ (recentre s).metadata = s.metadata ∧ (recentre s).pending = s.pending := by
  simp [recentre]

@[simp] theorem resetStab_frame (s : State) :
    (resetStab s).now = s.now ∧ (resetStab s).straps = s.straps ∧ (resetStab s).path = s.path ∧
    (resetStab s).frame = s.frame ∧ (resetStab s).lens = s.lens ∧ (resetStab s).axis = s.axis ∧
    (resetStab s).engines = s.engines ∧ (resetStab s).overlay = s.overlay ∧ (resetStab s).audio = s.audio ∧
    (resetStab s).record = s.record ∧ (resetStab s).metadata = s.metadata ∧ (resetStab s).pending = s.pending := by
  simp only [resetStab]
  repeat' split
  all_goals simp

/-! ### Record tracker -/

@[simp] theorem evaluateLevel_frame (s : State) :
    (evaluateLevel s).now = s.now ∧ (evaluateLevel s).straps = s.straps ∧ (evaluateLevel s).path = s.path ∧
    (evaluateLevel s).command = s.command ∧ (evaluateLevel s).frame = s.frame ∧ (evaluateLevel s).lens = s.lens ∧
    (evaluateLevel s).axis = s.axis ∧ (evaluateLevel s).engines = s.engines ∧ (evaluateLevel s).gyro = s.gyro ∧
    (evaluateLevel s).stab = s.stab ∧ (evaluateLevel s).overlay = s.overlay ∧ (evaluateLevel s).audio = s.audio ∧
    (evaluateLevel s).metadata = s.metadata ∧ (evaluateLevel s).pending = s.pending := by
  simp only [evaluateLevel]
  repeat' split
  all_goals simp

@[simp] theorem newRing_frame (s : State) :
    (newRing s).now = s.now ∧ (newRing s).straps = s.straps ∧ (newRing s).path = s.path ∧
    (newRing s).command = s.command ∧ (newRing s).report = s.report ∧ (newRing s).frame = s.frame ∧
    (newRing s).lens = s.lens ∧ (newRing s).axis = s.axis ∧ (newRing s).engines = s.engines ∧
    (newRing s).gyro = s.gyro ∧ (newRing s).stab = s.stab ∧ (newRing s).overlay = s.overlay ∧
    (newRing s).audio = s.audio ∧ (newRing s).metadata = s.metadata ∧ (newRing s).pending = s.pending := by
  simp [newRing]

@[simp] theorem defineDrain_frame (n : Nat) (s : State) :
    (defineDrain n s).now = s.now ∧ (defineDrain n s).straps = s.straps ∧ (defineDrain n s).path = s.path ∧
    (defineDrain n s).command = s.command ∧ (defineDrain n s).report = s.report ∧ (defineDrain n s).frame = s.frame ∧
    (defineDrain n s).lens = s.lens ∧ (defineDrain n s).axis = s.axis ∧ (defineDrain n s).engines = s.engines ∧
    (defineDrain n s).gyro = s.gyro ∧ (defineDrain n s).stab = s.stab ∧ (defineDrain n s).overlay = s.overlay ∧
    (defineDrain n s).audio = s.audio ∧ (defineDrain n s).metadata = s.metadata ∧ (defineDrain n s).pending = s.pending := by
  simp only [defineDrain]
  repeat' split
  all_goals simp

@[simp] theorem removeOldest_frame (st : ClipState) (s : State) :
    (removeOldest st s).now = s.now ∧ (removeOldest st s).straps = s.straps ∧ (removeOldest st s).path = s.path ∧
    (removeOldest st s).command = s.command ∧ (removeOldest st s).frame = s.frame ∧ (removeOldest st s).lens = s.lens ∧
    (removeOldest st s).axis = s.axis ∧ (removeOldest st s).engines = s.engines ∧ (removeOldest st s).gyro = s.gyro ∧
    (removeOldest st s).stab = s.stab ∧ (removeOldest st s).overlay = s.overlay ∧ (removeOldest st s).audio = s.audio ∧
    (removeOldest st s).metadata = s.metadata ∧ (removeOldest st s).pending = s.pending := by
  simp only [removeOldest]
  repeat' split
  all_goals simp

@[simp] theorem drainIfDue_frame (s : State) :
    (drainIfDue s).now = s.now ∧ (drainIfDue s).straps = s.straps ∧ (drainIfDue s).path = s.path ∧
    (drainIfDue s).command = s.command ∧ (drainIfDue s).frame = s.frame ∧ (drainIfDue s).lens = s.lens ∧
    (drainIfDue s).axis = s.axis ∧ (drainIfDue s).engines = s.engines ∧ (drainIfDue s).gyro = s.gyro ∧
    (drainIfDue s).stab = s.stab ∧ (drainIfDue s).overlay = s.overlay ∧ (drainIfDue s).audio = s.audio ∧
    (drainIfDue s).metadata = s.metadata ∧ (drainIfDue s).pending = s.pending := by
  simp only [drainIfDue]
  repeat' split
  all_goals simp

@[simp] theorem holdBackWrite_frame (off : Nat) (h : Option HeaderFields) (s : State) :
    (holdBackWrite off h s).now = s.now ∧ (holdBackWrite off h s).straps = s.straps ∧ (holdBackWrite off h s).path = s.path ∧
    (holdBackWrite off h s).command = s.command ∧ (holdBackWrite off h s).frame = s.frame ∧ (holdBackWrite off h s).lens = s.lens ∧
    (holdBackWrite off h s).axis = s.axis ∧ (holdBackWrite off h s).engines = s.engines ∧ (holdBackWrite off h s).gyro = s.gyro ∧
    (holdBackWrite off h s).stab = s.stab ∧ (holdBackWrite off h s).audio = s.audio ∧ (holdBackWrite off h s).metadata = s.metadata ∧
    (holdBackWrite off h s).pending = s.pending := by
  simp only [holdBackWrite]
  repeat' split
  all_goals simp

@[simp] theorem closeAt_frame (off : Nat) (q : Option Half) (s : State) :
    (closeAt off q s).now = s.now ∧ (closeAt off q s).straps = s.straps ∧ (closeAt off q s).path = s.path ∧
    (closeAt off q s).command = s.command ∧ (closeAt off q s).frame = s.frame ∧ (closeAt off q s).lens = s.lens ∧
    (closeAt off q s).axis = s.axis ∧ (closeAt off q s).engines = s.engines ∧ (closeAt off q s).gyro = s.gyro ∧
    (closeAt off q s).stab = s.stab ∧ (closeAt off q s).overlay = s.overlay ∧ (closeAt off q s).audio = s.audio ∧
    (closeAt off q s).metadata = s.metadata ∧ (closeAt off q s).pending = s.pending := by
  simp only [closeAt]
  repeat' split
  all_goals simp

@[simp] theorem openAt_frame (off : Nat) (q : Option Half) (ra : Bool) (s : State) :
    (openAt off q ra s).1.now = s.now ∧ (openAt off q ra s).1.straps = s.straps ∧ (openAt off q ra s).1.path = s.path ∧
    (openAt off q ra s).1.command = s.command ∧ (openAt off q ra s).1.frame = s.frame ∧ (openAt off q ra s).1.lens = s.lens ∧
    (openAt off q ra s).1.axis = s.axis ∧ (openAt off q ra s).1.engines = s.engines ∧ (openAt off q ra s).1.gyro = s.gyro ∧
    (openAt off q ra s).1.stab = s.stab ∧ (openAt off q ra s).1.overlay = s.overlay ∧ (openAt off q ra s).1.audio = s.audio ∧
    (openAt off q ra s).1.metadata = s.metadata ∧ (openAt off q ra s).1.pending = s.pending := by
  simp only [openAt]
  repeat' split
  all_goals simp

@[simp] theorem forwardHeader_frame (off : Nat) (h : HeaderFields) (beats : List Beat) (s : State) :
    (forwardHeader off h beats s).1.now = s.now ∧ (forwardHeader off h beats s).1.straps = s.straps ∧
    (forwardHeader off h beats s).1.path = s.path ∧ (forwardHeader off h beats s).1.command = s.command ∧
    (forwardHeader off h beats s).1.frame = s.frame ∧ (forwardHeader off h beats s).1.lens = s.lens ∧
    (forwardHeader off h beats s).1.axis = s.axis ∧ (forwardHeader off h beats s).1.engines = s.engines ∧
    (forwardHeader off h beats s).1.gyro = s.gyro ∧ (forwardHeader off h beats s).1.stab = s.stab ∧
    (forwardHeader off h beats s).1.overlay = s.overlay ∧ (forwardHeader off h beats s).1.audio = s.audio ∧
    (forwardHeader off h beats s).1.metadata = s.metadata ∧ (forwardHeader off h beats s).1.pending = s.pending := by
  simp [forwardHeader]

@[simp] theorem moveWriteEnd_frame (size off len : Nat) (s : State) :
    (moveWriteEnd size off len s).now = s.now ∧ (moveWriteEnd size off len s).straps = s.straps ∧
    (moveWriteEnd size off len s).path = s.path ∧ (moveWriteEnd size off len s).command = s.command ∧
    (moveWriteEnd size off len s).report = s.report ∧ (moveWriteEnd size off len s).frame = s.frame ∧
    (moveWriteEnd size off len s).lens = s.lens ∧ (moveWriteEnd size off len s).axis = s.axis ∧
    (moveWriteEnd size off len s).engines = s.engines ∧ (moveWriteEnd size off len s).gyro = s.gyro ∧
    (moveWriteEnd size off len s).stab = s.stab ∧ (moveWriteEnd size off len s).overlay = s.overlay ∧
    (moveWriteEnd size off len s).audio = s.audio ∧ (moveWriteEnd size off len s).metadata = s.metadata ∧
    (moveWriteEnd size off len s).pending = s.pending := by
  simp [moveWriteEnd]

@[simp] theorem forwardEncoderWrite_frame (size : Nat) (r : RingSetup) (base addr : Nat) (beats : List Beat) (s : State) :
    (forwardEncoderWrite size r base addr beats s).1.now = s.now ∧ (forwardEncoderWrite size r base addr beats s).1.straps = s.straps ∧
    (forwardEncoderWrite size r base addr beats s).1.path = s.path ∧ (forwardEncoderWrite size r base addr beats s).1.command = s.command ∧
    (forwardEncoderWrite size r base addr beats s).1.frame = s.frame ∧ (forwardEncoderWrite size r base addr beats s).1.lens = s.lens ∧
    (forwardEncoderWrite size r base addr beats s).1.axis = s.axis ∧ (forwardEncoderWrite size r base addr beats s).1.engines = s.engines ∧
    (forwardEncoderWrite size r base addr beats s).1.gyro = s.gyro ∧ (forwardEncoderWrite size r base addr beats s).1.stab = s.stab ∧
    (forwardEncoderWrite size r base addr beats s).1.overlay = s.overlay ∧ (forwardEncoderWrite size r base addr beats s).1.audio = s.audio ∧
    (forwardEncoderWrite size r base addr beats s).1.metadata = s.metadata ∧ (forwardEncoderWrite size r base addr beats s).1.pending = s.pending := by
  simp only [forwardEncoderWrite]
  repeat' split
  all_goals simp

@[simp] theorem encoderWrite_frame (w : WindowRecord) (addr : Nat) (beats : List Beat) (s : State) :
    (encoderWrite w addr beats s).1.now = s.now ∧ (encoderWrite w addr beats s).1.straps = s.straps ∧
    (encoderWrite w addr beats s).1.path = s.path ∧ (encoderWrite w addr beats s).1.command = s.command ∧
    (encoderWrite w addr beats s).1.frame = s.frame ∧ (encoderWrite w addr beats s).1.lens = s.lens ∧
    (encoderWrite w addr beats s).1.axis = s.axis ∧ (encoderWrite w addr beats s).1.engines = s.engines ∧
    (encoderWrite w addr beats s).1.gyro = s.gyro ∧ (encoderWrite w addr beats s).1.stab = s.stab ∧
    (encoderWrite w addr beats s).1.audio = s.audio ∧ (encoderWrite w addr beats s).1.metadata = s.metadata ∧
    (encoderWrite w addr beats s).1.pending = s.pending := by
  simp only [encoderWrite]
  repeat' split
  all_goals simp

@[simp] theorem cardRead_frame (addr len : Nat) (s : State) :
    (cardRead addr len s).now = s.now ∧ (cardRead addr len s).straps = s.straps ∧ (cardRead addr len s).path = s.path ∧
    (cardRead addr len s).command = s.command ∧ (cardRead addr len s).frame = s.frame ∧ (cardRead addr len s).lens = s.lens ∧
    (cardRead addr len s).axis = s.axis ∧ (cardRead addr len s).engines = s.engines ∧ (cardRead addr len s).gyro = s.gyro ∧
    (cardRead addr len s).stab = s.stab ∧ (cardRead addr len s).overlay = s.overlay ∧ (cardRead addr len s).audio = s.audio ∧
    (cardRead addr len s).metadata = s.metadata ∧ (cardRead addr len s).pending = s.pending := by
  simp only [cardRead]
  repeat' split
  all_goals simp

@[simp] theorem addClip_frame (st : ClipState) (n : Option Nat) (q : Option Half) (s : State) :
    (addClip st n q s).now = s.now ∧ (addClip st n q s).straps = s.straps ∧ (addClip st n q s).path = s.path ∧
    (addClip st n q s).command = s.command ∧ (addClip st n q s).frame = s.frame ∧ (addClip st n q s).lens = s.lens ∧
    (addClip st n q s).axis = s.axis ∧ (addClip st n q s).engines = s.engines ∧ (addClip st n q s).gyro = s.gyro ∧
    (addClip st n q s).stab = s.stab ∧ (addClip st n q s).overlay = s.overlay ∧ (addClip st n q s).audio = s.audio ∧
    (addClip st n q s).metadata = s.metadata ∧ (addClip st n q s).pending = s.pending := by
  simp only [addClip]
  repeat' split
  all_goals simp

@[simp] theorem recStartWith_frame (n : Option Nat) (s : State) :
    (recStartWith n s).1.now = s.now ∧ (recStartWith n s).1.straps = s.straps ∧ (recStartWith n s).1.path = s.path ∧
    (recStartWith n s).1.command = s.command ∧ (recStartWith n s).1.frame = s.frame ∧ (recStartWith n s).1.lens = s.lens ∧
    (recStartWith n s).1.axis = s.axis ∧ (recStartWith n s).1.engines = s.engines ∧ (recStartWith n s).1.gyro = s.gyro ∧
    (recStartWith n s).1.stab = s.stab ∧ (recStartWith n s).1.overlay = s.overlay ∧ (recStartWith n s).1.audio = s.audio ∧
    (recStartWith n s).1.metadata = s.metadata ∧ (recStartWith n s).1.pending = s.pending := by
  unfold recStartWith
  repeat' split
  all_goals simp [completes, refuses]
  all_goals (split <;> simp)

@[simp] theorem recStopNow_frame (s : State) :
    (recStopNow s).1.now = s.now ∧ (recStopNow s).1.straps = s.straps ∧ (recStopNow s).1.path = s.path ∧
    (recStopNow s).1.command = s.command ∧ (recStopNow s).1.frame = s.frame ∧ (recStopNow s).1.lens = s.lens ∧
    (recStopNow s).1.axis = s.axis ∧ (recStopNow s).1.engines = s.engines ∧ (recStopNow s).1.gyro = s.gyro ∧
    (recStopNow s).1.stab = s.stab ∧ (recStopNow s).1.overlay = s.overlay ∧ (recStopNow s).1.audio = s.audio ∧
    (recStopNow s).1.metadata = s.metadata ∧ (recStopNow s).1.pending = s.pending := by
  unfold recStopNow
  repeat' split
  all_goals simp [completes, refuses]

@[simp] theorem recordButton_frame (s : State) :
    (recordButton s).now = s.now ∧ (recordButton s).straps = s.straps ∧ (recordButton s).path = s.path ∧
    (recordButton s).command = s.command ∧ (recordButton s).frame = s.frame ∧ (recordButton s).lens = s.lens ∧
    (recordButton s).axis = s.axis ∧ (recordButton s).engines = s.engines ∧ (recordButton s).gyro = s.gyro ∧
    (recordButton s).stab = s.stab ∧ (recordButton s).overlay = s.overlay ∧ (recordButton s).audio = s.audio ∧
    (recordButton s).metadata = s.metadata ∧ (recordButton s).pending = s.pending := by
  simp only [recordButton]
  repeat' split
  all_goals simp

@[simp] theorem resetRecord_frame (s : State) :
    (resetRecord s).now = s.now ∧ (resetRecord s).straps = s.straps ∧ (resetRecord s).path = s.path ∧
    (resetRecord s).command = s.command ∧ (resetRecord s).frame = s.frame ∧ (resetRecord s).lens = s.lens ∧
    (resetRecord s).axis = s.axis ∧ (resetRecord s).engines = s.engines ∧ (resetRecord s).gyro = s.gyro ∧
    (resetRecord s).stab = s.stab ∧ (resetRecord s).overlay = s.overlay ∧ (resetRecord s).audio = s.audio ∧
    (resetRecord s).metadata = s.metadata ∧ (resetRecord s).pending = s.pending := by
  simp only [resetRecord]
  repeat' split
  all_goals simp

/-! ### Lens link -/

@[simp] theorem raiseLensState_frame (b : Bool) (s : State) :
    (raiseLensState b s).now = s.now ∧ (raiseLensState b s).straps = s.straps ∧ (raiseLensState b s).path = s.path ∧
    (raiseLensState b s).command = s.command ∧ (raiseLensState b s).frame = s.frame ∧ (raiseLensState b s).lens = s.lens ∧
    (raiseLensState b s).axis = s.axis ∧ (raiseLensState b s).engines = s.engines ∧ (raiseLensState b s).gyro = s.gyro ∧
    (raiseLensState b s).stab = s.stab ∧ (raiseLensState b s).overlay = s.overlay ∧ (raiseLensState b s).audio = s.audio ∧
    (raiseLensState b s).record = s.record ∧ (raiseLensState b s).metadata = s.metadata ∧ (raiseLensState b s).pending = s.pending := by
  simp [raiseLensState]

@[simp] theorem enterSeeking_frame (s : State) :
    (enterSeeking s).now = s.now ∧ (enterSeeking s).straps = s.straps ∧ (enterSeeking s).path = s.path ∧
    (enterSeeking s).command = s.command ∧ (enterSeeking s).report = s.report ∧ (enterSeeking s).frame = s.frame ∧
    (enterSeeking s).axis = s.axis ∧ (enterSeeking s).engines = s.engines ∧ (enterSeeking s).gyro = s.gyro ∧
    (enterSeeking s).stab = s.stab ∧ (enterSeeking s).overlay = s.overlay ∧ (enterSeeking s).audio = s.audio ∧
    (enterSeeking s).record = s.record ∧ (enterSeeking s).metadata = s.metadata ∧ (enterSeeking s).pending = s.pending := by
  simp [enterSeeking]

@[simp] theorem enterAbsent_frame (s : State) :
    (enterAbsent s).now = s.now ∧ (enterAbsent s).straps = s.straps ∧ (enterAbsent s).path = s.path ∧
    (enterAbsent s).command = s.command ∧ (enterAbsent s).report = s.report ∧ (enterAbsent s).frame = s.frame ∧
    (enterAbsent s).axis = s.axis ∧ (enterAbsent s).engines = s.engines ∧ (enterAbsent s).gyro = s.gyro ∧
    (enterAbsent s).stab = s.stab ∧ (enterAbsent s).overlay = s.overlay ∧ (enterAbsent s).audio = s.audio ∧
    (enterAbsent s).record = s.record ∧ (enterAbsent s).metadata = s.metadata ∧ (enterAbsent s).pending = s.pending := by
  simp [enterAbsent]

@[simp] theorem becomeOnline_frame (s : State) :
    (becomeOnline s).now = s.now ∧ (becomeOnline s).straps = s.straps ∧ (becomeOnline s).path = s.path ∧
    (becomeOnline s).command = s.command ∧ (becomeOnline s).report = s.report ∧ (becomeOnline s).frame = s.frame ∧
    (becomeOnline s).axis = s.axis ∧ (becomeOnline s).engines = s.engines ∧ (becomeOnline s).gyro = s.gyro ∧
    (becomeOnline s).stab = s.stab ∧ (becomeOnline s).overlay = s.overlay ∧ (becomeOnline s).audio = s.audio ∧
    (becomeOnline s).record = s.record ∧ (becomeOnline s).metadata = s.metadata ∧ (becomeOnline s).pending = s.pending := by
  simp [becomeOnline]

@[simp] theorem missCycle_frame (s : State) :
    (missCycle s).now = s.now ∧ (missCycle s).straps = s.straps ∧ (missCycle s).path = s.path ∧
    (missCycle s).command = s.command ∧ (missCycle s).frame = s.frame ∧ (missCycle s).axis = s.axis ∧
    (missCycle s).gyro = s.gyro ∧ (missCycle s).stab = s.stab ∧ (missCycle s).overlay = s.overlay ∧
    (missCycle s).audio = s.audio ∧ (missCycle s).record = s.record ∧ (missCycle s).metadata = s.metadata ∧
    (missCycle s).pending = s.pending := by
  simp only [missCycle]
  repeat' split
  all_goals simp

@[simp] theorem endHeldWindow_frame (n : Nat) (s : State) :
    (endHeldWindow n s).now = s.now ∧ (endHeldWindow n s).straps = s.straps ∧ (endHeldWindow n s).path = s.path ∧
    (endHeldWindow n s).command = s.command ∧ (endHeldWindow n s).frame = s.frame ∧ (endHeldWindow n s).axis = s.axis ∧
    (endHeldWindow n s).gyro = s.gyro ∧ (endHeldWindow n s).stab = s.stab ∧ (endHeldWindow n s).overlay = s.overlay ∧
    (endHeldWindow n s).audio = s.audio ∧ (endHeldWindow n s).record = s.record ∧ (endHeldWindow n s).metadata = s.metadata ∧
    (endHeldWindow n s).pending = s.pending := by
  simp only [endHeldWindow]
  repeat' split
  all_goals simp

@[simp] theorem lapseProvisional_frame (s : State) :
    (lapseProvisional s).now = s.now ∧ (lapseProvisional s).straps = s.straps ∧ (lapseProvisional s).path = s.path ∧
    (lapseProvisional s).command = s.command ∧ (lapseProvisional s).report = s.report ∧ (lapseProvisional s).frame = s.frame ∧
    (lapseProvisional s).axis = s.axis ∧ (lapseProvisional s).engines = s.engines ∧ (lapseProvisional s).gyro = s.gyro ∧
    (lapseProvisional s).stab = s.stab ∧ (lapseProvisional s).overlay = s.overlay ∧ (lapseProvisional s).audio = s.audio ∧
    (lapseProvisional s).record = s.record ∧ (lapseProvisional s).metadata = s.metadata ∧ (lapseProvisional s).pending = s.pending := by
  simp only [lapseProvisional]
  repeat' split
  all_goals simp

@[simp] theorem abandonFrame_frame (a : Assembly) (s : State) :
    (abandonFrame a s).now = s.now ∧ (abandonFrame a s).straps = s.straps ∧ (abandonFrame a s).path = s.path ∧
    (abandonFrame a s).command = s.command ∧ (abandonFrame a s).frame = s.frame ∧ (abandonFrame a s).axis = s.axis ∧
    (abandonFrame a s).gyro = s.gyro ∧ (abandonFrame a s).stab = s.stab ∧ (abandonFrame a s).overlay = s.overlay ∧
    (abandonFrame a s).audio = s.audio ∧ (abandonFrame a s).record = s.record ∧ (abandonFrame a s).metadata = s.metadata ∧
    (abandonFrame a s).pending = s.pending := by
  simp only [abandonFrame]
  repeat' split
  all_goals simp

@[simp] theorem abandonOnGap_frame (s : State) :
    (abandonOnGap s).now = s.now ∧ (abandonOnGap s).straps = s.straps ∧ (abandonOnGap s).path = s.path ∧
    (abandonOnGap s).command = s.command ∧ (abandonOnGap s).frame = s.frame ∧ (abandonOnGap s).axis = s.axis ∧
    (abandonOnGap s).gyro = s.gyro ∧ (abandonOnGap s).stab = s.stab ∧ (abandonOnGap s).overlay = s.overlay ∧
    (abandonOnGap s).audio = s.audio ∧ (abandonOnGap s).record = s.record ∧ (abandonOnGap s).metadata = s.metadata ∧
    (abandonOnGap s).pending = s.pending := by
  simp only [abandonOnGap]
  repeat' split
  all_goals simp

@[simp] theorem storePosition_frame (p : Position) (s : State) :
    (storePosition p s).now = s.now ∧ (storePosition p s).straps = s.straps ∧ (storePosition p s).path = s.path ∧
    (storePosition p s).command = s.command ∧ (storePosition p s).report = s.report ∧ (storePosition p s).frame = s.frame ∧
    (storePosition p s).axis = s.axis ∧ (storePosition p s).engines = s.engines ∧ (storePosition p s).gyro = s.gyro ∧
    (storePosition p s).stab = s.stab ∧ (storePosition p s).overlay = s.overlay ∧ (storePosition p s).audio = s.audio ∧
    (storePosition p s).record = s.record ∧ (storePosition p s).metadata = s.metadata ∧ (storePosition p s).pending = s.pending := by
  simp [storePosition]

@[simp] theorem takePosition_frame (p : Position) (s : State) :
    (takePosition p s).now = s.now ∧ (takePosition p s).straps = s.straps ∧ (takePosition p s).path = s.path ∧
    (takePosition p s).command = s.command ∧ (takePosition p s).frame = s.frame ∧ (takePosition p s).axis = s.axis ∧
    (takePosition p s).engines = s.engines ∧ (takePosition p s).gyro = s.gyro ∧ (takePosition p s).stab = s.stab ∧
    (takePosition p s).overlay = s.overlay ∧ (takePosition p s).audio = s.audio ∧ (takePosition p s).record = s.record ∧
    (takePosition p s).metadata = s.metadata ∧ (takePosition p s).pending = s.pending := by
  simp only [takePosition]
  repeat' split
  all_goals simp

@[simp] theorem completeReply_frame (i : Identity) (p : Position) (s : State) :
    (completeReply i p s).now = s.now ∧ (completeReply i p s).straps = s.straps ∧ (completeReply i p s).path = s.path ∧
    (completeReply i p s).command = s.command ∧ (completeReply i p s).frame = s.frame ∧ (completeReply i p s).gyro = s.gyro ∧
    (completeReply i p s).stab = s.stab ∧ (completeReply i p s).overlay = s.overlay ∧ (completeReply i p s).audio = s.audio ∧
    (completeReply i p s).record = s.record ∧ (completeReply i p s).metadata = s.metadata ∧ (completeReply i p s).pending = s.pending := by
  simp only [completeReply]
  repeat' split
  all_goals simp

@[simp] theorem answerCycle_frame (n : Nat) (s : State) :
    (answerCycle n s).now = s.now ∧ (answerCycle n s).straps = s.straps ∧ (answerCycle n s).path = s.path ∧
    (answerCycle n s).command = s.command ∧ (answerCycle n s).report = s.report ∧ (answerCycle n s).frame = s.frame ∧
    (answerCycle n s).axis = s.axis ∧ (answerCycle n s).engines = s.engines ∧ (answerCycle n s).gyro = s.gyro ∧
    (answerCycle n s).stab = s.stab ∧ (answerCycle n s).overlay = s.overlay ∧ (answerCycle n s).audio = s.audio ∧
    (answerCycle n s).record = s.record ∧ (answerCycle n s).metadata = s.metadata ∧ (answerCycle n s).pending = s.pending := by
  simp only [answerCycle]
  repeat' split
  all_goals simp

@[simp] theorem positionArrives_frame (n : Nat) (p : Position) (s : State) :
    (positionArrives n p s).now = s.now ∧ (positionArrives n p s).straps = s.straps ∧ (positionArrives n p s).path = s.path ∧
    (positionArrives n p s).command = s.command ∧ (positionArrives n p s).frame = s.frame ∧ (positionArrives n p s).gyro = s.gyro ∧
    (positionArrives n p s).stab = s.stab ∧ (positionArrives n p s).overlay = s.overlay ∧ (positionArrives n p s).audio = s.audio ∧
    (positionArrives n p s).record = s.record ∧ (positionArrives n p s).metadata = s.metadata ∧ (positionArrives n p s).pending = s.pending := by
  simp only [positionArrives]
  repeat' split
  all_goals simp

@[simp] theorem identityArrives_frame (n : Nat) (i : Identity) (s : State) :
    (identityArrives n i s).now = s.now ∧ (identityArrives n i s).straps = s.straps ∧ (identityArrives n i s).path = s.path ∧
    (identityArrives n i s).command = s.command ∧ (identityArrives n i s).frame = s.frame ∧ (identityArrives n i s).axis = s.axis ∧
    (identityArrives n i s).gyro = s.gyro ∧ (identityArrives n i s).stab = s.stab ∧ (identityArrives n i s).overlay = s.overlay ∧
    (identityArrives n i s).audio = s.audio ∧ (identityArrives n i s).record = s.record ∧ (identityArrives n i s).metadata = s.metadata ∧
    (identityArrives n i s).pending = s.pending := by
  simp only [identityArrives]
  repeat' split
  all_goals simp

@[simp] theorem noticeArrives_frame (n : Nat) (k : Notice) (s : State) :
    (noticeArrives n k s).now = s.now ∧ (noticeArrives n k s).straps = s.straps ∧ (noticeArrives n k s).path = s.path ∧
    (noticeArrives n k s).command = s.command ∧ (noticeArrives n k s).frame = s.frame ∧ (noticeArrives n k s).axis = s.axis ∧
    (noticeArrives n k s).gyro = s.gyro ∧ (noticeArrives n k s).stab = s.stab ∧ (noticeArrives n k s).overlay = s.overlay ∧
    (noticeArrives n k s).audio = s.audio ∧ (noticeArrives n k s).metadata = s.metadata ∧ (noticeArrives n k s).pending = s.pending := by
  simp only [noticeArrives]
  repeat' split
  all_goals simp

@[simp] theorem nothingTaken_frame (n : Nat) (s : State) :
    (nothingTaken n s).now = s.now ∧ (nothingTaken n s).straps = s.straps ∧ (nothingTaken n s).path = s.path ∧
    (nothingTaken n s).command = s.command ∧ (nothingTaken n s).frame = s.frame ∧ (nothingTaken n s).axis = s.axis ∧
    (nothingTaken n s).gyro = s.gyro ∧ (nothingTaken n s).stab = s.stab ∧ (nothingTaken n s).overlay = s.overlay ∧
    (nothingTaken n s).audio = s.audio ∧ (nothingTaken n s).record = s.record ∧ (nothingTaken n s).metadata = s.metadata ∧
    (nothingTaken n s).pending = s.pending := by
  simp [nothingTaken]

@[simp] theorem frameTaken_frame (n : Nat) (r : Received) (s : State) :
    (frameTaken n r s).now = s.now ∧ (frameTaken n r s).straps = s.straps ∧ (frameTaken n r s).path = s.path ∧
    (frameTaken n r s).command = s.command ∧ (frameTaken n r s).frame = s.frame ∧ (frameTaken n r s).gyro = s.gyro ∧
    (frameTaken n r s).stab = s.stab ∧ (frameTaken n r s).overlay = s.overlay ∧ (frameTaken n r s).audio = s.audio ∧
    (frameTaken n r s).metadata = s.metadata ∧ (frameTaken n r s).pending = s.pending := by
  simp only [frameTaken]
  repeat' split
  all_goals simp

@[simp] theorem applyReception_frame (n : Nat) (r : Reception) (s : State) :
    (applyReception n r s).now = s.now ∧ (applyReception n r s).straps = s.straps ∧ (applyReception n r s).path = s.path ∧
    (applyReception n r s).command = s.command ∧ (applyReception n r s).frame = s.frame ∧ (applyReception n r s).gyro = s.gyro ∧
    (applyReception n r s).stab = s.stab ∧ (applyReception n r s).overlay = s.overlay ∧ (applyReception n r s).audio = s.audio ∧
    (applyReception n r s).metadata = s.metadata ∧ (applyReception n r s).pending = s.pending := by
  simp only [applyReception]
  repeat' split
  all_goals simp

@[simp] theorem readOwn_frame (b : Byte) (s : State) :
    (readOwn s b).now = s.now ∧ (readOwn s b).straps = s.straps ∧ (readOwn s b).path = s.path ∧
    (readOwn s b).command = s.command ∧ (readOwn s b).frame = s.frame ∧ (readOwn s b).gyro = s.gyro ∧
    (readOwn s b).stab = s.stab ∧ (readOwn s b).overlay = s.overlay ∧ (readOwn s b).audio = s.audio ∧
    (readOwn s b).metadata = s.metadata ∧ (readOwn s b).pending = s.pending := by
  simp [readOwn]

/-- Reading own characters one after another. -/
@[simp] theorem readOwns_frame (bs : List Byte) (s : State) :
    (bs.foldl readOwn s).now = s.now ∧ (bs.foldl readOwn s).straps = s.straps ∧ (bs.foldl readOwn s).path = s.path ∧
    (bs.foldl readOwn s).command = s.command ∧ (bs.foldl readOwn s).frame = s.frame ∧ (bs.foldl readOwn s).gyro = s.gyro ∧
    (bs.foldl readOwn s).stab = s.stab ∧ (bs.foldl readOwn s).overlay = s.overlay ∧ (bs.foldl readOwn s).audio = s.audio ∧
    (bs.foldl readOwn s).metadata = s.metadata ∧ (bs.foldl readOwn s).pending = s.pending := by
  induction bs generalizing s with
  | nil => simp
  | cons b bs ih => simp [ih]

@[simp] theorem readBackUntil_frame (t : Nat) (s : State) :
    (readBackUntil t s).now = s.now ∧ (readBackUntil t s).straps = s.straps ∧ (readBackUntil t s).path = s.path ∧
    (readBackUntil t s).command = s.command ∧ (readBackUntil t s).frame = s.frame ∧ (readBackUntil t s).gyro = s.gyro ∧
    (readBackUntil t s).stab = s.stab ∧ (readBackUntil t s).overlay = s.overlay ∧ (readBackUntil t s).audio = s.audio ∧
    (readBackUntil t s).metadata = s.metadata ∧ (readBackUntil t s).pending = s.pending := by
  simp only [readBackUntil]
  repeat' split
  all_goals simp

@[simp] theorem stopDriving_frame (s : State) :
    (stopDriving s).now = s.now ∧ (stopDriving s).straps = s.straps ∧ (stopDriving s).path = s.path ∧
    (stopDriving s).command = s.command ∧ (stopDriving s).frame = s.frame ∧ (stopDriving s).gyro = s.gyro ∧
    (stopDriving s).stab = s.stab ∧ (stopDriving s).overlay = s.overlay ∧ (stopDriving s).audio = s.audio ∧
    (stopDriving s).metadata = s.metadata ∧ (stopDriving s).pending = s.pending := by
  simp only [stopDriving]
  repeat' split
  all_goals simp

@[simp] theorem startBitFalls_frame (s : State) :
    (startBitFalls s).straps = s.straps ∧ (startBitFalls s).path = s.path ∧ (startBitFalls s).command = s.command ∧
    (startBitFalls s).frame = s.frame ∧ (startBitFalls s).axis = s.axis ∧ (startBitFalls s).gyro = s.gyro ∧
    (startBitFalls s).stab = s.stab ∧ (startBitFalls s).overlay = s.overlay ∧ (startBitFalls s).audio = s.audio ∧
    (startBitFalls s).record = s.record ∧ (startBitFalls s).metadata = s.metadata ∧
    (startBitFalls s).pending = s.pending := by
  simp only [startBitFalls]
  repeat' split
  all_goals simp

@[simp] theorem lineHeard_frame (c : LineChar) (s : State) :
    (lineHeard c s).now = s.now ∧ (lineHeard c s).straps = s.straps ∧ (lineHeard c s).path = s.path ∧
    (lineHeard c s).command = s.command ∧ (lineHeard c s).report = s.report ∧ (lineHeard c s).frame = s.frame ∧
    (lineHeard c s).axis = s.axis ∧ (lineHeard c s).engines = s.engines ∧ (lineHeard c s).gyro = s.gyro ∧
    (lineHeard c s).stab = s.stab ∧ (lineHeard c s).overlay = s.overlay ∧ (lineHeard c s).audio = s.audio ∧
    (lineHeard c s).record = s.record ∧ (lineHeard c s).metadata = s.metadata ∧ (lineHeard c s).pending = s.pending := by
  simp [lineHeard]

@[simp] theorem lineReturnsHigh_frame (s : State) :
    (lineReturnsHigh s).straps = s.straps ∧ (lineReturnsHigh s).path = s.path ∧ (lineReturnsHigh s).command = s.command ∧
    (lineReturnsHigh s).report = s.report ∧ (lineReturnsHigh s).frame = s.frame ∧ (lineReturnsHigh s).axis = s.axis ∧
    (lineReturnsHigh s).engines = s.engines ∧ (lineReturnsHigh s).gyro = s.gyro ∧ (lineReturnsHigh s).stab = s.stab ∧
    (lineReturnsHigh s).overlay = s.overlay ∧ (lineReturnsHigh s).audio = s.audio ∧
    (lineReturnsHigh s).record = s.record ∧ (lineReturnsHigh s).metadata = s.metadata ∧
    (lineReturnsHigh s).pending = s.pending := by
  simp only [lineReturnsHigh]
  repeat' split
  all_goals simp

@[simp] theorem joinTransmitter_frame (x : TxFrame) (s : State) :
    (joinTransmitter x s).now = s.now ∧ (joinTransmitter x s).straps = s.straps ∧ (joinTransmitter x s).path = s.path ∧
    (joinTransmitter x s).command = s.command ∧ (joinTransmitter x s).report = s.report ∧ (joinTransmitter x s).frame = s.frame ∧
    (joinTransmitter x s).axis = s.axis ∧ (joinTransmitter x s).engines = s.engines ∧ (joinTransmitter x s).gyro = s.gyro ∧
    (joinTransmitter x s).stab = s.stab ∧ (joinTransmitter x s).overlay = s.overlay ∧ (joinTransmitter x s).audio = s.audio ∧
    (joinTransmitter x s).record = s.record ∧ (joinTransmitter x s).metadata = s.metadata ∧ (joinTransmitter x s).pending = s.pending := by
  simp [joinTransmitter]

@[simp] theorem startFrame_frame (s : State) :
    (startFrame s).straps = s.straps ∧ (startFrame s).path = s.path ∧ (startFrame s).command = s.command ∧
    (startFrame s).frame = s.frame ∧ (startFrame s).axis = s.axis ∧ (startFrame s).gyro = s.gyro ∧
    (startFrame s).stab = s.stab ∧ (startFrame s).overlay = s.overlay ∧ (startFrame s).audio = s.audio ∧
    (startFrame s).record = s.record ∧ (startFrame s).metadata = s.metadata ∧ (startFrame s).pending = s.pending := by
  simp only [startFrame]
  repeat' split
  all_goals simp

@[simp] theorem completeFrame_frame (x : TxFrame) (s : State) :
    (completeFrame x s).now = s.now ∧ (completeFrame x s).straps = s.straps ∧ (completeFrame x s).path = s.path ∧
    (completeFrame x s).command = s.command ∧ (completeFrame x s).report = s.report ∧ (completeFrame x s).frame = s.frame ∧
    (completeFrame x s).axis = s.axis ∧ (completeFrame x s).engines = s.engines ∧ (completeFrame x s).gyro = s.gyro ∧
    (completeFrame x s).stab = s.stab ∧ (completeFrame x s).overlay = s.overlay ∧ (completeFrame x s).audio = s.audio ∧
    (completeFrame x s).record = s.record ∧ (completeFrame x s).metadata = s.metadata ∧ (completeFrame x s).pending = s.pending := by
  simp [completeFrame]

@[simp] theorem cancelFrame_frame (x : TxFrame) (s : State) :
    (cancelFrame x s).now = s.now ∧ (cancelFrame x s).straps = s.straps ∧ (cancelFrame x s).path = s.path ∧
    (cancelFrame x s).command = s.command ∧ (cancelFrame x s).frame = s.frame ∧ (cancelFrame x s).gyro = s.gyro ∧
    (cancelFrame x s).stab = s.stab ∧ (cancelFrame x s).overlay = s.overlay ∧ (cancelFrame x s).audio = s.audio ∧
    (cancelFrame x s).metadata = s.metadata ∧ (cancelFrame x s).pending = s.pending := by
  simp only [cancelFrame]
  repeat' split
  all_goals simp

@[simp] theorem settleCycle_frame (s : State) :
    (settleCycle s).now = s.now ∧ (settleCycle s).straps = s.straps ∧ (settleCycle s).path = s.path ∧
    (settleCycle s).command = s.command ∧ (settleCycle s).frame = s.frame ∧ (settleCycle s).axis = s.axis ∧
    (settleCycle s).gyro = s.gyro ∧ (settleCycle s).stab = s.stab ∧ (settleCycle s).overlay = s.overlay ∧
    (settleCycle s).audio = s.audio ∧ (settleCycle s).record = s.record ∧ (settleCycle s).metadata = s.metadata ∧
    (settleCycle s).pending = s.pending := by
  simp only [settleCycle]
  repeat' split
  all_goals simp

@[simp] theorem openCycle_frame (c : Correction) (s : State) :
    (openCycle c s).now = s.now ∧ (openCycle c s).straps = s.straps ∧ (openCycle c s).path = s.path ∧
    (openCycle c s).command = s.command ∧ (openCycle c s).report = s.report ∧ (openCycle c s).frame = s.frame ∧
    (openCycle c s).axis = s.axis ∧ (openCycle c s).engines = s.engines ∧ (openCycle c s).gyro = s.gyro ∧
    (openCycle c s).stab = s.stab ∧ (openCycle c s).overlay = s.overlay ∧ (openCycle c s).audio = s.audio ∧
    (openCycle c s).record = s.record ∧ (openCycle c s).metadata = s.metadata ∧ (openCycle c s).pending = s.pending := by
  simp only [openCycle]
  repeat' split
  all_goals simp

@[simp] theorem resetLens_frame (s : State) :
    (resetLens s).now = s.now ∧ (resetLens s).straps = s.straps ∧ (resetLens s).path = s.path ∧
    (resetLens s).command = s.command ∧ (resetLens s).frame = s.frame ∧ (resetLens s).gyro = s.gyro ∧
    (resetLens s).stab = s.stab ∧ (resetLens s).overlay = s.overlay ∧ (resetLens s).audio = s.audio ∧
    (resetLens s).metadata = s.metadata ∧ (resetLens s).pending = s.pending := by
  simp only [resetLens]
  repeat' split
  all_goals simp

/-! ### Overlay, audio and metadata -/

@[simp] theorem swapOverlay_frame (s : State) :
    (swapOverlay s).now = s.now ∧ (swapOverlay s).straps = s.straps ∧ (swapOverlay s).path = s.path ∧
    (swapOverlay s).command = s.command ∧ (swapOverlay s).frame = s.frame ∧ (swapOverlay s).lens = s.lens ∧
    (swapOverlay s).axis = s.axis ∧ (swapOverlay s).engines = s.engines ∧ (swapOverlay s).gyro = s.gyro ∧
    (swapOverlay s).stab = s.stab ∧ (swapOverlay s).audio = s.audio ∧ (swapOverlay s).record = s.record ∧
    (swapOverlay s).metadata = s.metadata ∧ (swapOverlay s).pending = s.pending := by
  simp only [swapOverlay]
  repeat' split
  all_goals simp

@[simp] theorem frameStart_frame (s : State) :
    (frameStart s).now = s.now ∧ (frameStart s).straps = s.straps ∧ (frameStart s).path = s.path ∧
    (frameStart s).command = s.command ∧ (frameStart s).frame = s.frame ∧ (frameStart s).lens = s.lens ∧
    (frameStart s).axis = s.axis ∧ (frameStart s).engines = s.engines ∧ (frameStart s).gyro = s.gyro ∧
    (frameStart s).stab = s.stab ∧ (frameStart s).audio = s.audio ∧ (frameStart s).record = s.record ∧
    (frameStart s).metadata = s.metadata ∧ (frameStart s).pending = s.pending := by
  simp [frameStart]

@[simp] theorem overlayRead_frame (w : WindowRecord) (addr len back : Nat) (beats : List BeatData) (s : State) :
    (overlayRead w addr len back beats s).1.now = s.now ∧ (overlayRead w addr len back beats s).1.straps = s.straps ∧
    (overlayRead w addr len back beats s).1.path = s.path ∧ (overlayRead w addr len back beats s).1.command = s.command ∧
    (overlayRead w addr len back beats s).1.frame = s.frame ∧ (overlayRead w addr len back beats s).1.lens = s.lens ∧
    (overlayRead w addr len back beats s).1.axis = s.axis ∧ (overlayRead w addr len back beats s).1.engines = s.engines ∧
    (overlayRead w addr len back beats s).1.gyro = s.gyro ∧ (overlayRead w addr len back beats s).1.stab = s.stab ∧
    (overlayRead w addr len back beats s).1.audio = s.audio ∧ (overlayRead w addr len back beats s).1.record = s.record ∧
    (overlayRead w addr len back beats s).1.metadata = s.metadata ∧ (overlayRead w addr len back beats s).1.pending = s.pending := by
  simp only [overlayRead]
  repeat' split
  all_goals simp

@[simp] theorem holdsAtMark_frame (s : State) :
    (holdsAtMark s).now = s.now ∧ (holdsAtMark s).straps = s.straps ∧ (holdsAtMark s).path = s.path ∧
    (holdsAtMark s).command = s.command ∧ (holdsAtMark s).report = s.report ∧ (holdsAtMark s).frame = s.frame ∧
    (holdsAtMark s).lens = s.lens ∧ (holdsAtMark s).axis = s.axis ∧ (holdsAtMark s).engines = s.engines ∧
    (holdsAtMark s).gyro = s.gyro ∧ (holdsAtMark s).stab = s.stab ∧ (holdsAtMark s).audio = s.audio ∧
    (holdsAtMark s).record = s.record ∧ (holdsAtMark s).metadata = s.metadata ∧ (holdsAtMark s).pending = s.pending := by
  simp [holdsAtMark]

@[simp] theorem resetOverlay_frame (s : State) :
    (resetOverlay s).now = s.now ∧ (resetOverlay s).straps = s.straps ∧ (resetOverlay s).path = s.path ∧
    (resetOverlay s).command = s.command ∧ (resetOverlay s).report = s.report ∧ (resetOverlay s).frame = s.frame ∧
    (resetOverlay s).lens = s.lens ∧ (resetOverlay s).axis = s.axis ∧ (resetOverlay s).engines = s.engines ∧
    (resetOverlay s).gyro = s.gyro ∧ (resetOverlay s).stab = s.stab ∧ (resetOverlay s).audio = s.audio ∧
    (resetOverlay s).record = s.record ∧ (resetOverlay s).metadata = s.metadata ∧ (resetOverlay s).pending = s.pending := by
  simp [resetOverlay]

@[simp] theorem handClip_frame (c : Channel) (e : Option ClipEnd) (b : Bool) (s : State) :
    (handClip c e b s).now = s.now ∧ (handClip c e b s).straps = s.straps ∧ (handClip c e b s).path = s.path ∧
    (handClip c e b s).command = s.command ∧ (handClip c e b s).frame = s.frame ∧ (handClip c e b s).lens = s.lens ∧
    (handClip c e b s).axis = s.axis ∧ (handClip c e b s).engines = s.engines ∧ (handClip c e b s).gyro = s.gyro ∧
    (handClip c e b s).stab = s.stab ∧ (handClip c e b s).audio = s.audio ∧ (handClip c e b s).record = s.record ∧
    (handClip c e b s).metadata = s.metadata ∧ (handClip c e b s).pending = s.pending := by
  simp only [handClip]
  repeat' split
  all_goals simp

@[simp] theorem processFrame_frame (m : FlagByteMode) (a b : BeatData) (s : State) :
    (processFrame m a b s).1.now = s.now ∧ (processFrame m a b s).1.straps = s.straps ∧
    (processFrame m a b s).1.path = s.path ∧ (processFrame m a b s).1.command = s.command ∧
    (processFrame m a b s).1.frame = s.frame ∧ (processFrame m a b s).1.lens = s.lens ∧
    (processFrame m a b s).1.axis = s.axis ∧ (processFrame m a b s).1.engines = s.engines ∧
    (processFrame m a b s).1.gyro = s.gyro ∧ (processFrame m a b s).1.stab = s.stab ∧
    (processFrame m a b s).1.record = s.record ∧ (processFrame m a b s).1.metadata = s.metadata ∧
    (processFrame m a b s).1.pending = s.pending := by
  simp [processFrame]

@[simp] theorem processFrames_frame (m : FlagByteMode) (beats : List Beat) (s : State) :
    (processFrames m beats s).1.now = s.now ∧ (processFrames m beats s).1.straps = s.straps ∧
    (processFrames m beats s).1.path = s.path ∧ (processFrames m beats s).1.command = s.command ∧
    (processFrames m beats s).1.frame = s.frame ∧ (processFrames m beats s).1.lens = s.lens ∧
    (processFrames m beats s).1.axis = s.axis ∧ (processFrames m beats s).1.engines = s.engines ∧
    (processFrames m beats s).1.gyro = s.gyro ∧ (processFrames m beats s).1.stab = s.stab ∧
    (processFrames m beats s).1.record = s.record ∧ (processFrames m beats s).1.metadata = s.metadata ∧
    (processFrames m beats s).1.pending = s.pending := by
  fun_induction processFrames m beats s with
  | case1 a b rest s r t ih => simp only [t, r] at ih ⊢; simpa using ih
  | case2 => simp

@[simp] theorem audioWrite_frame (w : WindowRecord) (addr : Nat) (beats : List Beat) (s : State) :
    (audioWrite w addr beats s).1.now = s.now ∧ (audioWrite w addr beats s).1.straps = s.straps ∧
    (audioWrite w addr beats s).1.path = s.path ∧ (audioWrite w addr beats s).1.command = s.command ∧
    (audioWrite w addr beats s).1.frame = s.frame ∧ (audioWrite w addr beats s).1.lens = s.lens ∧
    (audioWrite w addr beats s).1.axis = s.axis ∧ (audioWrite w addr beats s).1.engines = s.engines ∧
    (audioWrite w addr beats s).1.gyro = s.gyro ∧ (audioWrite w addr beats s).1.stab = s.stab ∧
    (audioWrite w addr beats s).1.record = s.record ∧ (audioWrite w addr beats s).1.metadata = s.metadata ∧
    (audioWrite w addr beats s).1.pending = s.pending := by
  simp only [audioWrite]
  repeat' split
  all_goals simp

@[simp] theorem settleCadence_frame (s : State) :
    (settleCadence s).now = s.now ∧ (settleCadence s).straps = s.straps ∧ (settleCadence s).path = s.path ∧
    (settleCadence s).command = s.command ∧ (settleCadence s).frame = s.frame ∧ (settleCadence s).lens = s.lens ∧
    (settleCadence s).axis = s.axis ∧ (settleCadence s).engines = s.engines ∧ (settleCadence s).gyro = s.gyro ∧
    (settleCadence s).stab = s.stab ∧ (settleCadence s).overlay = s.overlay ∧ (settleCadence s).record = s.record ∧
    (settleCadence s).metadata = s.metadata ∧ (settleCadence s).pending = s.pending := by
  simp only [settleCadence]
  repeat' split
  all_goals simp

@[simp] theorem audioMark_frame (s : State) :
    (audioMark s).now = s.now ∧ (audioMark s).straps = s.straps ∧ (audioMark s).path = s.path ∧
    (audioMark s).command = s.command ∧ (audioMark s).frame = s.frame ∧ (audioMark s).lens = s.lens ∧
    (audioMark s).axis = s.axis ∧ (audioMark s).engines = s.engines ∧ (audioMark s).gyro = s.gyro ∧
    (audioMark s).stab = s.stab ∧ (audioMark s).overlay = s.overlay ∧ (audioMark s).record = s.record ∧
    (audioMark s).metadata = s.metadata ∧ (audioMark s).pending = s.pending := by
  simp [audioMark]

@[simp] theorem resetAudio_frame (s : State) :
    (resetAudio s).now = s.now ∧ (resetAudio s).straps = s.straps ∧ (resetAudio s).path = s.path ∧
    (resetAudio s).command = s.command ∧ (resetAudio s).report = s.report ∧ (resetAudio s).frame = s.frame ∧
    (resetAudio s).lens = s.lens ∧ (resetAudio s).axis = s.axis ∧ (resetAudio s).engines = s.engines ∧
    (resetAudio s).gyro = s.gyro ∧ (resetAudio s).stab = s.stab ∧ (resetAudio s).overlay = s.overlay ∧
    (resetAudio s).record = s.record ∧ (resetAudio s).metadata = s.metadata ∧ (resetAudio s).pending = s.pending := by
  simp [resetAudio]

@[simp] theorem joinMetadata_frame (w : WindowRecord) (bs : List Byte) (s : State) :
    (joinMetadata w bs s).now = s.now ∧ (joinMetadata w bs s).straps = s.straps ∧ (joinMetadata w bs s).command = s.command ∧
    (joinMetadata w bs s).report = s.report ∧ (joinMetadata w bs s).frame = s.frame ∧ (joinMetadata w bs s).lens = s.lens ∧
    (joinMetadata w bs s).axis = s.axis ∧ (joinMetadata w bs s).engines = s.engines ∧ (joinMetadata w bs s).gyro = s.gyro ∧
    (joinMetadata w bs s).stab = s.stab ∧ (joinMetadata w bs s).overlay = s.overlay ∧ (joinMetadata w bs s).audio = s.audio ∧
    (joinMetadata w bs s).record = s.record ∧ (joinMetadata w bs s).pending = s.pending := by
  simp [joinMetadata]

@[simp] theorem queueMetadata_frame (w : WindowRecord) (m : Half) (bs : List Byte) (s : State) :
    (queueMetadata w m bs s).now = s.now ∧ (queueMetadata w m bs s).straps = s.straps ∧
    (queueMetadata w m bs s).command = s.command ∧ (queueMetadata w m bs s).report = s.report ∧
    (queueMetadata w m bs s).frame = s.frame ∧ (queueMetadata w m bs s).lens = s.lens ∧
    (queueMetadata w m bs s).axis = s.axis ∧ (queueMetadata w m bs s).engines = s.engines ∧
    (queueMetadata w m bs s).gyro = s.gyro ∧ (queueMetadata w m bs s).stab = s.stab ∧
    (queueMetadata w m bs s).overlay = s.overlay ∧ (queueMetadata w m bs s).audio = s.audio ∧
    (queueMetadata w m bs s).record = s.record ∧ (queueMetadata w m bs s).pending = s.pending := by
  simp only [queueMetadata]
  repeat' split
  all_goals simp

@[simp] theorem metadataMark_frame (d : MarkData) (s : State) :
    (metadataMark d s).now = s.now ∧ (metadataMark d s).straps = s.straps ∧ (metadataMark d s).command = s.command ∧
    (metadataMark d s).report = s.report ∧ (metadataMark d s).frame = s.frame ∧ (metadataMark d s).lens = s.lens ∧
    (metadataMark d s).axis = s.axis ∧ (metadataMark d s).engines = s.engines ∧ (metadataMark d s).gyro = s.gyro ∧
    (metadataMark d s).stab = s.stab ∧ (metadataMark d s).overlay = s.overlay ∧ (metadataMark d s).audio = s.audio ∧
    (metadataMark d s).record = s.record ∧ (metadataMark d s).pending = s.pending := by
  simp only [metadataMark]
  repeat' split
  all_goals simp

@[simp] theorem waitingMetadataJoins_frame (s : State) :
    (waitingMetadataJoins s).now = s.now ∧ (waitingMetadataJoins s).straps = s.straps ∧
    (waitingMetadataJoins s).command = s.command ∧ (waitingMetadataJoins s).report = s.report ∧
    (waitingMetadataJoins s).frame = s.frame ∧ (waitingMetadataJoins s).lens = s.lens ∧
    (waitingMetadataJoins s).axis = s.axis ∧ (waitingMetadataJoins s).engines = s.engines ∧
    (waitingMetadataJoins s).gyro = s.gyro ∧ (waitingMetadataJoins s).stab = s.stab ∧
    (waitingMetadataJoins s).overlay = s.overlay ∧ (waitingMetadataJoins s).audio = s.audio ∧
    (waitingMetadataJoins s).record = s.record ∧ (waitingMetadataJoins s).pending = s.pending := by
  simp only [waitingMetadataJoins]
  repeat' split
  all_goals simp

/-! ### Frame marks -/

@[simp] theorem advanceTimecode_frame (s : State) :
    (advanceTimecode s).now = s.now ∧ (advanceTimecode s).straps = s.straps ∧ (advanceTimecode s).path = s.path ∧
    (advanceTimecode s).command = s.command ∧ (advanceTimecode s).report = s.report ∧ (advanceTimecode s).lens = s.lens ∧
    (advanceTimecode s).axis = s.axis ∧ (advanceTimecode s).engines = s.engines ∧ (advanceTimecode s).gyro = s.gyro ∧
    (advanceTimecode s).stab = s.stab ∧ (advanceTimecode s).overlay = s.overlay ∧ (advanceTimecode s).audio = s.audio ∧
    (advanceTimecode s).record = s.record ∧ (advanceTimecode s).metadata = s.metadata ∧ (advanceTimecode s).pending = s.pending := by
  simp [advanceTimecode]

@[simp] theorem markDemands_frame (m : Option (Nat × Nat)) (s : State) :
    (markDemands m s).1.now = s.now ∧ (markDemands m s).1.straps = s.straps ∧ (markDemands m s).1.path = s.path ∧
    (markDemands m s).1.command = s.command ∧ (markDemands m s).1.frame = s.frame ∧ (markDemands m s).1.gyro = s.gyro ∧
    (markDemands m s).1.overlay = s.overlay ∧ (markDemands m s).1.audio = s.audio ∧ (markDemands m s).1.record = s.record ∧
    (markDemands m s).1.metadata = s.metadata ∧ (markDemands m s).1.pending = s.pending := by
  simp [markDemands]

@[simp] theorem markRest_frame (b : State) (r : Option CaptureRecord) (c : Correction) (s : State) :
    (markRest b r c s).now = s.now ∧ (markRest b r c s).straps = s.straps ∧ (markRest b r c s).command = s.command ∧
    (markRest b r c s).axis = s.axis ∧ (markRest b r c s).engines = s.engines ∧ (markRest b r c s).gyro = s.gyro ∧
    (markRest b r c s).stab = s.stab ∧ (markRest b r c s).record = s.record ∧ (markRest b r c s).pending = s.pending := by
  simp [markRest]

@[simp] theorem abandonCapture_frame (s : State) :
    (abandonCapture s).now = s.now ∧ (abandonCapture s).straps = s.straps ∧ (abandonCapture s).path = s.path ∧
    (abandonCapture s).command = s.command ∧ (abandonCapture s).lens = s.lens ∧ (abandonCapture s).axis = s.axis ∧
    (abandonCapture s).engines = s.engines ∧ (abandonCapture s).gyro = s.gyro ∧ (abandonCapture s).stab = s.stab ∧
    (abandonCapture s).overlay = s.overlay ∧ (abandonCapture s).audio = s.audio ∧ (abandonCapture s).record = s.record ∧
    (abandonCapture s).metadata = s.metadata ∧ (abandonCapture s).pending = s.pending := by
  simp only [abandonCapture]
  repeat' split
  all_goals simp

@[simp] theorem appendCapture_frame (r : CaptureRecord) (s : State) :
    (appendCapture r s).now = s.now ∧ (appendCapture r s).straps = s.straps ∧ (appendCapture r s).path = s.path ∧
    (appendCapture r s).command = s.command ∧ (appendCapture r s).report = s.report ∧ (appendCapture r s).lens = s.lens ∧
    (appendCapture r s).axis = s.axis ∧ (appendCapture r s).engines = s.engines ∧ (appendCapture r s).gyro = s.gyro ∧
    (appendCapture r s).stab = s.stab ∧ (appendCapture r s).overlay = s.overlay ∧ (appendCapture r s).audio = s.audio ∧
    (appendCapture r s).record = s.record ∧ (appendCapture r s).metadata = s.metadata ∧ (appendCapture r s).pending = s.pending := by
  simp [appendCapture]

@[simp] theorem captureBeat_frame (s : State) :
    (captureBeat s).now = s.now ∧ (captureBeat s).straps = s.straps ∧ (captureBeat s).path = s.path ∧
    (captureBeat s).command = s.command ∧ (captureBeat s).lens = s.lens ∧ (captureBeat s).axis = s.axis ∧
    (captureBeat s).engines = s.engines ∧ (captureBeat s).gyro = s.gyro ∧ (captureBeat s).stab = s.stab ∧
    (captureBeat s).overlay = s.overlay ∧ (captureBeat s).audio = s.audio ∧ (captureBeat s).record = s.record ∧
    (captureBeat s).metadata = s.metadata ∧ (captureBeat s).pending = s.pending := by
  simp only [captureBeat]
  repeat' split
  all_goals simp

@[simp] theorem captureStart_frame (g : Geometry) (b : Nat) (s : State) :
    (captureStart g b s).now = s.now ∧ (captureStart g b s).straps = s.straps ∧ (captureStart g b s).command = s.command ∧
    (captureStart g b s).gyro = s.gyro ∧ (captureStart g b s).record = s.record ∧ (captureStart g b s).pending = s.pending := by
  simp [captureStart]

@[simp] theorem captureCompletes_frame (g : Geometry) (base addr len : Nat) (s : State) :
    (captureCompletes g base addr len s).now = s.now ∧ (captureCompletes g base addr len s).straps = s.straps ∧
    (captureCompletes g base addr len s).path = s.path ∧ (captureCompletes g base addr len s).command = s.command ∧
    (captureCompletes g base addr len s).report = s.report ∧ (captureCompletes g base addr len s).lens = s.lens ∧
    (captureCompletes g base addr len s).axis = s.axis ∧ (captureCompletes g base addr len s).engines = s.engines ∧
    (captureCompletes g base addr len s).gyro = s.gyro ∧ (captureCompletes g base addr len s).stab = s.stab ∧
    (captureCompletes g base addr len s).overlay = s.overlay ∧ (captureCompletes g base addr len s).audio = s.audio ∧
    (captureCompletes g base addr len s).record = s.record ∧ (captureCompletes g base addr len s).metadata = s.metadata ∧
    (captureCompletes g base addr len s).pending = s.pending := by
  simp [captureCompletes]

@[simp] theorem sensorWrite_frame (w : WindowRecord) (addr len : Nat) (s : State) :
    (sensorWrite w addr len s).now = s.now ∧ (sensorWrite w addr len s).straps = s.straps ∧
    (sensorWrite w addr len s).command = s.command ∧ (sensorWrite w addr len s).gyro = s.gyro ∧
    (sensorWrite w addr len s).record = s.record ∧ (sensorWrite w addr len s).pending = s.pending := by
  simp only [sensorWrite]
  repeat' split
  all_goals simp

@[simp] theorem substituteBeat_frame (s : State) :
    (substituteBeat s).now = s.now ∧ (substituteBeat s).straps = s.straps ∧ (substituteBeat s).path = s.path ∧
    (substituteBeat s).command = s.command ∧ (substituteBeat s).lens = s.lens ∧ (substituteBeat s).axis = s.axis ∧
    (substituteBeat s).engines = s.engines ∧ (substituteBeat s).gyro = s.gyro ∧ (substituteBeat s).stab = s.stab ∧
    (substituteBeat s).overlay = s.overlay ∧ (substituteBeat s).audio = s.audio ∧ (substituteBeat s).record = s.record ∧
    (substituteBeat s).metadata = s.metadata ∧ (substituteBeat s).pending = s.pending := by
  simp only [substituteBeat]
  repeat' split
  all_goals simp

@[simp] theorem timerExpiry_frame (s : State) :
    (timerExpiry s).straps = s.straps ∧ (timerExpiry s).command = s.command ∧ (timerExpiry s).gyro = s.gyro ∧
    (timerExpiry s).record = s.record ∧ (timerExpiry s).pending = s.pending := by
  simp [timerExpiry]

/-! ### Path unit -/

@[simp] theorem raiseStraddle_frame (i : Nat) (tag : BitVec 4) (addr : Nat) (s : State) :
    (raiseStraddle i tag addr s).now = s.now ∧ (raiseStraddle i tag addr s).straps = s.straps ∧
    (raiseStraddle i tag addr s).path = s.path ∧ (raiseStraddle i tag addr s).command = s.command ∧
    (raiseStraddle i tag addr s).frame = s.frame ∧ (raiseStraddle i tag addr s).lens = s.lens ∧
    (raiseStraddle i tag addr s).axis = s.axis ∧ (raiseStraddle i tag addr s).engines = s.engines ∧
    (raiseStraddle i tag addr s).gyro = s.gyro ∧ (raiseStraddle i tag addr s).stab = s.stab ∧
    (raiseStraddle i tag addr s).overlay = s.overlay ∧ (raiseStraddle i tag addr s).audio = s.audio ∧
    (raiseStraddle i tag addr s).record = s.record ∧ (raiseStraddle i tag addr s).metadata = s.metadata ∧
    (raiseStraddle i tag addr s).pending = s.pending := by
  simp [raiseStraddle]

@[simp] theorem offerCommand_frame (r : CommandRecord) (s : State) :
    (offerCommand r s).now = s.now ∧ (offerCommand r s).straps = s.straps ∧ (offerCommand r s).path = s.path ∧
    (offerCommand r s).frame = s.frame ∧ (offerCommand r s).lens = s.lens ∧ (offerCommand r s).axis = s.axis ∧
    (offerCommand r s).engines = s.engines ∧ (offerCommand r s).gyro = s.gyro ∧ (offerCommand r s).stab = s.stab ∧
    (offerCommand r s).overlay = s.overlay ∧ (offerCommand r s).audio = s.audio ∧ (offerCommand r s).record = s.record ∧
    (offerCommand r s).metadata = s.metadata ∧ (offerCommand r s).pending = s.pending := by
  simp only [offerCommand]
  repeat' split
  all_goals simp

@[simp] theorem takePosition32_frame (addr : Nat) (beats : List Beat) (p : Nat) (s : State) :
    (takePosition32 addr beats p s).now = s.now ∧ (takePosition32 addr beats p s).straps = s.straps ∧
    (takePosition32 addr beats p s).path = s.path ∧ (takePosition32 addr beats p s).frame = s.frame ∧
    (takePosition32 addr beats p s).lens = s.lens ∧ (takePosition32 addr beats p s).axis = s.axis ∧
    (takePosition32 addr beats p s).engines = s.engines ∧ (takePosition32 addr beats p s).gyro = s.gyro ∧
    (takePosition32 addr beats p s).stab = s.stab ∧ (takePosition32 addr beats p s).overlay = s.overlay ∧
    (takePosition32 addr beats p s).audio = s.audio ∧ (takePosition32 addr beats p s).record = s.record ∧
    (takePosition32 addr beats p s).metadata = s.metadata ∧ (takePosition32 addr beats p s).pending = s.pending := by
  simp only [takePosition32]
  repeat' split
  all_goals simp

@[simp] theorem commandWrite_frame (addr : Nat) (beats : List Beat) (s : State) :
    (commandWrite addr beats s).now = s.now ∧ (commandWrite addr beats s).straps = s.straps ∧
    (commandWrite addr beats s).path = s.path ∧ (commandWrite addr beats s).frame = s.frame ∧
    (commandWrite addr beats s).lens = s.lens ∧ (commandWrite addr beats s).axis = s.axis ∧
    (commandWrite addr beats s).engines = s.engines ∧ (commandWrite addr beats s).gyro = s.gyro ∧
    (commandWrite addr beats s).stab = s.stab ∧ (commandWrite addr beats s).overlay = s.overlay ∧
    (commandWrite addr beats s).audio = s.audio ∧ (commandWrite addr beats s).record = s.record ∧
    (commandWrite addr beats s).metadata = s.metadata ∧ (commandWrite addr beats s).pending = s.pending := by
  simp only [commandWrite]
  generalize touchedPositions addr beats.length = ps
  induction ps generalizing s with
  | nil => simp
  | cons p ps ih => simp [ih]

@[simp] theorem forwardBurst_frame (tag : BitVec 4) (i a : Nat) (b : PassBody) (s : State) :
    (forwardBurst tag i a b s).now = s.now ∧ (forwardBurst tag i a b s).straps = s.straps ∧
    (forwardBurst tag i a b s).command = s.command ∧ (forwardBurst tag i a b s).report = s.report ∧
    (forwardBurst tag i a b s).frame = s.frame ∧ (forwardBurst tag i a b s).lens = s.lens ∧
    (forwardBurst tag i a b s).axis = s.axis ∧ (forwardBurst tag i a b s).engines = s.engines ∧
    (forwardBurst tag i a b s).gyro = s.gyro ∧ (forwardBurst tag i a b s).stab = s.stab ∧
    (forwardBurst tag i a b s).overlay = s.overlay ∧ (forwardBurst tag i a b s).audio = s.audio ∧
    (forwardBurst tag i a b s).record = s.record ∧ (forwardBurst tag i a b s).metadata = s.metadata ∧
    (forwardBurst tag i a b s).pending = s.pending := by
  simp [forwardBurst]

@[simp] theorem answerHeldBack_frame (tag : BitVec 4) (s : State) :
    (answerHeldBack tag s).now = s.now ∧ (answerHeldBack tag s).straps = s.straps ∧ (answerHeldBack tag s).command = s.command ∧
    (answerHeldBack tag s).report = s.report ∧ (answerHeldBack tag s).frame = s.frame ∧ (answerHeldBack tag s).lens = s.lens ∧
    (answerHeldBack tag s).axis = s.axis ∧ (answerHeldBack tag s).engines = s.engines ∧ (answerHeldBack tag s).gyro = s.gyro ∧
    (answerHeldBack tag s).stab = s.stab ∧ (answerHeldBack tag s).overlay = s.overlay ∧ (answerHeldBack tag s).audio = s.audio ∧
    (answerHeldBack tag s).record = s.record ∧ (answerHeldBack tag s).metadata = s.metadata ∧ (answerHeldBack tag s).pending = s.pending := by
  simp [answerHeldBack]

@[simp] theorem forwardWrite_frame (b : WriteBurst) (beats : List Beat) (s : State) :
    (forwardWrite b beats s).now = s.now ∧ (forwardWrite b beats s).straps = s.straps ∧
    (forwardWrite b beats s).command = s.command ∧ (forwardWrite b beats s).report = s.report ∧
    (forwardWrite b beats s).frame = s.frame ∧ (forwardWrite b beats s).lens = s.lens ∧
    (forwardWrite b beats s).axis = s.axis ∧ (forwardWrite b beats s).engines = s.engines ∧
    (forwardWrite b beats s).gyro = s.gyro ∧ (forwardWrite b beats s).stab = s.stab ∧
    (forwardWrite b beats s).overlay = s.overlay ∧ (forwardWrite b beats s).audio = s.audio ∧
    (forwardWrite b beats s).record = s.record ∧ (forwardWrite b beats s).metadata = s.metadata ∧
    (forwardWrite b beats s).pending = s.pending := by
  simp [forwardWrite]

@[simp] theorem ownerWrite_frame (c : ReadClass) (addr : Nat) (beats : List Beat) (s : State) :
    (ownerWrite c addr beats s).1.now = s.now ∧ (ownerWrite c addr beats s).1.straps = s.straps ∧
    (ownerWrite c addr beats s).1.gyro = s.gyro ∧ (ownerWrite c addr beats s).1.pending = s.pending := by
  simp only [ownerWrite]
  repeat' split
  all_goals simp

@[simp] theorem acceptWrite_frame (b : WriteBurst) (s : State) :
    (acceptWrite b s).now = s.now ∧ (acceptWrite b s).straps = s.straps ∧ (acceptWrite b s).gyro = s.gyro ∧
    (acceptWrite b s).pending = s.pending := by
  have h := fun c => ownerWrite_frame c b.addr.toNat b.beats s
  simp only [acceptWrite]
  split
  · simp
  · simp
  · rename_i c hc
    have h := h c
    split <;> rename_i hw <;> rw [hw] at h <;> simpa using h

@[simp] theorem acceptRead_frame (b : ReadBurst) (s : State) :
    (acceptRead b s).now = s.now ∧ (acceptRead b s).straps = s.straps ∧ (acceptRead b s).command = s.command ∧
    (acceptRead b s).frame = s.frame ∧ (acceptRead b s).lens = s.lens ∧ (acceptRead b s).axis = s.axis ∧
    (acceptRead b s).engines = s.engines ∧ (acceptRead b s).gyro = s.gyro ∧ (acceptRead b s).stab = s.stab ∧
    (acceptRead b s).overlay = s.overlay ∧ (acceptRead b s).audio = s.audio ∧ (acceptRead b s).record = s.record ∧
    (acceptRead b s).metadata = s.metadata ∧ (acceptRead b s).pending = s.pending := by
  simp only [acceptRead]
  repeat' split
  all_goals simp

@[simp] theorem acceptRequest_frame (r : Request) (s : State) :
    (acceptRequest r s).now = s.now ∧ (acceptRequest r s).straps = s.straps ∧ (acceptRequest r s).gyro = s.gyro ∧
    (acceptRequest r s).pending = s.pending := by
  simp only [acceptRequest]
  repeat' split
  all_goals simp

@[simp] theorem settleWaiting_frame (n : Nat) (s : State) :
    (settleWaiting n s).now = s.now ∧ (settleWaiting n s).straps = s.straps ∧ (settleWaiting n s).gyro = s.gyro ∧
    (settleWaiting n s).pending = s.pending := by
  fun_induction settleWaiting n s <;> simp_all

@[simp] theorem settle_frame (s : State) :
    (settle s).now = s.now ∧ (settle s).straps = s.straps ∧ (settle s).gyro = s.gyro ∧
    (settle s).pending = s.pending := by
  simp [settle]

@[simp] theorem presentRequest_frame (r : Request) (s : State) :
    (presentRequest r s).now = s.now ∧ (presentRequest r s).straps = s.straps ∧ (presentRequest r s).gyro = s.gyro ∧
    (presentRequest r s).pending = s.pending := by
  simp [presentRequest]

@[simp] theorem slotWritten_frame (w : InjectedWrite) (s : State) :
    (slotWritten w s).now = s.now ∧ (slotWritten w s).straps = s.straps ∧ (slotWritten w s).path = s.path ∧
    (slotWritten w s).command = s.command ∧ (slotWritten w s).frame = s.frame ∧ (slotWritten w s).lens = s.lens ∧
    (slotWritten w s).axis = s.axis ∧ (slotWritten w s).engines = s.engines ∧ (slotWritten w s).gyro = s.gyro ∧
    (slotWritten w s).stab = s.stab ∧ (slotWritten w s).overlay = s.overlay ∧ (slotWritten w s).audio = s.audio ∧
    (slotWritten w s).record = s.record ∧ (slotWritten w s).metadata = s.metadata ∧ (slotWritten w s).pending = s.pending := by
  simp only [slotWritten]
  repeat' split
  all_goals simp

@[simp] theorem issuePass_frame (s : State) :
    (issuePass s).now = s.now ∧ (issuePass s).straps = s.straps ∧ (issuePass s).gyro = s.gyro ∧
    (issuePass s).pending = s.pending := by
  simp only [issuePass]
  repeat' split
  all_goals simp

@[simp] theorem issueInjected_frame (s : State) :
    (issueInjected s).now = s.now ∧ (issueInjected s).straps = s.straps ∧ (issueInjected s).command = s.command ∧
    (issueInjected s).frame = s.frame ∧ (issueInjected s).lens = s.lens ∧ (issueInjected s).axis = s.axis ∧
    (issueInjected s).engines = s.engines ∧ (issueInjected s).gyro = s.gyro ∧ (issueInjected s).stab = s.stab ∧
    (issueInjected s).overlay = s.overlay ∧ (issueInjected s).audio = s.audio ∧ (issueInjected s).record = s.record ∧
    (issueInjected s).metadata = s.metadata ∧ (issueInjected s).pending = s.pending := by
  simp only [issueInjected]
  repeat' split
  all_goals simp

@[simp] theorem issueNext_frame (s : State) :
    (issueNext s).now = s.now ∧ (issueNext s).straps = s.straps ∧ (issueNext s).gyro = s.gyro ∧
    (issueNext s).pending = s.pending := by
  simp only [issueNext]
  repeat' split
  all_goals simp

@[simp] theorem answered_frame (s : State) :
    (answered s).now = s.now ∧ (answered s).straps = s.straps ∧ (answered s).command = s.command ∧
    (answered s).report = s.report ∧ (answered s).frame = s.frame ∧ (answered s).lens = s.lens ∧
    (answered s).axis = s.axis ∧ (answered s).engines = s.engines ∧ (answered s).gyro = s.gyro ∧
    (answered s).stab = s.stab ∧ (answered s).overlay = s.overlay ∧ (answered s).audio = s.audio ∧
    (answered s).record = s.record ∧ (answered s).metadata = s.metadata ∧ (answered s).pending = s.pending := by
  simp [answered]

@[simp] theorem finishResponse_frame (id : Nat) (a : Answer) (s : State) :
    (finishResponse id a s).now = s.now ∧ (finishResponse id a s).straps = s.straps ∧ (finishResponse id a s).command = s.command ∧
    (finishResponse id a s).report = s.report ∧ (finishResponse id a s).frame = s.frame ∧ (finishResponse id a s).lens = s.lens ∧
    (finishResponse id a s).axis = s.axis ∧ (finishResponse id a s).engines = s.engines ∧ (finishResponse id a s).gyro = s.gyro ∧
    (finishResponse id a s).stab = s.stab ∧ (finishResponse id a s).overlay = s.overlay ∧ (finishResponse id a s).audio = s.audio ∧
    (finishResponse id a s).record = s.record ∧ (finishResponse id a s).metadata = s.metadata ∧ (finishResponse id a s).pending = s.pending := by
  simp [finishResponse]

@[simp] theorem freeSlots_frame (addr len : Nat) (s : State) :
    (freeSlots addr len s).now = s.now ∧ (freeSlots addr len s).straps = s.straps ∧ (freeSlots addr len s).path = s.path ∧
    (freeSlots addr len s).command = s.command ∧ (freeSlots addr len s).frame = s.frame ∧ (freeSlots addr len s).lens = s.lens ∧
    (freeSlots addr len s).axis = s.axis ∧ (freeSlots addr len s).engines = s.engines ∧ (freeSlots addr len s).gyro = s.gyro ∧
    (freeSlots addr len s).stab = s.stab ∧ (freeSlots addr len s).overlay = s.overlay ∧ (freeSlots addr len s).audio = s.audio ∧
    (freeSlots addr len s).record = s.record ∧ (freeSlots addr len s).metadata = s.metadata ∧ (freeSlots addr len s).pending = s.pending := by
  simp only [freeSlots]
  repeat' split
  all_goals simp

@[simp] theorem substituteBeats_frame (c : Option ReadClass) (addr len back : Nat) (beats : List BeatData) (s : State) :
    (substituteBeats c addr len back beats s).1.now = s.now ∧ (substituteBeats c addr len back beats s).1.straps = s.straps ∧
    (substituteBeats c addr len back beats s).1.path = s.path ∧
    (substituteBeats c addr len back beats s).1.command = s.command ∧
    (substituteBeats c addr len back beats s).1.frame = s.frame ∧ (substituteBeats c addr len back beats s).1.lens = s.lens ∧
    (substituteBeats c addr len back beats s).1.axis = s.axis ∧
    (substituteBeats c addr len back beats s).1.engines = s.engines ∧
    (substituteBeats c addr len back beats s).1.gyro = s.gyro ∧ (substituteBeats c addr len back beats s).1.stab = s.stab ∧
    (substituteBeats c addr len back beats s).1.audio = s.audio ∧
    (substituteBeats c addr len back beats s).1.record = s.record ∧
    (substituteBeats c addr len back beats s).1.metadata = s.metadata ∧
    (substituteBeats c addr len back beats s).1.pending = s.pending := by
  simp only [substituteBeats]
  repeat' split
  all_goals simp

@[simp] theorem observeRead_frame (c : Option ReadClass) (addr len : Nat) (s : State) :
    (observeRead c addr len s).now = s.now ∧ (observeRead c addr len s).straps = s.straps ∧
    (observeRead c addr len s).path = s.path ∧ (observeRead c addr len s).command = s.command ∧
    (observeRead c addr len s).frame = s.frame ∧ (observeRead c addr len s).lens = s.lens ∧
    (observeRead c addr len s).axis = s.axis ∧ (observeRead c addr len s).engines = s.engines ∧
    (observeRead c addr len s).gyro = s.gyro ∧ (observeRead c addr len s).stab = s.stab ∧
    (observeRead c addr len s).overlay = s.overlay ∧ (observeRead c addr len s).audio = s.audio ∧
    (observeRead c addr len s).metadata = s.metadata ∧ (observeRead c addr len s).pending = s.pending := by
  simp only [observeRead]
  repeat' split
  all_goals simp

@[simp] theorem beatsReturn_frame (b : PassBurst) (len : Nat) (c : Option ReadClass) (beats : List BeatData) (s : State) :
    (beatsReturn b len c beats s).now = s.now ∧ (beatsReturn b len c beats s).straps = s.straps ∧
    (beatsReturn b len c beats s).command = s.command ∧ (beatsReturn b len c beats s).frame = s.frame ∧
    (beatsReturn b len c beats s).lens = s.lens ∧ (beatsReturn b len c beats s).axis = s.axis ∧
    (beatsReturn b len c beats s).engines = s.engines ∧ (beatsReturn b len c beats s).gyro = s.gyro ∧
    (beatsReturn b len c beats s).stab = s.stab ∧ (beatsReturn b len c beats s).audio = s.audio ∧
    (beatsReturn b len c beats s).metadata = s.metadata ∧ (beatsReturn b len c beats s).pending = s.pending := by
  simp only [beatsReturn]
  repeat' split
  all_goals simp

@[simp] theorem returnResponse_frame (tag : BitVec 4) (s : State) :
    (returnResponse tag s).now = s.now ∧ (returnResponse tag s).straps = s.straps ∧ (returnResponse tag s).command = s.command ∧
    (returnResponse tag s).report = s.report ∧ (returnResponse tag s).frame = s.frame ∧ (returnResponse tag s).lens = s.lens ∧
    (returnResponse tag s).axis = s.axis ∧ (returnResponse tag s).engines = s.engines ∧ (returnResponse tag s).gyro = s.gyro ∧
    (returnResponse tag s).stab = s.stab ∧ (returnResponse tag s).overlay = s.overlay ∧ (returnResponse tag s).audio = s.audio ∧
    (returnResponse tag s).record = s.record ∧ (returnResponse tag s).metadata = s.metadata ∧ (returnResponse tag s).pending = s.pending := by
  simp only [returnResponse]
  repeat' split
  all_goals simp

@[simp] theorem restartMetadata_frame (s : State) :
    (restartMetadata s).now = s.now ∧ (restartMetadata s).straps = s.straps ∧ (restartMetadata s).path = s.path ∧
    (restartMetadata s).command = s.command ∧ (restartMetadata s).report = s.report ∧ (restartMetadata s).frame = s.frame ∧
    (restartMetadata s).lens = s.lens ∧ (restartMetadata s).axis = s.axis ∧ (restartMetadata s).engines = s.engines ∧
    (restartMetadata s).gyro = s.gyro ∧ (restartMetadata s).stab = s.stab ∧ (restartMetadata s).overlay = s.overlay ∧
    (restartMetadata s).audio = s.audio ∧ (restartMetadata s).record = s.record ∧ (restartMetadata s).pending = s.pending := by
  simp [restartMetadata]

@[simp] theorem windowChanged_frame (a b : Option WindowRecord) (s : State) :
    (windowChanged a b s).now = s.now ∧ (windowChanged a b s).straps = s.straps ∧ (windowChanged a b s).lens = s.lens ∧
    (windowChanged a b s).axis = s.axis ∧ (windowChanged a b s).engines = s.engines ∧ (windowChanged a b s).gyro = s.gyro ∧
    (windowChanged a b s).stab = s.stab ∧ (windowChanged a b s).overlay = s.overlay ∧ (windowChanged a b s).audio = s.audio ∧
    (windowChanged a b s).pending = s.pending := by
  simp only [windowChanged]
  repeat' split
  all_goals simp

@[simp] theorem replaceEntry_frame (i : Nat) (w : Option WindowRecord) (s : State) :
    (replaceEntry i w s).now = s.now ∧ (replaceEntry i w s).straps = s.straps ∧ (replaceEntry i w s).lens = s.lens ∧
    (replaceEntry i w s).axis = s.axis ∧ (replaceEntry i w s).engines = s.engines ∧ (replaceEntry i w s).gyro = s.gyro ∧
    (replaceEntry i w s).stab = s.stab ∧ (replaceEntry i w s).overlay = s.overlay ∧ (replaceEntry i w s).audio = s.audio ∧
    (replaceEntry i w s).pending = s.pending := by
  simp [replaceEntry]

/-! ### Commands -/

@[simp] theorem resetReport_frame (s : State) :
    (resetReport s).now = s.now ∧ (resetReport s).straps = s.straps ∧ (resetReport s).path = s.path ∧
    (resetReport s).command = s.command ∧ (resetReport s).frame = s.frame ∧ (resetReport s).lens = s.lens ∧
    (resetReport s).axis = s.axis ∧ (resetReport s).engines = s.engines ∧ (resetReport s).gyro = s.gyro ∧
    (resetReport s).stab = s.stab ∧ (resetReport s).overlay = s.overlay ∧ (resetReport s).audio = s.audio ∧
    (resetReport s).record = s.record ∧ (resetReport s).metadata = s.metadata ∧ (resetReport s).pending = s.pending := by
  simp [resetReport]

@[simp] theorem resetPart_frame (s : State) :
    (resetPart s).now = s.now ∧ (resetPart s).straps = s.straps ∧ (resetPart s).path = s.path ∧
    (resetPart s).metadata = s.metadata ∧ (resetPart s).pending = s.pending := by
  simp [resetPart]

@[simp] theorem popCommand_frame (s : State) :
    (popCommand s).now = s.now ∧ (popCommand s).straps = s.straps ∧ (popCommand s).path = s.path ∧
    (popCommand s).report = s.report ∧ (popCommand s).frame = s.frame ∧ (popCommand s).lens = s.lens ∧
    (popCommand s).axis = s.axis ∧ (popCommand s).engines = s.engines ∧ (popCommand s).gyro = s.gyro ∧
    (popCommand s).stab = s.stab ∧ (popCommand s).overlay = s.overlay ∧ (popCommand s).audio = s.audio ∧
    (popCommand s).record = s.record ∧ (popCommand s).metadata = s.metadata ∧ (popCommand s).pending = s.pending := by
  simp [popCommand]

@[simp] theorem offerStatus_frame (b n : Nat) (tag : Half) (p : Nat) (l : List (List Byte)) (s : State) :
    (offerStatus b n tag p l s).now = s.now ∧ (offerStatus b n tag p l s).straps = s.straps ∧
    (offerStatus b n tag p l s).path = s.path ∧ (offerStatus b n tag p l s).frame = s.frame ∧
    (offerStatus b n tag p l s).lens = s.lens ∧ (offerStatus b n tag p l s).axis = s.axis ∧
    (offerStatus b n tag p l s).engines = s.engines ∧ (offerStatus b n tag p l s).gyro = s.gyro ∧
    (offerStatus b n tag p l s).stab = s.stab ∧ (offerStatus b n tag p l s).overlay = s.overlay ∧
    (offerStatus b n tag p l s).audio = s.audio ∧ (offerStatus b n tag p l s).record = s.record ∧
    (offerStatus b n tag p l s).metadata = s.metadata ∧ (offerStatus b n tag p l s).pending = s.pending := by
  fun_induction offerStatus b n tag p l s <;> simp_all

@[simp] theorem takeSlot_frame (w : WindowRecord) (r : Report) (rest : List Report) (s : State) :
    (takeSlot w r rest s).now = s.now ∧ (takeSlot w r rest s).straps = s.straps ∧ (takeSlot w r rest s).command = s.command ∧
    (takeSlot w r rest s).frame = s.frame ∧ (takeSlot w r rest s).lens = s.lens ∧ (takeSlot w r rest s).axis = s.axis ∧
    (takeSlot w r rest s).engines = s.engines ∧ (takeSlot w r rest s).gyro = s.gyro ∧ (takeSlot w r rest s).stab = s.stab ∧
    (takeSlot w r rest s).overlay = s.overlay ∧ (takeSlot w r rest s).audio = s.audio ∧ (takeSlot w r rest s).record = s.record ∧
    (takeSlot w r rest s).metadata = s.metadata ∧ (takeSlot w r rest s).pending = s.pending := by
  simp [takeSlot]

@[simp] theorem dropReportJoins_frame (d : DropReport) (s : State) :
    (dropReportJoins d s).now = s.now ∧ (dropReportJoins d s).straps = s.straps ∧ (dropReportJoins d s).command = s.command ∧
    (dropReportJoins d s).frame = s.frame ∧ (dropReportJoins d s).lens = s.lens ∧ (dropReportJoins d s).axis = s.axis ∧
    (dropReportJoins d s).engines = s.engines ∧ (dropReportJoins d s).gyro = s.gyro ∧ (dropReportJoins d s).stab = s.stab ∧
    (dropReportJoins d s).overlay = s.overlay ∧ (dropReportJoins d s).audio = s.audio ∧ (dropReportJoins d s).record = s.record ∧
    (dropReportJoins d s).metadata = s.metadata ∧ (dropReportJoins d s).pending = s.pending := by
  simp [dropReportJoins]

@[simp] theorem placeGiven_frame (s : State) :
    (placeGiven s).now = s.now ∧ (placeGiven s).straps = s.straps ∧ (placeGiven s).frame = s.frame ∧
    (placeGiven s).lens = s.lens ∧ (placeGiven s).axis = s.axis ∧ (placeGiven s).engines = s.engines ∧
    (placeGiven s).gyro = s.gyro ∧ (placeGiven s).stab = s.stab ∧ (placeGiven s).overlay = s.overlay ∧
    (placeGiven s).audio = s.audio ∧ (placeGiven s).record = s.record ∧ (placeGiven s).metadata = s.metadata ∧
    (placeGiven s).pending = s.pending := by
  simp only [placeGiven]
  repeat' split
  all_goals simp

@[simp] theorem reportLeaves_frame (s : State) :
    (reportLeaves s).now = s.now ∧ (reportLeaves s).straps = s.straps ∧ (reportLeaves s).frame = s.frame ∧
    (reportLeaves s).lens = s.lens ∧ (reportLeaves s).axis = s.axis ∧ (reportLeaves s).engines = s.engines ∧
    (reportLeaves s).gyro = s.gyro ∧ (reportLeaves s).stab = s.stab ∧ (reportLeaves s).overlay = s.overlay ∧
    (reportLeaves s).audio = s.audio ∧ (reportLeaves s).record = s.record ∧ (reportLeaves s).metadata = s.metadata ∧
    (reportLeaves s).pending = s.pending := by
  simp only [reportLeaves]
  repeat' split
  all_goals simp

@[simp] theorem quietEnds_frame (s : State) :
    (quietEnds s).straps = s.straps ∧ (quietEnds s).path = s.path ∧ (quietEnds s).command = s.command ∧
    (quietEnds s).frame = s.frame ∧ (quietEnds s).lens = s.lens ∧ (quietEnds s).axis = s.axis ∧
    (quietEnds s).engines = s.engines ∧ (quietEnds s).gyro = s.gyro ∧ (quietEnds s).stab = s.stab ∧
    (quietEnds s).overlay = s.overlay ∧ (quietEnds s).audio = s.audio ∧ (quietEnds s).record = s.record ∧
    (quietEnds s).metadata = s.metadata ∧ (quietEnds s).pending = s.pending := by
  simp only [quietEnds]
  repeat' split
  all_goals simp

end Sys2Proof.Machine
end

