-- ==== Sys2Proof/Laws/Reports.lean ====
section
/-! SUPPORT. What the operations of the report unit can do, said once each: the report ring's slots, an occurrence, an
offer. -/

namespace Sys2Proof.Machine

/-! ### The report ring's slots -/

/-- Reading a slot after it is set gives the new state. -/
theorem slotState_setSlot_self (slots : List (Nat × SlotState)) (k : Nat) (st : SlotState) :
    slotState (setSlot slots k st) k = some st := by
  induction slots with
  | nil => simp [setSlot, slotState]
  | cons e rest ih =>
    obtain ⟨j, old⟩ := e
    simp only [setSlot]
    split
    · simp [slotState]
    · split
      · simp [slotState]
      · rename_i h
        simp [slotState, Ne.symm h, ih]

/-- Setting a slot leaves every other slot alone. -/
theorem slotState_setSlot_other (slots : List (Nat × SlotState)) {k j : Nat} (st : SlotState) (h : j ≠ k) :
    slotState (setSlot slots k st) j = slotState slots j := by
  induction slots with
  | nil => simp [setSlot, slotState, Ne.symm h]
  | cons e rest ih =>
    obtain ⟨i, old⟩ := e
    simp only [setSlot]
    split
    · simp [slotState, Ne.symm h]
    · split
      · rename_i hk
        subst hk
        simp [slotState, Ne.symm h]
      · simp only [slotState, ih]

/-- The slots listed after a set are the old ones and the one set. -/
theorem mem_setSlot {slots : List (Nat × SlotState)} {k : Nat} {st : SlotState} {e : Nat × SlotState}
    (h : e ∈ setSlot slots k st) : e = (k, st) ∨ e ∈ slots := by
  induction slots with
  | nil => simpa [setSlot] using h
  | cons d rest ih =>
    obtain ⟨j, old⟩ := d
    simp only [setSlot] at h
    split at h
    · simpa using h
    · split at h
      · rcases List.mem_cons.1 h with h | h
        · exact .inl h
        · exact .inr (List.mem_cons_of_mem _ h)
      · rcases List.mem_cons.1 h with h | h
        · exact .inr (by simp [h])
        · rcases ih h with h | h
          · exact .inl h
          · exact .inr (List.mem_cons_of_mem _ h)

/-- Setting a slot keeps the canonical form of the list. -/
theorem setSlot_sorted {slots : List (Nat × SlotState)} (k : Nat) (st : SlotState) (h : slotsSorted slots) :
    slotsSorted (setSlot slots k st) := by
  induction slots with
  | nil => simp [setSlot, slotsSorted]
  | cons e rest ih =>
    obtain ⟨j, old⟩ := e
    have hr : slotsSorted rest := by
      simp only [slotsSorted, List.map_cons, List.pairwise_cons] at h
      exact h.2
    have hj : ∀ d ∈ rest, j < d.1 := by
      simp only [slotsSorted, List.map_cons, List.pairwise_cons] at h
      intro d hd
      exact h.1 d.1 (List.mem_map_of_mem hd)
    simp only [setSlot]
    split
    · rename_i hk
      simp only [slotsSorted, List.map_cons, List.pairwise_cons] at h ⊢
      refine ⟨?_, h⟩
      intro a ha
      rcases List.mem_cons.1 ha with ha | ha
      · omega
      · have := h.1 a ha
        omega
    · split
      · rename_i hk
        subst hk
        simpa [slotsSorted] using h
      · rename_i h1 h2
        simp only [slotsSorted, List.map_cons, List.pairwise_cons]
        refine ⟨?_, ih hr⟩
        intro a ha
        obtain ⟨d, hd, rfl⟩ := List.mem_map.1 ha
        rcases mem_setSlot hd with hd | hd
        · subst hd
          show j < k
          omega
        · exact hj d hd

/-- Freeing slots keeps the canonical form of the list. -/
theorem filter_sorted {slots : List (Nat × SlotState)} (p : Nat × SlotState → Bool) (h : slotsSorted slots) :
    slotsSorted (slots.filter p) := by
  simp only [slotsSorted] at *
  exact List.Pairwise.sublist (List.filter_sublist.map _) h

/-! ### Offers and occurrences -/

/-- Everything an offer can do: with no REPORT window the report is discarded, otherwise it is queued, counted as dropped, or
held; a completion that moves the command window moves it when it is queued or discarded (R196, R197, R198, R20). -/
theorem offer_cases (r : Report) (s : State) :
    (s.window .report = none ∧ offer r s = applyMove r s)
      ∨ (s.report.queue.length < 16 ∧ offer r s = enqueueReport r s)
      ∨ (∃ k c p b, r = .event k c p b ∧ 16 ≤ s.report.queue.length ∧ offer r s = dropEvent k s)
      ∨ offer r s = { s with command := { s.command with held := s.command.held ++ [r] } } := by
  unfold offer
  split
  · exact .inl ⟨by assumption, rfl⟩
  · split
    · split
      · exact .inr (.inl ⟨by assumption, rfl⟩)
      · exact .inr (.inr (.inl ⟨_, _, _, _, rfl, by omega, rfl⟩))
    · split
      · rename_i h
        simp at h
        exact .inr (.inl ⟨h.1, rfl⟩)
      · exact .inr (.inr (.inr rfl))

/-- A report that moves no window is offered without touching the window table. -/
theorem applyMove_of_moves_none {r : Report} (h : r.moves = none) (s : State) : applyMove r s = s := by
  cases r with
  | completion a b c d m => simp only [Report.moves] at h; subst h; rfl
  | event => rfl
  | status => rfl

/-- ATTN follows the condition after an evaluation. -/
theorem evaluateAttn_inv (s : State) : AttnInv (evaluateAttn s) := rfl

/-- An occurrence leaves ATTN at its condition. -/
theorem markPending_inv (k : EventKind) (s : State) : AttnInv (markPending k s) := rfl

/-- An occurrence keeps the number of kinds in the event table. -/
@[simp] theorem markPending_length (k : EventKind) (s : State) :
    (markPending k s).report.events.length = s.report.events.length := by
  simp [markPending, evaluateAttn]

/-- An occurrence changes nothing of the report unit but the event table and ATTN. -/
theorem markPending_report (k : EventKind) (s : State) :
    (markPending k s).report.queue = s.report.queue ∧ (markPending k s).report.slots = s.report.slots
      ∧ (markPending k s).report.nextSlot = s.report.nextSlot ∧ (markPending k s).report.lap = s.report.lap
      ∧ (markPending k s).report.lost = s.report.lost ∧ (markPending k s).report.drop = s.report.drop
      ∧ (markPending k s).report.quietEnd = s.report.quietEnd := ⟨rfl, rfl, rfl, rfl, rfl, rfl, rfl⟩

/-- Every kind has its place in the event table. -/
theorem EventKind.number_range (k : EventKind) : 1 ≤ k.number ∧ k.number ≤ 25 := by cases k <;> decide

@[simp] theorem EventKind.ofNumber_number (k : EventKind) : EventKind.ofNumber k.number = some k := by cases k <;> rfl

/-- A number outside 1 to 25 names no kind. -/
theorem EventKind.ofNumber_none {n : Nat} (h : n = 0 ∨ 25 < n) : EventKind.ofNumber n = none := by
  unfold EventKind.ofNumber
  split
  · rfl
  · have : 25 < n := by omega
    apply List.getElem?_eq_none
    simp [EventKind.all]
    omega

/-! ### What an offer and an occurrence change, as equations -/

/-- A state that holds a window table, a report unit and a command interface, and is otherwise the reset state. -/
def reportState (windows : List (Option WindowRecord)) (u : ReportUnit) (c : CommandInterface) : State :=
  { State.reset with path := { PathUnit.reset 0 with windows := windows }, report := u, command := c }

@[simp] theorem reportState_report (windows : List (Option WindowRecord)) (u : ReportUnit) (c : CommandInterface) :
    (reportState windows u c).report = u := rfl
@[simp] theorem reportState_command (windows : List (Option WindowRecord)) (u : ReportUnit) (c : CommandInterface) :
    (reportState windows u c).command = c := rfl

/-- A dropped event report changes the report unit, by the report unit alone. -/
theorem dropEvent_eq (k : EventKind) {s t : State} (h : t.report = s.report) :
    dropEvent k s = { s with report := (dropEvent k t).report } := by
  obtain ⟨⟩ := s; obtain ⟨⟩ := t; dsimp only at h; subst h
  unfold dropEvent
  dsimp only
  split <;> rfl

/-- The report unit after an occurrence: it depends on the window table and the report unit alone (R199). -/
def reportRaised (p : EventPayload) (windows : List (Option WindowRecord)) (u : ReportUnit) : ReportUnit :=
  (raiseEvent p (reportState windows u { queue := [], held := [] })).report

/-- All that an occurrence does: it changes the report unit and nothing else (R199). -/
theorem raiseEvent_eq (p : EventPayload) (s : State) :
    raiseEvent p s = { s with report := reportRaised p s.path.windows s.report } := by
  unfold reportRaised raiseEvent occur offer
  let t := markPending p.kind (reportState s.path.windows s.report { queue := [], held := [] })
  cases h : s.window .report with
  | none =>
    have h1 : (markPending p.kind s).window .report = none := h
    have h2 : t.window .report = none := h
    simp only [h1, show State.window (markPending _ (reportState _ _ _)) _ = none from h2]
    rfl
  | some w =>
    have h1 : (markPending p.kind s).window .report = some w := h
    have h2 : t.window .report = some w := h
    simp only [h1, show State.window (markPending _ (reportState _ _ _)) _ = some w from h2]
    by_cases hl : s.report.queue.length < 16
    · rw [if_pos (show (markPending p.kind s).report.queue.length < 16 from hl),
        if_pos (show t.report.queue.length < 16 from hl)]
      rfl
    · rw [if_neg (show ¬ (markPending p.kind s).report.queue.length < 16 from hl),
        if_neg (show ¬ t.report.queue.length < 16 from hl)]
      exact dropEvent_eq _ rfl

/-- The report unit and the command interface after the offer of a report that moves no window. -/
def reportOffered (r : Report) (windows : List (Option WindowRecord)) (u : ReportUnit) (c : CommandInterface) :
    ReportUnit × CommandInterface :=
  ((offer r (reportState windows u c)).report, (offer r (reportState windows u c)).command)

/-- All that the offer of a report does that moves no window: it changes the report unit and the command interface
(R196, R197). -/
theorem offer_eq {r : Report} (hm : r.moves = none) (s : State) :
    offer r s = { s with
      report := (reportOffered r s.path.windows s.report s.command).1
      command := (reportOffered r s.path.windows s.report s.command).2 } := by
  have ha : ∀ t, applyMove r t = t := applyMove_of_moves_none hm
  unfold reportOffered offer
  cases h : s.window .report with
  | none =>
    have h2 : (reportState s.path.windows s.report s.command).window .report = none := h
    simp only [h2, ha]
    rfl
  | some w =>
    have h2 : (reportState s.path.windows s.report s.command).window .report = some w := h
    simp only [h2, enqueueReport, ha]
    generalize hu : reportState s.path.windows s.report s.command = u
    have hr : s.report = u.report := hu ▸ rfl
    have hc : s.command = u.command := hu ▸ rfl
    cases r with
    | event k c p b =>
      dsimp only
      rw [hr, hc]
      split
      · rfl
      · rw [show (dropEvent k u).command = u.command by unfold dropEvent; dsimp only; split <;> rfl, ← hc]
        exact dropEvent_eq k hr.symm
    | completion => dsimp only; rw [hr, hc]; split <;> rfl
    | status => dsimp only; rw [hr, hc]; split <;> rfl

end Sys2Proof.Machine
end

