-- ==== Sys2Proof/Laws/Acceptance.lean ====
section
/-! SUPPORT. What the path unit does with a request or an answer, said once: with nothing waiting a request is accepted at
once while the queue has a place, and a read's beats go through its window's owner. -/

namespace Sys2Proof.Machine

/-- With no request waiting there is nothing to settle (R1). -/
theorem settle_of_waiting_nil {s : State} (h : s.path.waiting = []) : settle s = s := by
  simp [settle, h, settleWaiting]

/-- Emptying an empty waiting list changes nothing. -/
theorem clear_waiting {s : State} (h : s.path.waiting = []) : { s with path := { s.path with waiting := [] } } = s := by
  obtain ⟨now, straps, path, command, report, frame, lens, axis, engines, gyro, stab, overlay, audio, record, metadata,
    pending⟩ := s
  obtain ⟨w, q, i, a, wt, m, b, r, rt, n⟩ := path
  simp only at h
  subst h
  rfl

/-- A write with a place in the queue and none waiting is accepted at once (R1). -/
theorem exec_write_accepted {b : WriteBurst} {s : State} (hw : b.wellFormed = true) (hq : s.path.waiting = [])
    (hl : s.path.passQueue.length < 16) : exec (.upstreamWriteAccepted b) s = .next (acceptWrite b s) := by
  simp [exec, execUpstreamWriteAccepted, hw, presentRequest, settle, hq, settleWaiting, hl, acceptRequest,
    clear_waiting hq]

/-- A read with a place in the queue and none waiting is accepted at once (R1). -/
theorem exec_read_accepted {b : ReadBurst} {s : State} (hw : b.wellFormed = true) (hq : s.path.waiting = [])
    (hl : s.path.passQueue.length < 16) : exec (.upstreamReadAccepted b) s = .next (acceptRead b s) := by
  simp [exec, execUpstreamReadAccepted, hw, presentRequest, settle, hq, settleWaiting, hl, acceptRequest,
    clear_waiting hq]

/-- Beats of the read at the memory-side port return (R8, R12). -/
theorem exec_beats_return {s : State} {p : PassBurst} {len : Nat} {cls : Option ReadClass} {beats : List BeatData}
    (hp : s.path.atMemory = some (.pass p)) (hb : p.body = .read len cls) (h1 : 1 ≤ beats.length)
    (hl : s.path.beatsBack.length + beats.length ≤ len) :
    exec (.readReturn (some beats)) s = .next (beatsReturn p len cls beats s) := by
  simp [exec, execReadReturn, hp, hb, h1, hl]

end Sys2Proof.Machine
end

