-- ==== Sys2Proof/Laws/Commands.lean ====
section
/-! SUPPORT. What one command's execution is, said once: the record taken, the meaning run on it, its completion offered; and
the small facts about a command record's fields. -/

namespace Sys2Proof.Machine

/-- The step of the next command runs its meaning and offers its completion (R190). -/
theorem runCommand_next {accepts : CommandRecord → Bool} {body : CommandRecord → State → State × Completion} {s : State}
    {r : CommandRecord} (h : NextIs s r) (ha : accepts r = true) :
    runCommand accepts body s = finishCommand r (body r (popCommand s)) := by
  simp [runCommand, nextCommand, h.1, h.2, ha]

/-- A step of another command's row does nothing (log entry 6). -/
theorem runCommand_other {accepts : CommandRecord → Bool} {body : CommandRecord → State → State × Completion} {s : State}
    {r : CommandRecord} (h : NextIs s r) (ha : accepts r = false) : runCommand accepts body s = s := by
  simp [runCommand, nextCommand, h.1, h.2, ha]

/-- No command is executed while a report is held or the queue is empty (R190). -/
theorem runCommand_none {accepts : CommandRecord → Bool} {body : CommandRecord → State → State × Completion} {s : State}
    (h : s.command.held ≠ [] ∨ s.command.queue = []) : runCommand accepts body s = s := by
  rcases h with h | h
  · simp [runCommand, nextCommand, h]
  · by_cases hh : s.command.held = [] <;> simp [runCommand, nextCommand, h, hh]

@[simp] theorem finishCommand_completes (r : CommandRecord) (st : Status) (t : State) :
    finishCommand r (completes st t) = completed r st .none t := rfl

@[simp] theorem finishCommand_refuses (r : CommandRecord) (st : Status) (t : State) :
    finishCommand r (refuses st t) = completed r st .none t := rfl

/-- A record of code `n` is matched by the row of code `n`. -/
theorem CommandRecord.is_of_code {r : CommandRecord} {n : Nat} (h : r.code = BitVec.ofNat 16 n) (hn : n < 65536) :
    r.is n = true := by
  simp [CommandRecord.is, h]
  omega

/-- A record of code `n` and selection `v` is matched by the row of both. -/
theorem CommandRecord.selects_of {r : CommandRecord} {n v : Nat} (h : r.code = BitVec.ofNat 16 n) (hn : n < 65536)
    (hv : r.byte 4 = v) : r.selects n v = true := by
  simp [CommandRecord.selects, CommandRecord.is_of_code h hn, hv]

/-- A byte field is below 256. -/
theorem CommandRecord.byte_lt (r : CommandRecord) (n : Nat) : r.byte n < 256 := by
  unfold CommandRecord.byte field
  rcases (r.params.drop (n - 4)) with _ | ⟨a, l⟩ <;> simp [ofLe]
  omega

/-- A flag byte of 0 or 1 names a flag. -/
theorem flagOfCode_of_le {n : Nat} (h : n ≤ 1) : flagOfCode n = some (n == 1) := by
  have : n = 0 ∨ n = 1 := by omega
  rcases this with h | h <;> subst h <;> rfl

/-- A flag byte above 1 names nothing. -/
theorem flagOfCode_of_gt {n : Nat} (h : 1 < n) : flagOfCode n = none := by
  unfold flagOfCode
  split <;> first | omega | rfl

/-- DONE unless a value was changed. -/
theorem doneOrClamped_of_iff {c : Bool} {p : Prop} [Decidable p] (h : c = true ↔ ¬ p) :
    doneOrClamped c = if p then .done else .clamped := by
  unfold doneOrClamped
  by_cases hp : p <;> simp [hp] at h ⊢ <;> simp [h]

@[simp] theorem EngineId.ofNumber_number (id : EngineId) : EngineId.ofNumber id.number = some id := by cases id <;> rfl

/-- A number outside 1 to 3 names no engine. -/
theorem EngineId.ofNumber_none {n : Nat} (h : n = 0 ∨ 3 < n) : EngineId.ofNumber n = none := by
  unfold EngineId.ofNumber
  split <;> first | omega | rfl

@[simp] theorem Channel.ofNumber_number (c : Channel) : Channel.ofNumber c.number = some c := by cases c <;> rfl

/-- A number outside 1 to 4 names no channel. -/
theorem Channel.ofNumber_none {n : Nat} (h : n = 0 ∨ 4 < n) : Channel.ofNumber n = none := by
  unfold Channel.ofNumber
  split <;> first | omega | rfl

/-- The masks of SET EVENT MASK, entry by entry (R200, R207). -/
theorem maskEvents_eq (mask : Nat) (events : List EventEntry) (i : Nat) :
    maskEvents mask i events = (events.zipIdx i).map fun p => { p.1 with masked := mask.testBit p.2 } := by
  induction events generalizing i with
  | nil => rfl
  | cons e es ih => simp [maskEvents, ih]

end Sys2Proof.Machine
end

