-- ==== Sys2Proof/Laws/Gyro.lean ====
section
/-! SUPPORT. The clock of a gyro transaction (R87): when a half clock period is over, when the transaction starts, and what its
edges are, said once. -/

namespace Sys2Proof.Machine

/-- The transaction began one sample period before the next expiry (R87). -/
theorem GyroPort.transactionStart_of_timer {g : GyroPort} {q : Nat} (h : g.timer = some q) :
    g.transactionStart = q - g.setup.period := by
  simp [GyroPort.transactionStart, h]

/-- The half clock period of number m, of 108,000 over the clock rate in kHz, is over exactly when its time has come. -/
theorem GyroPort.le_halvesOver {g : GyroPort} {now m : Nat} (hm : 0 < m) :
    m ≤ g.halvesOver now ↔ g.transactionStart * g.setup.clockKHz + m * 108000 ≤ now * g.setup.clockKHz := by
  rw [GyroPort.halvesOver, show refclk 13500 = 108000 from rfl, Nat.le_div_iff_mul_le (by decide), Nat.sub_mul]
  omega

/-- The sampling edge is the first or the second of its period (R87). -/
theorem PortSetup.samplingEdge_eq (p : PortSetup) : p.samplingEdge = if p.phase = .leading then 1 else 2 := by
  unfold PortSetup.samplingEdge
  cases p.phase <;> rfl

end Sys2Proof.Machine
end

