-- ==== Sys2Proof/Tests/Slice0.lean ====
section
/-! SUPPORT. The model's own tests. The expected values of the first sections are the spec's own worked examples (each names
its file and heading); the last section shows, for each obligation that has premises, a concrete state that meets them. -/

namespace Sys2Proof.Tests

open Sys2Proof Sys2Proof.Machine

set_option Elab.async false

/-! ### Helpers -/

/-- A command record with the given code, tag 7 and parameter bytes from byte 4 on. -/
def cmd (code : Nat) (params : List Nat) : CommandRecord :=
  { code := BitVec.ofNat 16 code, tag := 7, params := (params.map (BitVec.ofNat 8) ++ List.replicate 28 0).take 28 }

/-- The little-endian bytes of a 2-byte field. -/
def le2 (n : Nat) : List Nat := [n % 256, n / 256 % 256]

/-- The little-endian bytes of a 4-byte field. -/
def le4 (n : Nat) : List Nat := le2 n ++ le2 (n / 65536)

/-- The state with `r` alone in the command queue and no report held. -/
def holding (r : CommandRecord) (s : State := State.reset) : State := { s with command := { queue := [r], held := [] } }

/-- The state with these window table entries, entry `i` of the list as entry `i`, the rest empty. -/
def withWindows (ws : List WindowRecord) (s : State := State.reset) : State :=
  { s with path := { s.path with windows := (ws.map some ++ List.replicate 16 none).take 16 } }

/-- A beat with every enable set. -/
def full (v : Nat) : Beat := { data := BitVec.ofNat 64 v, enables := 255 }

/-- A state after a step, the old one where the step stops. -/
def after (r : Result) (s : State) : State :=
  match r with
  | .next t => t
  | _ => s

/-! ### Operands the links cannot carry (R1) -/

theorem test_write_misaligned : ({ addr := 4, tag := 0, beats := [full 0] } : WriteBurst).wellFormed = false := by decide
theorem test_write_no_beat : ({ addr := 8, tag := 0, beats := [] } : WriteBurst).wellFormed = false := by decide
theorem test_write_17_beats :
    ({ addr := 8, tag := 0, beats := List.replicate 17 (full 0) } : WriteBurst).wellFormed = false := by decide
theorem test_write_16_beats :
    ({ addr := 8, tag := 0, beats := List.replicate 16 (full 0) } : WriteBurst).wellFormed = true := by decide
theorem test_read_misaligned : ({ addr := 0x1001, tag := 0, len := 1 } : ReadBurst).wellFormed = false := by decide
theorem test_read_no_beat : ({ addr := 0, tag := 0, len := 0 } : ReadBurst).wellFormed = false := by decide
theorem test_read_17_beats : ({ addr := 0, tag := 0, len := 17 } : ReadBurst).wellFormed = false := by decide
theorem test_return_no_beat : (Instr.readReturn (some [])).wellFormed = false := by decide
theorem test_return_17_beats : (Instr.readReturn (some (List.replicate 17 0))).wellFormed = false := by decide
theorem test_malformed_refused :
    exec (.upstreamReadAccepted { addr := 4, tag := 0, len := 1 }) State.reset = .refused .malformed := by rfl
theorem test_unsolicited_answer : exec (.readReturn none) State.reset = .fault .unsolicitedAnswer := by rfl

/-! ### 01_windows_on_the_memory_link: classifying four bursts; arbitration with both queues busy -/

def geo : Geometry :=
  { buffers := 3, stride := 0x440000, width := 1920, height := 1080, pitch := 4096, marginX := 64, marginY := 36 }
def commandW : WindowRecord := commandWindowAtReset 0
def passW : WindowRecord :=
  { role := .pass, base := 0x10000000, sizeExp := 12, enabled := true, sets := [], params := .absent }
def frameW : WindowRecord :=
  { role := .frame, base := 0x10000000, sizeExp := 26, enabled := true, sets := [2, 4, 8], params := .frame geo }
def reportW : WindowRecord :=
  { role := .report, base := 0x3FE00000, sizeExp := 12, enabled := true, sets := [1], params := .absent }
def fourWindows : State := withWindows [commandW, passW, frameW, reportW]

theorem test_read_of_pass : classify fourWindows 0x10000800 4 3 = .unmatched := by decide +kernel
theorem test_write_no_set : classify fourWindows 0x10100000 16 5 = .unmatched := by decide +kernel
theorem test_write_straddles : classify fourWindows 0x13FFFFC0 16 1 = .straddles 2 := by decide +kernel
theorem test_write_belongs : classify fourWindows 0x3FF00020 4 0 = .belongs ⟨commandW, 0⟩ := by decide +kernel

def queued (n : Nat) : PassBurst := { id := n, tag := 0, issued := 8 * n, addr := 8 * n, body := .read 1 none }
def reportWrite : InjectedWrite :=
  { kind := .event, tag := 15, isMemoryFault := false, addr := 0, bytes := [], slot := none }
def metadataWrite : InjectedWrite := { reportWrite with kind := .metadata, addr := 64 }

/-- P1 to P6 and M1 with the count at 2, R1 joining ahead of M1: the order in which the port takes them. -/
theorem test_arbiter_order :
    let s : State := { State.reset with path := { State.reset.path with
      passQueue := [2, 3, 4, 5, 6].map queued, injected := insertReportWrite reportWrite [metadataWrite]
      arbiterCount := 3 } }
    let addrOf : MemoryRequest → Nat
      | .pass b => b.addr
      | .injected w => w.addr
    let issue (p : State × List Nat) : State × List Nat :=
      let t := issueNext p.1
      (answered t, p.2 ++ (t.path.atMemory.map addrOf).toList)
    let run := (List.range 7).foldl (fun p _ => issue p) (s, [])
    (run.2, run.1.path.arbiterCount) = ([16, 0, 24, 32, 40, 48, 64], 0) := by
  decide +kernel

/-! ### 02_frame_tracking_and_timecode: geometry, crop remap, drop-frame -/

def capture (seq : Nat) (buffer : Nat) (dx dy : Int) : CaptureRecord :=
  { seq := BitVec.ofNat 16 seq, buffer := buffer, state := .complete, dx := dx, dy := dy, limited := false, lens := none
    focal := 0, link := .absent, timecode := .zero, dropFrame := false }

theorem test_geometry_fits : geo.ok (2 ^ 24) = true := by decide +kernel
theorem test_last_image_beat : geo.lastImageBeat 0x10000000 1 = 0x10877EF8 := by decide +kernel
theorem test_remap : remapRead frameW 0x10634500 16 [capture 9 1 32 (-1)] = 0x10633540 := by decide +kernel
theorem test_remap_margin : remapRead frameW (0x10634000 + 3696) 16 [capture 9 1 32 (-1)] = 0x10634000 + 3696 := by
  decide +kernel
theorem test_drop_minute_10 : Timecode.advance .r2997 true ⟨0, 9, 59, 29⟩ = ⟨0, 10, 0, 0⟩ := by decide
theorem test_drop_minute_11 : Timecode.advance .r2997 true ⟨0, 10, 59, 29⟩ = ⟨0, 11, 0, 2⟩ := by decide
theorem test_drop_wrap : Timecode.advance .r2997 true ⟨23, 59, 59, 29⟩ = ⟨0, 0, 0, 0⟩ := by decide

def at2997 : State := { State.reset with frame := { State.reset.frame with rate := .r2997 } }
def at5994 : State := { State.reset with frame := { State.reset.frame with rate := .r5994 } }

theorem test_set_dropped_label :
    let r := cmd 0x21 [0, 11, 0, 0, 1]
    let t := setTimecode r at2997
    (t.1.frame.timecode, t.1.frame.dropFrame, t.2.status) = (⟨0, 11, 0, 2⟩, true, .clamped) := by decide +kernel
theorem test_set_dropped_label_5994 :
    (setTimecode (cmd 0x21 [0, 11, 0, 0, 1]) at5994).1.frame.timecode = ⟨0, 11, 0, 4⟩ := by decide +kernel
theorem test_set_timecode_at_25 :
    let t := setTimecode (cmd 0x21 [1, 2, 3, 31, 1]) State.reset
    (t.1.frame.timecode, t.1.frame.dropFrame, t.2.status) = (⟨1, 2, 3, 24⟩, false, .clamped) := by decide +kernel

/-- An abandoned capture: 4,105 into buffer 2, then 4,106 into buffer 0. -/
theorem test_capture_abandoned :
    let s : State := { withWindows [commandW, frameW] with frame := { State.reset.frame with
      history := [capture 4101 1 0 0, capture 4102 2 0 0, capture 4103 0 0 0, capture 4104 1 0 0], nextSeq := 4105 } }
    let write (a : Nat) (s : State) := after (exec (.upstreamWriteAccepted ⟨BitVec.ofNat 32 a, 1, [full 0]⟩) s) s
    let t := write 0x10000000 (write 0x10880000 s)
    ((t.frame.history.drop 4).map fun r => (r.seq, r.buffer, r.state), t.frame.nextSeq,
      (eventEntry t .captureAbandoned).count)
      = ([(4105, 2, .abandoned), (4106, 0, .filling)], 4107, 1) := by decide +kernel

/-- Losing and regaining the sensor at 25: the expiry and state after a capture at 80 ms, two expiries and a capture at
236 ms. -/
theorem test_free_wheel :
    let s : State := { withWindows [commandW, frameW] with now := 8 * 27000 * 80 }
    let write (a : Nat) (s : State) := after (exec (.upstreamWriteAccepted ⟨BitVec.ofNat 32 a, 1, [full 0]⟩) s) s
    let expire (s : State) := after (exec .frameMarkTimerExpiry s) s
    let a := write 0x10880000 s
    let b := expire (expire a)
    let c := write 0x10000000 { b with now := 8 * 27000 * 236 }
    ([a, b, c].map fun t => (t.frame.tracker, t.frame.expiry / (8 * 27000)))
      = [(.locked, 140), (.freeWheel, 220), (.locked, 296)] := by decide +kernel

/-! ### 03_the_lens_link: focal length, the frames of R211, losing the lens -/

def identity : Identity :=
  { name := [], zoomMin := 0, zoomMax := 65535, focusMin := 0, focusMax := 65535, irisMin := 0, irisMax := 65535
    focal := [8500, 12000, 17000, 25000, 36000, 52000, 75000, 105000, 144000], shiftX := 120, shiftY := 120
    extender := true }
def position (zoom extender : Nat) : Position :=
  { zoom := zoom, focus := 21300, iris := 30100, fNumber := 28, shiftX := 96, shiftY := -40, extender := extender
    rocker := 0, wheel := 0, status := 0 }

theorem test_focal : focalLength identity (position 40000 100) = 50125 := by decide +kernel
theorem test_focal_extender : focalLength identity (position 40000 200) = 100250 := by decide +kernel
theorem test_focal_tele : focalLength identity (position 65535 100) = 143995 := by decide +kernel

/-- A character with the parity R43 asks for and a high stop bit. -/
def good (b : Byte) : LineChar := ⟨b, LineCharBad ⟨b, true, true⟩ == false, true⟩
/-- The lens's start bit falls. -/
def startBit (s : State) : State := after (exec (.lensCharacterReceived .startBit) s) s
/-- Characters of the lens's, each after its start bit. -/
def heard (cs : List LineChar) (s : State) : State :=
  cs.foldl (fun s c => after (exec (.lensCharacterReceived (.character c)) (startBit s)) s) s

/-- The RECORD BUTTON notice of 11.5, A5 22 01 01 DC, is taken. -/
theorem test_notice_frame :
    let t := startBit (heard ([0xA5, 0x22, 0x01, 0x01].map good) (State.atPinReset 0 true))
    let u := after (exec (.noticeTaken (good 0xDC)) t) t
    (t.lens.rx.map (·.bytes), (eventEntry u .lensNotice).count) = (some [0x22, 0x01, 0x01], 1) := by decide +kernel

/-- Seven misses keep a link DEGRADED; the eighth takes it to SEEKING with the count at 0. -/
theorem test_eighth_miss :
    let s : State := { State.atPinReset 0 true with lens := { (State.atPinReset 0 true).lens with
      link := .degraded, miss := 7, window := some ⟨100, 200⟩ } }
    let t := after (exec .replyWindowExpiry s) s
    (t.lens.link, t.lens.miss, (eventEntry t .lensState).count) = (.seeking, 0, 1) := by decide +kernel

/-- A cancelled DEMAND waits again with one cancellation; the second gives the cycle up with LINK_COLLISION. -/
theorem test_second_collision :
    let f : TxFrame := { kind := .demand, bytes := [0xA5], cancels := 0, live := true }
    let s : State := { State.reset with lens := { State.reset.lens with link := .online, sending := some f } }
    let t := after (exec .lensFrameCancelled s) s
    let r := after (exec (.lensCharacterReceived (.character ⟨0, true, true⟩)) t) t
    let u := after (exec .lensFrameCancelled (after (exec .lensFrameStart r) r)) s
    (t.lens.waiting, (eventEntry t .linkCollision).count, u.lens.waiting, (eventEntry u .linkCollision).count)
      = (some { f with cancels := 1 }, 0, none, 1) := by decide +kernel

/-- The collision of 3.3: the read-back differs at bit 4 of the TYPE character, 0.148 ms from its frame's start, and the
POSITION is received from its own start on while the DEMAND waits. -/
theorem test_collision_read_whole :
    let f : TxFrame := { kind := .demand, bytes := [0xA5, 0x10, 0x00, 0xF0], cancels := 0, live := true }
    let s : State := { State.reset with
      now := 12 * bitTime, lens := { State.reset.lens with link := .online, sending := some f } }
    let t := after (exec .lensFrameCancelled s) s
    let u := after (exec (.lensCharacterReceived (.character (good 0x20))) t) t
    (t.now + bitTime, t.lens.charStart, after (exec .lensFrameStart t) t == t, u.lens.rx)
      = (17 * bitTime, some byteTime, true, some ⟨0, [0x20]⟩) := by decide +kernel

/-- A start bit within the 2 byte times of idle keeps a frame waiting, and a stop bit read low does so until the line is high
again: the frame starts 2 byte times after that (R43, R47). -/
theorem test_start_bit_keeps_waiting :
    let f : TxFrame := { kind := .demand, bytes := [0xA5], cancels := 0, live := true }
    let begins (s : State) := after (exec .lensFrameStart s) s
    let s : State := { State.reset with now := byteTime, lens := { State.reset.lens with link := .online, waiting := some f } }
    let t := startBit s
    let low := after (exec (.lensCharacterReceived (.character ⟨0, true, false⟩)) t) t
    let high := after (exec (.lensCharacterReceived .returnsHigh) { low with now := 5 * byteTime }) low
    (begins t == t, begins low == low, (begins high).lens.sentAt, (begins high).lens.sending)
      = (true, true, 7 * byteTime, some f) := by decide +kernel

/-- A SYNC whose start bit fell in the reply window, or within 2 ms of an IDENTITY, and that ends after them (R51, R54). -/
theorem test_start_bit_in_time :
    let s : State := { State.reset with lens := { State.reset.lens with
      link := .online, window := some ⟨0, 200⟩, provisional := some ⟨identity, 200⟩, charStart := some 200 } }
    let expired := fun s => let t := after (exec .replyWindowExpiry s) s; after (exec .identityReplyTimeout t) t
    let hears (b : Byte) := after (exec (.lensCharacterReceived (.character (good b))) (expired s)) s
    ([expired s, expired (hears 0xA5), hears 0].map fun t =>
        (t.lens.window.isSome, t.lens.provisional.isSome, t.lens.link))
      = [(true, true, .online), (true, true, .online), (false, false, .degraded)] := by decide +kernel

/-! ### 04_axis_control_and_move_engines: rocker, ramps, a zoom that hands over -/

theorem test_rocker :
    [5, 9, 67, -30, 127].map (rockerSpeed 8 1024 256) = [0, 0, 251, -34, 1024] := by decide +kernel
theorem test_rocker_trim : rockerSpeed 8 1024 128 67 = 125 := by decide +kernel
theorem test_eased : [1, 2, 3, 4].map (rampOutput 10000 30000 4 .eased) = [13125, 20000, 26875, 30000] := by
  decide +kernel
theorem test_linear_falling : [1, 2, 3].map (rampOutput 30000 10000 3 .linear) = [23334, 16667, 10000] := by
  decide +kernel

def mark (s : State) : State := after (exec .frameMarkTimerExpiry s) s

/-- ENGINE 1 on ZOOM hands over to ENGINE 3 on FOCUS: the demands at marks M1 to M5. -/
def handOver : State :=
  let s : State := { State.reset with
    axis := { State.reset.axis with zoom := ⟨.engine .e1, 12000, 0⟩, focus := ⟨.engine .e3, 20000, 0⟩ }
    engines := { State.reset.engines with
      e1 := { Engine.reset with output := 12000, queue := [.ramp 20000 2 .linear, .signal 4, .mark 7] }
      e3 := { Engine.reset with output := 20000, queue := [.wait 1, .ramp 50000 2 .linear] } } }
  let s := after (exec .engineModeRun (holding (cmd 0x3A [3, 1]) s)) s
  after (exec .engineModeRun (holding (cmd 0x3A [1, 1]) s)) s

theorem test_hand_over_m1 : ((mark handOver).axis.zoom.demand, (mark handOver).axis.focus.demand) = (16000, 20000) := by
  decide +kernel
theorem test_hand_over_m2 :
    let t := mark (mark handOver)
    (t.axis.zoom.demand, t.axis.focus.demand, t.engines.e3.received, (eventEntry t .engineMark).count,
      (eventEntry t .engineDone).count) = (20000, 20000, 1, 1, 1) := by decide +kernel
theorem test_hand_over_m5 :
    let u := mark (mark (mark (mark handOver)))
    let t := mark u
    (u.axis.focus.demand, t.axis.focus.demand, t.engines.e3.state, (eventEntry t .engineDone).count)
      = (35000, 50000, .idle, 2) := by decide +kernel

/-- The operator takes zoom from a preset: M2 of the example, with the demand at 31,200. -/
theorem test_takeover :
    let s : State := { State.reset with
      lens := { State.reset.lens with link := .online, position := some { position 31200 100 with rocker := -40 } }
      axis := { State.reset.axis with zoom := ⟨.engine .e1, 31200, 0⟩ }
      engines := { State.reset.engines with e1 := { Engine.reset with
        state := .ramping, move := some (.ramp 0 40000 100 .linear 38), queue := [.dwell 3, .mark 1] } } }
    let t := mark s
    (t.axis.zoom.source, t.axis.zoom.demand, t.engines.e1.state, t.engines.e1.move, t.engines.e1.queue)
      = (.rocker, 31126, .held, none, [.dwell 3, .mark 1]) := by decide +kernel

/-! ### 05_the_stabiliser: one sample, a capture aborted by a pan, the stabiliser chain -/

theorem test_one_sample :
    let a : StabAxis := { StabAxis.reset with
      bias := 20, acc := 1280000, settings := { StabAxis.reset.settings with gain := 34 } }
    (integrate .running (correctedRate .running (some 1200) 20) a).acc = 1318870 := by decide +kernel

def sample : GyroBytes :=
  { status := 0x81, yawLow := 0xB0, yawHigh := 0x04, pitchLow := 0xFA, pitchHigh := 0xFF, check := 0x30 }

theorem test_sample_rates : gyroRates sample = (1200, -6) := by decide +kernel
theorem test_sample_good :
    sampleGood { State.reset.gyro.setup with validMask := 0x80, validValue := 0x80 } sample = true := by decide +kernel
theorem test_sample_bad :
    sampleGood { State.reset.gyro.setup with validMask := 0x80, validValue := 0x00 } sample = false := by decide +kernel

/-- The levels of GDI that spell six bytes at the edges of one phase, most significant bit first, with zeros at the other. -/
def gdiOf (phase : ClockPhase) (b : GyroBytes) : GdiLevels :=
  let w := b.status ++ b.yawLow ++ b.yawHigh ++ b.pitchLow ++ b.pitchHigh ++ b.check
  match phase with
  | .leading => ⟨w, 0⟩
  | .trailing => ⟨0, w⟩

/-- LEADING phase reads at the first edges, TRAILING phase at the second (R87). -/
theorem test_gdi_read :
    let p := State.reset.gyro.setup
    (p.readGdi (gdiOf .leading sample), { p with phase := .trailing }.readGdi (gdiOf .trailing sample),
      (p.readGdi (gdiOf .trailing sample)).status) = (sample, sample, 0) := by decide +kernel

/-- A transaction at 10,000 kHz that began at 0, half a clock period being 10.8 units: the command byte 0x4A, 01001010, in
LEADING phase at the times of the first three bits, and GCLK around the first two edges and after the last (R87). -/
theorem test_gyro_pins :
    let g : GyroPort := { State.reset.gyro with
      state := .running, transaction := true, timer := some 216000
      setup := { State.reset.gyro.setup with clockKHz := 10000, command := 0x4A } }
    let trailing : GyroPort := { g with setup := { g.setup with phase := .trailing, polarity := .idleHigh } }
    (g.gsel, [0, 21, 22, 43, 44].map g.gdo, [10, 11, 21, 22, 1198, 1199, 1209, 1210].map g.gclk)
        = (false, [false, false, true, true, false], [false, true, true, false, false, true, true, false])
      ∧ ([32, 33, 53, 54, 55].map trailing.gdo, [10, 11, 21, 22].map trailing.gclk)
        = ([false, true, true, false, false], [true, false, false, true]) := by decide +kernel

/-- Sample 199: counted, then the pan ends the capture ABORTED with count 198. -/
theorem test_capture_aborted :
    let a (bias : Int) : StabAxis := { StabAxis.reset with bias := bias }
    let s : State := { withWindows [commandW, reportW] with
      gyro := { State.reset.gyro with state := .running, transaction := true }
      stab := { State.reset.stab with
        x := { a 20 with panRun := 49 }, y := a (-6), capture := some ⟨197, 0, 0, 0x31⟩ } }
    let b : GyroBytes := ⟨0, 0x00, 0x10, 0, 0, 0x10⟩
    let t := after (exec (.sampleEvent (gdiOf .leading b)) s) s
    (t.stab.capture, t.stab.x.pan,
      t.report.queue.filter fun r => r.recordKind == .completion)
      = (none, .panning, [.completion .aborted 0x31 0x43 (.bias 20 (-6) 198) none]) := by decide +kernel

def chain (link : LinkState) : State :=
  { withWindows [commandW, frameW] with
    lens := { State.reset.lens with
      link := link, identity := some identity, position := some (position 40000 100), focal := 50125 }
    stab := { State.reset.stab with
      mode := .hybrid, optical := true, x := { StabAxis.reset with acc := 1280000 }
      y := { StabAxis.reset with acc := 239400, settings := { StabAxis.reset.settings with negative := true } } } }

theorem test_chain :
    let t := stabMark (some (64, 36)) (chain .online)
    [t.1.stab.x, t.1.stab.y].map (fun a => (a.corr16, a.o16, a.a16, a.e16)) = [(802, 384, 307, 495), (-150, -150, -128, -22)] := by
  decide +kernel
theorem test_chain_correction :
    let c := (stabMark (some (64, 36)) (chain .online)).2
    (c.demandX, c.demandY, c.dx, c.dy, c.limited) = (120, -47, 32, -1, false) := by decide +kernel
theorem test_chain_link_lost :
    let c := (stabMark (some (64, 36)) (chain .seeking)).2
    (c.dx, c.dy, c.limited) = (52, -9, false) := by decide +kernel
theorem test_chain_narrow_margin :
    let c := (stabMark (some (32, 36)) (chain .seeking)).2
    (c.dx, c.limitedX, c.limitedY) = (32, true, false) := by decide +kernel

/-! ### 06_viewfinder_overlay: position, text, bars, a double commit, one beat drawn -/

theorem test_read_position : (outputLine geo 2049280, outputPixel geo 2049280) = (464, 576) := by decide +kernel

def shown : Snapshot :=
  { Snapshot.reset with
    focal := 50125, lens := some { fNumber := 28, zoom := 40000, focus := 0 }, clip := some 42, dropFrame := true
    timecode := ⟨0, 11, 0, 2⟩, ring := some (25165824, 67108864), meters := .all ⟨20, 26⟩ }
def codes (t : String) : List Nat := t.toList.map Char.toNat

theorem test_text_timecode : sourceText shown .timecode = codes "00:11:00;02" := by decide +kernel
theorem test_text_focal : sourceText shown .focal = codes "  50mm" := by decide +kernel
theorem test_text_focal_extender : sourceText { shown with focal := 100250 } .focal = codes " 100mm" := by decide +kernel
theorem test_text_iris : sourceText shown .iris = codes "F2.8" := by decide +kernel
theorem test_text_zoom : sourceText shown .zoom = codes "Z 61" := by decide +kernel
theorem test_text_clip : sourceText shown .clip = codes "C0042" := by decide +kernel
theorem test_text_no_lens :
    (sourceText { shown with lens := none } .iris, sourceText { shown with lens := none } .zoom)
      = (codes "F-.-", codes "Z--") := by decide +kernel

theorem test_audio_bar :
    let e : Element := ⟨.bar (.audio .c1), 0, 0, 64, 4, 1, .always, false, 1, 0, []⟩
    ((List.range 64).filter fun p => e.covers shown p 3) = List.range 40 ++ [51] := by decide +kernel
theorem test_ring_bar :
    let e : Element := ⟨.bar .ringFill, 0, 0, 6, 100, 1, .always, false, 7, 0, []⟩
    ((List.range 100).filter fun q => e.covers shown 5 q) = (List.range 100).drop 63 := by decide +kernel

def tally (n : Nat) : Element := ⟨.tally, n, 0, 1, 1, 0, .always, false, 0, 0, []⟩

/-- A double commit: B is discarded, C becomes PENDING, and the frame start shows C. -/
theorem test_double_commit :
    let s : State := { State.reset with overlay := { State.reset.overlay with
      s0 := ⟨.shown, [tally 0]⟩, s1 := ⟨.edit, [tally 1, tally 2]⟩, frameCount := 300 } }
    let t := after (exec .overlayCommit (holding (cmd 0x52 []) s)) s
    let t := { t with overlay := { t.overlay with s2 := { t.overlay.s2 with list := [tally 3] } } }
    let u := after (exec .overlayCommit (holding (cmd 0x52 []) t)) s
    let v := frameStart u
    (u.overlay.slots, v.overlay.slots, v.overlay.frameCount)
      = ([⟨.shown, [tally 0]⟩, ⟨.edit, []⟩, ⟨.pending, [tally 3]⟩],
         [⟨.free, [tally 0]⟩, ⟨.edit, []⟩, ⟨.shown, [tally 3]⟩], 301) := by decide +kernel

theorem test_beat_drawn :
    let box : Element := ⟨.box 2, 560, 460, 40, 10, 2, .always, false, 2, 0, []⟩
    let snap : Snapshot := { Snapshot.reset with count := 7, zebra := ⟨.above, 230, 0, 0, 16⟩ }
    beatBytes (drawBeat snap [box] 596 464 (beatOfBytes [240, 120, 200, 130, 235, 118, 236, 132]))
      = [16, 120, 200, 130, 81, 90, 81, 240] := by decide +kernel

/-! ### 07_audio_conditioning: a safety track, a limited peak, meter movement, cadence -/

def limited (gain : Int) : AudioOutput := { AudioOutput.reset .c1 with route := ⟨.c1, some gain, true⟩ }

theorem test_safety_track :
    let inputs : PerChannel Int := ⟨8000000, 0, 0, 0⟩
    let a := processOutput 7476000 8 inputs (limited 0)
    let b := processOutput 7476000 8 inputs { AudioOutput.reset .c1 with route := ⟨.c1, some (-20), false⟩ }
    (a.1.r, a.2.1, b.2.1) = (15310, 7475586, 2529785) := by decide +kernel

theorem test_limited_peak :
    let run (x : Int) (o : AudioOutput) := processOutput 7476000 8 ⟨x, 0, 0, 0⟩ o
    let a := run 3000000 (limited 12)
    let b := run 4500000 a.1
    let c := run 3000000 b.1
    [(a.1.r, a.2.1), (b.1.r, b.2.1), (c.1.r, c.2.1)]
      = [(16384, 5985718), (13642, 7475937), (13650, 4986881)] := by decide +kernel

theorem test_segments : [7475937, 4986881, 0].map segmentCount = [31, 29, 0] := by decide +kernel

theorem test_cadence :
    let u (phase count : Nat) : State := { State.reset with
      frame := { State.reset.frame with rate := .r2997 }
      audio := { State.reset.audio with cadence := .running, phase := phase, count := count } }
    let t := settleCadence (u 0 1540)
    (t.audio.drift, t.audio.driftFlag, (eventEntry t .avDrift).count, t.audio.phase) = (-62, true, 1, 1) := by
  decide +kernel
theorem test_expected_counts : (List.range 5).map (expectedCount .r2997) = [1602, 1601, 1602, 1601, 1602] := by
  decide +kernel

/-- Meter movement with decay interval 2 and hold time 4: displayed and held after each mark. -/
theorem test_meter :
    let settings : AudioUnit := { State.reset.audio with decayInterval := 2, holdTime := 4 }
    let peaks := [7475937, 1500000, 1500000, 1500000, 1500000, 1500000, 1500000, 4986881]
    let c := segmentCount 1500000
    let run := peaks.scanl (fun o p => closeOutput settings { o with peak := p }) (AudioOutput.reset .c1)
    (run.drop 1).map (fun o => (o.displayed, o.held))
      = [(31, 31), (31, 31), (30, 31), (30, 31), (29, 29), (29, 29), (28, 28), (29, 29)] ∧ c < 28 := by decide +kernel

/-! ### 08_the_record_ring_and_clips: steps of the two examples -/

def markerWord : Nat := 0x0807060504030201
def ringW : WindowRecord :=
  { role := .record, base := 0x18000000, sizeExp := 20, enabled := true, sets := [4, 16]
    params := .record ⟨BitVec.ofNat 64 markerWord, 48, 16, true, 5⟩ }
def headerBeats (len buffer ra : Nat) : List Beat :=
  [full markerWord, full (len + buffer * 2 ^ 32 + ra * 2 ^ 40), full 0, full 0]
def encode (off : Nat) (beats : List Beat) (s : State) : State :=
  after (exec (.upstreamWriteAccepted ⟨BitVec.ofNat 32 (0x18000000 + off), 2, beats⟩) s) s
def ringState : State := withWindows [commandW, ringW]

/-- REC START with pre-roll 5 among frames 100 to 109. -/
theorem test_rec_start :
    let s : State := { ringState with record := { State.reset.record with
      writeEnd := some 327680
      index := (List.range 10).map fun k => ⟨k * 32768, some (BitVec.ofNat 16 (100 + k)), k % 4 == 0, false⟩ } }
    let t := after (exec .recStart (holding (cmd 0x71 (le2 5)) s)) s
    (t.record.clips.map fun c => (c.number, c.state, c.start), t.record.drain, t.record.guarded, t.record.level)
      = ([(1, .opened, some 131072)], some 131072, 196608, .low) := by decide +kernel

/-- Header 114 closes clip 1 at 458,752. -/
theorem test_clip_closes :
    let s : State := { ringState with
      frame := { State.reset.frame with history := [capture 114 0 0 0], nextSeq := 115 }
      record := { State.reset.record with
        writeEnd := some 458752, drain := some 131072, guarded := 327680, level := .ready, nextClip := 2
        clips := [⟨1, .closing, some 131072, none, some 113, none, 4, 0⟩] } }
    let t := encode 458752 (headerBeats 32768 0 0) s
    (t.record.clips.map fun c => (c.state, c.stop, c.stamped), t.record.guarded, t.record.writeEnd)
      = ([(.closed, some 458752, 4)], 327712, some 458784) := by decide +kernel

def stalled : State :=
  { ringState with
    frame := { State.reset.frame with history := [capture 533 0 0 0], nextSeq := 534 }
    record := { State.reset.record with
      writeEnd := some 65536, drain := some 65536, guarded := 1048576, level := .high, nextClip := 8
      clips := [⟨7, .opened, some 65536, none, none, none, 31, 0⟩] } }

theorem test_overrun_starts :
    let t := encode 65536 (headerBeats 32768 0 0) stalled
    (t.record.episode, t.record.writeEnd, t.record.clips.map fun c => (c.stamped, c.dropped), t.path.passQueue,
      (eventEntry t .recordOverrun).count, t.overlay.overrunHold) = (some 65536, some 65536, [(31, 1)], [], 1, 50) := by
  decide +kernel

theorem test_overrun_ends :
    let s : State := { stalled with
      frame := { State.reset.frame with history := [capture 535 0 0 0], nextSeq := 536 }
      record := { stalled.record with drain := some 196608, guarded := 917504, episode := some 65536 } }
    let t := encode 131072 (headerBeats 32768 0 0) s
    (t.record.episode, t.record.writeEnd, t.record.guarded, t.record.clips.map fun c => c.stamped)
      = (none, some 131104, 983072, [32]) := by decide +kernel

/-- A card read accepted in a ring of 2 MiB that returns in one of 1 MiB: D wraps at the ring in force (log entry 34). -/
theorem test_card_read_wraps :
    let s : State := { ringState with
      record := { State.reset.record with
        drain := some 0xFFFE0, guarded := 65536, clips := [⟨1, .opened, some 0xFFFE0, none, none, none, 1, 0⟩] }
      path := { ringState.path with
        atMemory := some (.pass ⟨1, 4, 0x180FFFE0, 0x180FFFE0, .read 4 (some ⟨{ ringW with sizeExp := 21 }, 1⟩)⟩) } }
    let t := after (exec (.readReturn (some [0, 0, 0, 0])) s) s
    (t.record.drain, t.record.guarded) = (some 0, 65504) := by decide +kernel

/-- A card read of a HIGH ring that brings D to the end of a CLOSED clip: G falls to 65,536 by the advance, which is READY, and
to 0 by the drain, which is LOW (R159, R172). -/
theorem test_card_read_two_levels :
    let r := { ringW with params := .record ⟨0, 48, 1, true, 5⟩ }
    let s : State := { withWindows [commandW, r, reportW] with record := { State.reset.record with
      drain := some 0, guarded := 65568, level := .high, clips := [⟨1, .closed, some 0, some 32, none, none, 1, 0⟩] } }
    let t := cardRead 0x18000000 4 s
    (t.report.queue.filterMap fun x => match x with
      | .event _ _ (.ringLevel l g) _ => some (l, g)
      | _ => none, (eventEntry t .recordState).count) = ([(.ready, 65536), (.low, 0)], 1) := by decide +kernel

/-! ### 09_frame_metadata: the cursor; 10_commands_reports_and_attention: a stalled queue, an acknowledgement race -/

def metadataW : WindowRecord :=
  { role := .metadata, base := 0x20000000, sizeExp := 12, enabled := true, sets := [], params := .absent }

theorem test_metadata_cursor :
    let s : State := { withWindows [commandW, metadataW] with metadata := { cursor := 62, mark := 999, waiting := none } }
    let t := mark s
    let u := mark t
    (t.metadata.mark, t.metadata.cursor, u.metadata.cursor, u.path.injected.map fun w => w.addr)
      = (1000, 63, 0, [0x20000000 + 64 * 62, 0x20000000 + 64 * 63]) := by decide +kernel

/-- A stalled report queue (R197): C1, STATUS REQUEST naming the audio unit (block 10), with 15 reports queued: its first
STATUS report joins, the other three and the completion are held. -/
theorem test_stalled_queue :
    let e : Report := .event .software 1 (.raw []) true
    let s : State := { withWindows [commandW, reportW] with report := { State.reset.report with
      queue := List.replicate 15 e } }
    let t := after (exec .statusRequest (holding (cmd 0x14 [10]) s)) s
    (t.report.queue.length, t.command.held.map Report.recordKind)
      = (16, [.status, .status, .status, .completion]) := by decide +kernel

def racing : State :=
  { State.reset with report := { State.reset.report with
    events := State.reset.report.events.set 22 { pending := true, masked := false, count := 11 }, attn := true } }
def ack11 : CommandRecord := cmd 0x11 [23, 11]

theorem test_race_occurrence_first :
    let t := after (exec .ackEvent (holding ack11 (raiseEvent (.ringLevel .low 0) racing))) racing
    (eventEntry t .ringLevel, t.report.attn) = (⟨true, false, 12⟩, true) := by decide +kernel
theorem test_race_ack_first :
    let t := after (exec .ackEvent (holding ack11 racing)) racing
    (eventEntry t .ringLevel, t.report.attn, eventEntry (raiseEvent (.ringLevel .low 0) t) .ringLevel)
      = (⟨false, false, 11⟩, false, ⟨true, false, 12⟩) := by decide +kernel

/-! ### Each obligation's premises are met (the boundary values of its clauses) -/

theorem nextIs_holding (r : CommandRecord) (s : State) : NextIs (holding r s) r := ⟨rfl, rfl⟩

/-- The least divisor, the last byte of a value, the first byte of a record's fields, and a ring with one slot taken. -/
theorem witness_SharedOperations :
    0 < 1 ∧ 3 < 4 ∧ 4 ≤ 4 ∧ slotsSorted [(0, SlotState.written), (5, .written)] := by
  refine ⟨by decide, by decide, by decide, ?_⟩
  unfold slotsSorted
  decide

/-- `TableInv` of a table that is checked entry by entry. -/
theorem table_of_entries {s : State} (h : s.path.windows.length = 16) (h0 : (s.entry 0).any commandEntry = true)
    (hw : ∀ i, i < 16 → (s.entry i).all WindowRecord.wf = true)
    (hr : ∀ i, i < 16 → ∀ j, j < 16 → ∀ w ∈ (s.entry i).toList, ∀ v ∈ (s.entry j).toList,
      w.role = v.role → w.role ≠ .pass → i = j)
    (hm : ∀ r ∈ s.command.held, movable r.moves = true) : TableInv s := by
  have bound : ∀ i w, s.entry i = some w → i < 16 := by
    intro i w hi
    by_contra hn
    rw [State.entry, List.getElem?_eq_none (by omega)] at hi
    cases hi
  refine ⟨h, ?_, ?_, ?_, hm⟩
  · cases h1 : s.entry 0 with
    | none => rw [h1] at h0; cases h0
    | some w => exact ⟨w, rfl, by rw [h1] at h0; exact h0⟩
  · intro i w hi
    have := hw i (bound i w hi)
    rw [hi] at this
    exact this
  · intro i j w v hi hj
    exact hr i (bound i w hi) j (bound j v hj) w (by simp [hi]) v (by simp [hj])

theorem witness_StepTakesFront :
    ({ State.reset with pending := [.arbiterIssue] } : State).pending = .arbiterIssue :: [] := rfl
theorem witness_IdleStepAndQueueKept :
    State.reset.pending = [] ∧ ∃ t, exec .frameMarkTimerExpiry fourWindows = .next t := ⟨rfl, _, rfl⟩

def demand : TxFrame := { kind := .demand, bytes := [0xA5, 0x10, 0x00, 0xF0], cancels := 0, live := true }
def degraded : State :=
  { State.reset with
    lens := { State.reset.lens with
      link := .degraded, miss := 7, identity := some identity, position := some (position 40000 100)
      window := some ⟨100, 200⟩ }
    pending := [.replyWindowExpiry] }

/-- A reply window open at the seventh miss, and a live DEMAND being sent with none waiting. -/
theorem witness_StepKeepsLens :
    (LensInv degraded ∧ ∃ t, step degraded = .next t)
      ∧ LensInv { degraded with lens := { degraded.lens with window := none, sending := some demand } } := by
  refine ⟨⟨⟨?_, ?_, by decide, by decide, by decide, ?_, ?_, by decide, by decide⟩, _, rfl⟩,
    ?_, ?_, by decide, by decide, by decide, ?_, ?_, by decide, by decide⟩
  · intro f h; cases h
  · intro f h; cases h
  · intro _; exact ⟨fun f h => (by cases h), fun f h => (by cases h)⟩
  · intro f g h; cases h
  · intro f h; cases h
  · intro f h _; cases h; rfl
  · intro h; cases h
  · intro f g _ _ _ h; cases h

def collecting : State :=
  { State.reset with
    gyro := { State.reset.gyro with state := .running, transaction := true }
    stab := { State.reset.stab with
      x := { StabAxis.reset with acc := 16777215 }, y := { StabAxis.reset with acc := -16777215 }
      capture := some ⟨255, 0, 0, 1⟩ }
    pending := [.sampleEvent (gdiOf .leading sample)] }

def overrun : State :=
  { stalled with pending := [.upstreamWriteAccepted ⟨0x18010000, 2, headerBeats 32768 0 0⟩] }

theorem record_overrun : RecordInv overrun := by unfold RecordInv; decide +kernel

theorem table_overrun : TableInv overrun :=
  table_of_entries (by decide) (by decide) (by decide +kernel) (by decide +kernel) (by decide)

theorem witness_StepKeepsRecord :
    (∃ t, step overrun = .next t) ∧ RecordInv overrun ∧ TableInv overrun ∧ overrun.record.guarded ≤ overrun.ringSize :=
  ⟨⟨_, rfl⟩, record_overrun, table_overrun, by decide +kernel⟩

/-- With a PASS entry below a FRAME entry that holds the address too, the PASS entry decides. -/
theorem witness_ForeignBurstForwarded_decides : decidingWindow 0x10000800 fourWindows.path.windows 0 = some (1, passW) := by
  decide +kernel

def fullQueue (s : State) (n : Nat) : State := { s with path := { s.path with passQueue := (List.range n).map queued } }
def strayWrite : WriteBurst := ⟨0x10100000, 5, List.replicate 16 (full 0)⟩

def straddlingWrite : WriteBurst := ⟨0x13FFFFC0, 1, List.replicate 16 (full 0)⟩
def strayRead : ReadBurst := ⟨0x10000800, 3, 4⟩

/-- A write under FRAME's encoder set at a buffer's first beat, one under its viewfinder set, and a reader's into the ring. -/
def encoderIntoBuffer : WriteBurst := ⟨0x10440000, 2, [full 0]⟩
def viewfinderIntoBuffer : WriteBurst := ⟨0x10440000, 3, [full 0]⟩
def readerIntoReports : WriteBurst := ⟨0x3FE00000, 0, [full 0]⟩

theorem witness_ForeignBurstForwarded_unacted :
    (encoderIntoBuffer.wellFormed = true ∧ viewfinderIntoBuffer.wellFormed = true ∧ readerIntoReports.wellFormed = true)
      ∧ geo.firstBeatOf frameW.base 0x10440000 = some 1
      ∧ (∀ n ∈ [15, 16], (fullQueue fourWindows n).path.passQueue.length = n
        ∧ classify (fullQueue fourWindows n) 0x10440000 1 2 = .belongs ⟨frameW, 1⟩
        ∧ classify (fullQueue fourWindows n) 0x10440000 1 3 = .belongs ⟨frameW, 2⟩
        ∧ classify (fullQueue fourWindows n) 0x3FE00000 1 0 = .belongs ⟨reportW, 0⟩
        ∧ classify (fullQueue fourWindows n) 0x13FFFFC0 16 1 = .straddles 2)
      ∧ classify (fullQueue ringState 15) 0x18010000 4 4 = .belongs ⟨ringW, 1⟩ ∧ ringW.role = .record :=
  ⟨by decide, by decide +kernel, by decide +kernel, by decide +kernel, by decide⟩

/-- Only the sensor set starts a capture: the encoder's write at a buffer's first beat makes no record and no mark (R4, R24). -/
theorem test_encoder_write_no_capture :
    let t := after (exec (.upstreamWriteAccepted encoderIntoBuffer) fourWindows) State.reset
    (t.frame.history.length, t.metadata.mark, t.path.passQueue.length) = (0, 0, 1) := by decide +kernel

/-- The entry that holds the address: a PASS window, one without the tag, a burst that ends at the last byte and one that
reaches past it; a place in the queue and none. -/
theorem witness_ForeignBurstForwarded :
    (∀ n ∈ [15, 16], (fullQueue fourWindows n).path.waiting = [])
      ∧ (decidingWindow 0 fourWindows.path.windows 0 = none
        ∧ decidingWindow 0x10000800 fourWindows.path.windows 0 = some (1, passW) ∧ passW.role = .pass
        ∧ decidingWindow 0x10100000 fourWindows.path.windows 0 = some (2, frameW)
        ∧ frameW.role ≠ .metadata ∧ frameW.role ≠ .pass ∧ frameW.sets = [] ++ (2 : Half) :: [4, 8] ∧ (2 : Half).getLsbD 1 = true
        ∧ frameW.base + frameW.size < 0x13FFFFC0 + 8 * 16 ∧ frameW.base + frameW.size = 0x13FFFF80 + 8 * 16)
      ∧ (strayWrite.wellFormed = true ∧ straddlingWrite.wellFormed = true ∧ strayRead.wellFormed = true
        ∧ (∀ n ∈ [15, 16], classify (fullQueue fourWindows n) strayWrite.addr.toNat strayWrite.beats.length strayWrite.tag
          = .unmatched)
        ∧ classify (fullQueue fourWindows 15) straddlingWrite.addr.toNat straddlingWrite.beats.length straddlingWrite.tag
          = .straddles 2
        ∧ classify (fullQueue fourWindows 15) strayRead.addr.toNat strayRead.len strayRead.tag = .unmatched
        ∧ classify (fullQueue fourWindows 15) 0x13FFFFC0 16 1 = .straddles 2)
      ∧ ((fullQueue fourWindows 15).path.passQueue.length < 16 ∧ 16 ≤ (fullQueue fourWindows 16).path.passQueue.length)
      ∧ ∀ m ∈ frameW.sets, m.getLsbD 5 = false :=
  ⟨by decide +kernel, by decide +kernel, by decide +kernel, by decide +kernel, by simp [frameW]⟩

/-- Sixteen bursts queued and these requests waiting. -/
def backedUp (waiting : List Request) : State :=
  { stalled with path := { stalled.path with passQueue := (List.range 16).map queued, waiting := waiting } }
def cardRequest (tag : BitVec 4) : Request := .read ⟨0x20000000, tag, 1⟩
def guardedWrite : WriteBurst := ⟨0x18010000, 2, headerBeats 32768 0 0⟩

theorem witness_WaitingRequestsAccepted :
    ((⟨0x20000000, 3, 1⟩ : ReadBurst).wellFormed = true ∧ 16 ≤ (backedUp []).path.passQueue.length
        ∧ ∀ before w behind, (backedUp [cardRequest 2, .write guardedWrite]).path.waiting = before ++ .write w :: behind →
          wouldHoldBack w (backedUp []) = true → ∃ r ∈ before, r.tag = w.tag)
      ∧ (let s := backedUp [cardRequest 3];
        s.path.atMemory = none ∧ s.path.passQueue = queued 0 :: (List.range' 1 15).map queued
          ∧ ((List.range' 1 15).map queued).length = 15 ∧ s.path.injected = []
          ∧ (acceptRequest (cardRequest 3) { s with path := { s.path with
            passQueue := (List.range' 1 15).map queued, atMemory := some (.pass (queued 0))
            arbiterCount := min 4 (s.path.arbiterCount + 1), waiting := [] } }).path.passQueue.length = 16)
      ∧ (guardedWrite.wellFormed = true ∧ wouldHoldBack guardedWrite (backedUp []) = true
        ∧ (∀ r ∈ (backedUp [cardRequest 3]).path.waiting, (∃ q, r = .read q) ∧ r.tag ≠ guardedWrite.tag)
        ∧ wouldHoldBack ⟨0x20000000, 2, [full 0]⟩ (backedUp []) = false)
      ∧ (ringState.path.waiting = [] ∧ ringState.path.passQueue.length < 16) :=
  ⟨⟨by decide, by decide, by
      intro before w behind h _
      rcases before with _ | ⟨x, _ | ⟨y, rest⟩⟩
      · simp [backedUp, cardRequest] at h
      · simp only [backedUp, List.cons_append, List.nil_append, List.cons.injEq, Request.write.injEq] at h
        obtain ⟨rfl, rfl, rfl⟩ := h
        exact ⟨_, List.mem_singleton.2 rfl, rfl⟩
      · simp [backedUp] at h⟩,
    by decide +kernel, ⟨by decide, by decide +kernel, by simp [backedUp, cardRequest, Request.tag, guardedWrite], by decide +kernel⟩,
    by decide +kernel⟩

def commandWrite4 : WriteBurst := ⟨0x3FF00020, 0, [full 0x00070044, full 0, full 0, full 0]⟩
def commandsQueued (n : Nat) : State :=
  { fourWindows with command := { queue := List.replicate n (cmd 0x44 []), held := [] } }

def partialWrite : WriteBurst := ⟨0x3FF00020, 0, [full 0x00070044, full 0, full 0, { data := 0, enables := 127 }]⟩
def splitWrite : WriteBurst := ⟨0x3FF00028, 0, [full 0, full 0, full 0]⟩
def emptyWrite : WriteBurst := ⟨0x3FF00020, 0, [full 0x00070000, full 0, full 0, full 0]⟩
/-- Sixteen beats: two that end a position, three whole positions, two that begin one; and two beats across a multiple of 32. -/
def sixteenBeats : WriteBurst :=
  ⟨0x3FF00030, 0, [full 0, full 0] ++ [[full 0x00070044, full 0, full 0, full 0],
    [full 0x00080044, full 0, full 0, { data := 0, enables := 127 }], [full 0x00090044, full 0, full 0, full 0]].flatten
    ++ [full 0, full 0]⟩
def acrossTwo : WriteBurst := ⟨0x3FF00038, 0, [full 0, full 0]⟩

/-- A position whole, with an enable clear, split and of code 0; a queue with one place and with none; and longer bursts. -/
theorem witness_CommandWriteTaken :
    (fourWindows.path.waiting = [] ∧ fourWindows.path.passQueue.length < 16 ∧ commandW.role = .command
      ∧ ∀ b ∈ [commandWrite4, partialWrite, splitWrite, emptyWrite, sixteenBeats, acrossTwo], b.wellFormed = true
        ∧ classify fourWindows b.addr.toNat b.beats.length b.tag = .belongs ⟨commandW, 0⟩)
      ∧ (splitWrite.addr.toNat % 32 + 8 * splitWrite.beats.length ≤ 32 ∧ splitWrite.beats.length < 4)
      ∧ (∀ b ∈ [commandWrite4, partialWrite, emptyWrite], b.beats = [] ++ [b.beats].flatten ++ [] ∧ b.addr.toNat % 32 = 0
        ∧ b.beats.length = 4)
      ∧ (sixteenBeats.beats = [full 0, full 0] ++ [[full 0x00070044, full 0, full 0, full 0],
          [full 0x00080044, full 0, full 0, { data := 0, enables := 127 }], [full 0x00090044, full 0, full 0, full 0]].flatten
          ++ [full 0, full 0]
        ∧ (sixteenBeats.addr.toNat + 8 * [full 0, full 0].length) % 32 = 0 ∧ [full 0, full 0].length < 4)
      ∧ (acrossTwo.beats = [full 0] ++ ([] : List (List Beat)).flatten ++ [full 0]
        ∧ (acrossTwo.addr.toNat + 8 * [full 0].length) % 32 = 0)
      ∧ ((commandsQueued 7).command.queue.length < 8 ∧ 8 ≤ (commandsQueued 8).command.queue.length) := by
  decide +kernel

/-- A burst of two records with one place in the queue: the first is taken and the second lost (R187, R189). -/
theorem test_queue_fills_inside_burst :
    let s := commandsQueued 7
    let b : WriteBurst :=
      ⟨0x3FF00020, 0, [full 0x00070044, full 0, full 0, full 0, full 0x00080044, full 0, full 0, full 0]⟩
    let t := after (exec (.upstreamWriteAccepted b) s) s
    (t.command.queue.length, t.command.queue.getLast?.map fun r => r.tag, (eventEntry t .commandOverflow).count)
      = (8, some 7, 1) := by decide +kernel

def encoderRead : ReadBurst := ⟨0x10634500, 2, 16⟩
def marginRead : ReadBurst := ⟨0x10634E70, 3, 16⟩
def sensorRead : ReadBurst := ⟨0x10100000, 1, 1⟩
def cropped : State :=
  { withWindows [commandW, frameW] with frame := { State.reset.frame with history := [capture 9 1 32 (-1)] } }

/-- Reads inside and beside the output area, and the last beat of a buffer's last output line moved by the whole margin. -/
theorem witness_ReadAcceptedRemapped :
    ((encoderRead.wellFormed = true ∧ cropped.path.waiting = [] ∧ cropped.path.passQueue.length < 16
      ∧ classify cropped encoderRead.addr.toNat encoderRead.len encoderRead.tag = .belongs ⟨frameW, 1⟩
      ∧ frameW.role = .frame ∧ geo.outputBuffer frameW.base encoderRead.addr.toNat encoderRead.len = some 1
      ∧ newestOf 1 cropped.frame.history = some (capture 9 1 32 (-1)))
      ∧ (marginRead.wellFormed = true
        ∧ classify cropped marginRead.addr.toNat marginRead.len marginRead.tag = .belongs ⟨frameW, 2⟩
        ∧ geo.outputBuffer frameW.base marginRead.addr.toNat marginRead.len = none)
      ∧ newestOf 1 State.reset.frame.history = none
      ∧ (sensorRead.wellFormed = true
        ∧ classify cropped sensorRead.addr.toNat sensorRead.len sensorRead.tag = .belongs ⟨frameW, 0⟩))
      ∧ (let r := capture 9 1 64 36
        let a := 0x10000000 + 0x440000 + 1043 * 4096 + 3704
        geo.ok (2 ^ 26) = true ∧ geo.outputBuffer 0x10000000 a 1 = some 1 ∧ r.fits geo ∧ 0 < 1) :=
  ⟨by decide +kernel, by decide +kernel, by decide +kernel, ⟨by decide, by decide, by decide⟩, by decide⟩

def portBusy : State := { State.reset with path := { State.reset.path with atMemory := some (.injected reportWrite) } }
def arbiterAt (pass injected : Bool) (count : Nat) : State :=
  { State.reset with path := { State.reset.path with
    passQueue := if pass then [queued 1] else [], injected := if injected then [reportWrite] else [], arbiterCount := count } }

theorem witness_ArbiterIssues :
    ((arbiterAt true true 3).path.passQueue = queued 1 :: [] ∧ (arbiterAt true true 3).path.arbiterCount < 4)
      ∧ ((arbiterAt true false 4).path.passQueue = queued 1 :: [] ∧ (arbiterAt true false 4).path.injected = [])
      ∧ ((arbiterAt true true 4).path.injected = reportWrite :: [] ∧ 4 ≤ (arbiterAt true true 4).path.arbiterCount)
      ∧ ((arbiterAt false true 0).path.injected = reportWrite :: [] ∧ (arbiterAt false true 0).path.passQueue = [])
      ∧ ((arbiterAt false false 0).path.passQueue = [] ∧ (arbiterAt false false 0).path.injected = []
        ∧ (arbiterAt false false 0).path.waiting = [] ∧ (arbiterAt false false 0).path.atMemory = none)
      ∧ portBusy.path.atMemory.isSome = true := by decide +kernel

def memoryHolds (p : PassBurst) (s : State := State.reset) : State :=
  { s with path := { s.path with atMemory := some (.pass p), responses := [{ id := p.id, tag := p.tag, answer := none }] } }
def writeAtMemory : PassBurst := { queued 5 with body := .write [full 0] }

def injectedHeld (w : InjectedWrite) : State :=
  { State.reset with path := { State.reset.path with atMemory := some (.injected w) } }

theorem witness_MemoryAnswersPassOn :
    ((memoryHolds (queued 5)).path.atMemory = some (.pass (queued 5)) ∧ (queued 5).body = .read 1 none
      ∧ 1 ≤ [(0 : BeatData)].length ∧ (memoryHolds (queued 5)).path.beatsBack.length + [(0 : BeatData)].length = 1
      ∧ (memoryHolds (queued 5)).path.beatsBack = [] ∧ 1 < ([] : List BeatData).length + [(0 : BeatData), 0].length)
      ∧ (let p := { queued 5 with body := .read 16 none };
        let s := { memoryHolds p with path := { (memoryHolds p).path with beatsBack := List.replicate 14 0 } };
        s.path.atMemory = some (.pass p) ∧ p.body = .read 16 none ∧ s.path.beatsBack ≠ []
        ∧ s.path.beatsBack.length + [(0 : BeatData)].length < 16)
      ∧ ((memoryHolds writeAtMemory).path.atMemory = some (.pass writeAtMemory)
        ∧ writeAtMemory.body = .write [full 0])
      ∧ ((injectedHeld reportWrite).path.atMemory = some (.injected reportWrite) ∧ reportWrite.isMemoryFault = false)
      ∧ (let w := { reportWrite with isMemoryFault := true }
        (injectedHeld w).path.atMemory = some (.injected w) ∧ w.isMemoryFault = true) := by decide +kernel

def owed (id : Nat) (tag : BitVec 4) (a : Option Answer) : Response := ⟨id, tag, a⟩

theorem witness_MemoryAnswersPassOn_returned (a : Option Answer) :
    let s : State := { State.reset with path := { State.reset.path with
      responses := [owed 1 3 (some .done), owed 2 7 a, owed 3 7 (some .done)] } }
    s.path.responses = [owed 1 3 (some .done)] ++ owed 2 7 a :: [owed 3 7 (some .done)]
      ∧ (∀ x ∈ [owed 1 3 (some .done)], x.tag ≠ 7) ∧ (owed 2 7 a).tag = 7 :=
  ⟨rfl, by decide, rfl⟩

def headerWrite (off : Nat) : WriteBurst := ⟨BitVec.ofNat 32 (0x18000000 + off), 2, headerBeats 32768 0 0⟩

/-- An episode running at offset 65,536 with the guarded span elsewhere. -/
def episodeRunning : State :=
  { stalled with record := { stalled.record with drain := some 524288, guarded := 128, episode := some 65536 } }
def bodyWrite (off : Nat) : WriteBurst := ⟨BitVec.ofNat 32 (0x18000000 + off), 2, List.replicate 16 (full 0)⟩
def withClips (clips : List Clip) : State := { stalled with record := { stalled.record with clips := clips } }

/-- Writes into the span that carry the marker: one beat, and a header's shape with a length that fails. -/
def markerHeld : WriteBurst := ⟨0x18010000, 2, [full markerWord]⟩
def shortHeld : WriteBurst := ⟨0x18010000, 2, headerBeats 31 0 0⟩

/-- A span that wraps at the ring's end with D at its last byte; a header in the span with an OPEN clip, a CLOSING one that it
is later than and not later than, and neither; a write of no header while an episode runs. -/
theorem witness_GuardedWriteHeldBack :
    ((0 : Nat) < 128 ∧ 1048575 < 1048576 ∧ 1048448 + 128 ≤ 1048576)
      ∧ (stalled.path.waiting = [] ∧ ringW.role = .record
        ∧ ringW.params = .record ⟨BitVec.ofNat 64 markerWord, 48, 16, true, 5⟩
        ∧ ∀ b ∈ [headerWrite 65536, bodyWrite 65664], b.wellFormed = true
          ∧ classify stalled b.addr.toNat b.beats.length b.tag = .belongs ⟨ringW, 0⟩)
      ∧ (stalled.record.episode = none
        ∧ inSpan ringW.size stalled.record.drain stalled.record.guarded ((headerWrite 65536).addr.toNat - ringW.base)
          (8 * (headerWrite 65536).beats.length) = true
        ∧ (recognise ringW.size (BitVec.ofNat 64 markerWord) (headerWrite 65536).addr.toNat
          (headerWrite 65536).beats).isSome = true
        ∧ ∃ c ∈ stalled.record.clips, c.state = .opened)
      ∧ (episodeRunning.record.episode.isSome = true
        ∧ recognise ringW.size (BitVec.ofNat 64 markerWord) (bodyWrite 65664).addr.toNat (bodyWrite 65664).beats = none)
      ∧ (∀ stop ∈ [532, 533], (withClips [⟨7, .closing, some 65536, none, some (BitVec.ofNat 16 stop), none, 31, 0⟩]).record.clips.find?
          (fun x => x.state == .closing) = some ⟨7, .closing, some 65536, none, some (BitVec.ofNat 16 stop), none, 31, 0⟩)
      ∧ (laterThan 533 532 = true ∧ laterThan 533 533 = false)
      ∧ (∀ b ∈ [markerHeld, shortHeld], b.wellFormed = true ∧ wouldHoldBack b stalled = true
        ∧ recognise ringW.size (BitVec.ofNat 64 markerWord) b.addr.toNat b.beats = none
        ∧ ∃ x ∈ b.beats.head?, b.addr.toNat % 32 = 0 ∧ x.enables = 255 ∧ x.data = BitVec.ofNat 64 markerWord)
      ∧ (newestComplete 0 stalled.frame.history).map (fun q => q.seq) = some 533
      ∧ [].find? (fun c : Clip => c.state == .opened) = none
      ∧ ∀ c ∈ (withClips [⟨7, .closed, some 65536, some 98304, none, none, 31, 0⟩]).record.clips,
        c.state ≠ .opened ∧ c.state ≠ .closing := by decide +kernel

def waitingRecord : WaitingMetadata := { mark := 1003, bytes := List.replicate 64 0 }
def metadataState (reports : List Report) : State :=
  { withWindows [commandW, reportW, metadataW] with
    report := { State.reset.report with queue := reports }
    metadata := { cursor := 63, mark := 1003, waiting := some waitingRecord }
    path := { (withWindows [commandW, reportW, metadataW]).path with injected := List.replicate 7 metadataWrite } }
def softwareEvent : Report := .event .software 1 (.raw []) true

def runningPort : State :=
  { State.reset with
    gyro := { State.reset.gyro with
      state := .running, transaction := true, setup := { State.reset.gyro.setup with validMask := 0x80, validValue := 0x80 } }
    stab := { State.reset.stab with x := { StabAxis.reset with bias := -800 } } }

/-- A bad sample: the bytes of `sample` with another check byte. -/
def badSample : GyroBytes := { sample with check := 0x31 }

/-- The port in a state, after runs of bad and good samples, and the axes with these pan states and this capture. -/
def portIn (state : PortState) (bad good : Nat) (pan : PanState) (run : Nat) (c : Option BiasCapture) : State :=
  { runningPort with
    gyro := { runningPort.gyro with state := state, timer := some 216000, badRun := bad, goodRun := good }
    stab := { runningPort.stab with
      x := { runningPort.stab.x with pan := pan, panRun := run, settings := { runningPort.stab.x.settings with panThreshold := 1999 } }
      capture := c } }

/-- The rate 1,200 with bias −800 stands one above the pan threshold 1,999: at a run of 49 it enters PANNING. The bad run
before FAILED, the good run before RUNNING, and the capture before its last sample stand at their last values. -/
theorem witness_SampleEvents :
    (let s := portIn .running 0 0 .steady 0 none;
      s.gyro.timer = some 216000 ∧ s.gyro.state ≠ .unconfigured ∧ s.gyro.transaction = true
        ∧ sampleGood s.gyro.setup sample = true ∧ sampleGood s.gyro.setup badSample = false ∧ s.gyro.badRun < 15)
      ∧ (let t := after (exec (.sampleEvent (gdiOf .leading sample)) (portIn .running 14 0 .steady 48 (some ⟨254, 0, 0, 1⟩))) State.reset;
        (t.stab.x.pan, t.stab.y.pan, t.stab.capture) = (.steady, .steady, some ⟨255, 1200, -6, 1⟩))
      ∧ (let t := after (exec (.sampleEvent (gdiOf .leading badSample)) (portIn .running 14 0 .steady 48 (some ⟨254, 0, 0, 1⟩))) State.reset;
        (t.gyro.state, t.gyro.badRun, t.stab.capture) = (.running, 15, some ⟨254, 0, 0, 1⟩))
      ∧ (let t := after (exec (.sampleEvent (gdiOf .leading sample)) (portIn .running 14 0 .steady 49 (some ⟨254, 0, 0, 1⟩))) State.reset;
        (t.stab.x.pan, t.stab.y.pan, t.stab.capture) = (.panning, .steady, none))
      ∧ (let t := after (exec (.sampleEvent (gdiOf .leading sample)) (portIn .running 14 0 .steady 0 (some ⟨255, 0, 0, 1⟩))) State.reset;
        (t.stab.x.bias, t.stab.capture) = (5, none))
      ∧ (let t := after (exec (.sampleEvent (gdiOf .leading badSample)) (portIn .running 15 0 .steady 0 (some ⟨255, 0, 0, 1⟩))) State.reset;
        (t.gyro.state, t.stab.capture) = (.failed, none))
      ∧ (let t := after (exec (.sampleEvent (gdiOf .leading badSample)) (portIn .failed 0 14 .steady 0 none)) State.reset;
        (t.gyro.state, t.gyro.goodRun) = (.failed, 0))
      ∧ (let t := after (exec (.sampleEvent (gdiOf .leading sample)) (portIn .failed 0 14 .steady 49 none)) State.reset;
        (t.gyro.state, t.gyro.goodRun, t.stab.x.pan) = (.failed, 15, .steady))
      ∧ (let t := after (exec (.sampleEvent (gdiOf .leading sample)) (portIn .failed 0 15 .steady 49 none)) State.reset;
        (t.gyro.state, t.gyro.goodRun, t.stab.x.pan) = (.running, 0, .panning)) := by
  decide +kernel

/-- Both axes enter PANNING during a capture: it ends ABORTED after x's PAN_STATE and before y's (R91, R94, log entry 39). -/
theorem witness_SampleEvents_both :
    let s : State := { portIn .running 0 0 .steady 49 (some ⟨3, 0, 0, 1⟩) with
      path := (withWindows [commandW, reportW]).path
      stab := { (portIn .running 0 0 .steady 49 (some ⟨3, 0, 0, 1⟩)).stab with
        y := { StabAxis.reset with bias := 5000, panRun := 49 } } }
    let t := after (exec (.sampleEvent (gdiOf .leading sample)) s) State.reset
    s.gyro.timer = some 216000 ∧ (s.stab.x.pan, s.stab.y.pan) = (.steady, .steady)
      ∧ (t.stab.x.pan, t.stab.y.pan, t.stab.capture) = (.panning, .panning, none)
      ∧ t.report.queue.map (fun r => r.recordKind) = [.event, .completion, .event] := by decide +kernel

/-- The pins before the first edge, after it, before and after the last of the 112 edges, and at the first and the last bit of
the command byte in each phase; a half clock period at 1,000 kHz is 108 units. -/
theorem witness_SampleEvents_pins :
    let s := fun (phase : ClockPhase) (now : Nat) => { portIn .running 0 0 .steady 0 none with
      now := now
      gyro := { (portIn .running 0 0 .steady 0 none).gyro with setup := { State.reset.gyro.setup with phase := phase } } }
    let gone := fun (phase : ClockPhase) (now halves : Nat) =>
      (216000 - 8 * 27000) * (s phase now).gyro.setup.clockKHz + halves * (8 * 13500)
        ≤ (s phase now).now * (s phase now).gyro.setup.clockKHz
    (∀ phase now, (s phase now).gyro.timer = some 216000 ∧ (s phase now).gyro.transaction = true)
      ∧ gone .leading 0 0 ∧ ¬ gone .leading 107 1 ∧ gone .leading 108 1 ∧ ¬ gone .leading 215 2
      ∧ gone .leading 11988 111 ∧ ¬ gone .leading 12095 112 ∧ gone .leading 12096 112
      ∧ ¬ gone .leading 0 2 ∧ gone .leading 1512 14 ∧ ¬ gone .leading 1512 16 ∧ gone .leading 1728 16
      ∧ gone .trailing 108 1 ∧ ¬ gone .trailing 108 3 ∧ gone .trailing 1620 15 ∧ ¬ gone .trailing 1620 17
      ∧ gone .trailing 1836 17
      ∧ (let r := { State.reset with gyro := { State.reset.gyro with timer := some 0 } }; r.gyro.transaction = false) := by
  refine ⟨fun phase now => ⟨rfl, rfl⟩, ?_⟩
  decide +kernel

def completionReport7 : Report := .completion .done 7 0x44 .none none
def statusReport7 : Report := .status 5 1 1 7 [1]
def reportsQueued (n : Nat) (drop : Option DropReport) (held : List Report) : State :=
  { withWindows [commandW, reportW] with
    report := { State.reset.report with queue := List.replicate n softwareEvent, drop := drop }
    command := { queue := [], held := held } }

/-- One report in the ring's last slot, with a drop report waiting, a report held, and neither. -/
def departing (n : Nat) (drop : Option DropReport) (held : List Report) : State :=
  { metadataState (List.replicate n softwareEvent) with
    report := { State.reset.report with queue := List.replicate n softwareEvent, nextSlot := 127, drop := drop }
    command := { queue := [], held := held } }

/-- A held completion that moves the command window. -/
def movingCompletion : Report := .completion .done 7 1 .none (some { commandW with base := 0x3FD00000 })

/-- The held completion takes the place that the departure opens, and the command window moves with it (R20, R197). -/
theorem test_held_move_joins :
    let t := after (exec .reportLeavesQueue (departing 16 none [movingCompletion])) State.reset
    ((t.entry 0).map fun w => w.base, t.command.held.length, t.report.queue.length) = (some 0x3FD00000, 0, 16) := by
  decide +kernel

theorem witness_InjectedWritesJoin :
    (∀ s ∈ [departing 16 (some ⟨.audioClip, 2, 1⟩) [], departing 16 none [completionReport7],
        departing 16 none [movingCompletion], departing 1 none []],
      s.window .report = some reportW ∧ s.report.queue.head? = some softwareEvent ∧ s.report.queue.tail.length < 16
        ∧ slotState s.report.slots s.report.nextSlot = none ∧ s.path.injected.length < 8 ∧ s.path.waiting = []
        ∧ s.path.injected = [] ++ s.path.injected ∧ (∀ x ∈ s.path.injected, x.kind = .metadata)
        ∧ s.report.nextSlot + 1 ≥ reportW.size / 32)
      ∧ ((departing 16 (some ⟨.audioClip, 2, 1⟩) []).report.drop = some ⟨.audioClip, 2, 1⟩
        ∧ (departing 16 none [completionReport7]).command.held = completionReport7 :: []
        ∧ (departing 16 none [movingCompletion]).command.held
          = .completion .done 7 1 .none (some { commandW with base := 0x3FD00000 }) :: [])
      ∧ ((metadataState []).metadata.waiting = some waitingRecord ∧ (metadataState []).window .metadata = some metadataW
        ∧ (metadataState []).path.injected.length < 8 ∧ reportCanLeave (metadataState []) = false
        ∧ reportCanLeave (metadataState [softwareEvent]) = true) := by decide +kernel

theorem witness_ReportPlaces :
    State.reset.window .report = none
      ∧ (((reportsQueued 15 none []).window .report).isSome = true ∧ (reportsQueued 15 none []).report.queue.length < 16
        ∧ (reportsQueued 15 none []).command.held = [])
      ∧ (16 ≤ (reportsQueued 16 none []).report.queue.length ∧ (reportsQueued 16 none []).report.drop = none
        ∧ (reportsQueued 16 (some ⟨.audioClip, 255, 1⟩) []).report.drop = some ⟨.audioClip, 255, 1⟩)
      ∧ (reportsQueued 0 none [completionReport7]).command.held ≠ []
      ∧ (let s := reportsQueued 15 (some ⟨.audioClip, 2, 1⟩) [];
        s.report.queue.length < 16 ∧ s.path.waiting = [] ∧ s.report.drop = some ⟨.audioClip, 2, 1⟩)
      ∧ (let s := reportsQueued 15 none [completionReport7];
        s.report.drop = none ∧ s.command.held = .completion .done 7 0x44 .none none :: [])
      ∧ ((reportsQueued 15 none [statusReport7]).command.held = statusReport7 :: []
        ∧ (reportsQueued 16 none [statusReport7]).command.held ≠ [])
      ∧ statusReport7 = .status 5 1 1 7 [1] := by decide +kernel

/-- Part 4 of 4 of block 15, with 28 items; an index of 15 on an empty entry and on a held one; 25 events; 8 palette entries. -/
theorem witness_ReportBytes :
    ∃ (block part parts : Nat) (items : List Byte), block ≤ 15 ∧ 1 ≤ part ∧ part ≤ parts ∧ parts ≤ 4 ∧ items.length ≤ 28 :=
  ⟨15, 4, 4, List.replicate 28 0, by decide, by decide, by decide, by decide, by decide⟩

theorem witness_StatusPartsOfSetup :
    (15 ≤ 15 ∧ fourWindows.entry 15 = none ∧ fourWindows.entry 0 = some commandW
      ∧ (withWindows (List.replicate 15 passW ++ [reportW])).entry 15 = some reportW)
      ∧ State.reset.report.events.length = 25 := by decide +kernel

theorem witness_StatusPartsOfSignals : State.reset.overlay.palette.length = 8 := by decide

def hearing (rx : List Byte) (link : LinkState) : State :=
  { State.reset with
    now := 4 * byteTime
    lens := { State.reset.lens with
      link := link, rx := some ⟨byteTime, rx⟩, lineSince := 3 * byteTime, charStart := some (3 * byteTime) } }
def between (rx : List Byte) : State :=
  { hearing rx .online with lens := { (hearing rx .online).lens with charStart := none } }

/-- Every stage of a frame: hunting, TYPE, LEN at 64 and at 65, a payload's last character, a CHECK that does not sum to 0, a bad
character, no character on the line, a gap, a start bit in time, at the end of 2 byte times and too late, one that falls in a
character, on a low line, in a frame of the part's own and after it, and the line's return to high. -/
theorem witness_LensCharactersCollected :
    ((hearing [] .online).lens.charStart = some (3 * byteTime)
      ∧ LineCharBad (good 0xA5) = false ∧ (good 0xA5).data = 0xA5)
      ∧ (let s := { between [] with lens := { (between []).lens with rx := none, charStart := some 0 } };
        s.lens.rx = none ∧ s.lens.charStart = some 0)
      ∧ LineCharBad ⟨0xA5, false, false⟩ = true ∧ (good 0x22).data ≠ 0xA5
      ∧ ((hearing [] .online).lens.rx = some ⟨byteTime, []⟩ ∧ LineCharBad (good 0x22) = false)
      ∧ ((hearing [0x22] .online).lens.rx = some ⟨byteTime, [0x22]⟩ ∧ (good 64).data.toNat ≤ 64 ∧ 64 < (good 65).data.toNat
        ∧ LineCharBad (good 64) = false ∧ LineCharBad (good 65) = false)
      ∧ ((hearing [0x22, 1] .online).lens.rx = some ⟨byteTime, 0x22 :: 1 :: []⟩ ∧ ([] : List Byte).length < (1 : Byte).toNat
        ∧ (1 : Byte).toNat ≤ [(1 : Byte)].length
        ∧ sumBytes ((0x22 : Byte) :: 1 :: [1] ++ [(good 0xDD).data]) ≠ 0)
      ∧ ((between []).lens.sending = none ∧ (between []).lens.charStart = none ∧ (between []).lens.lineLow = false
        ∧ (between []).lens.rx = some ⟨byteTime, []⟩
        ∧ ∀ late ∈ [0, 1], let s := { between [] with now := 5 * byteTime + late };
          (max s.now s.lens.lineSince ≤ s.lens.lineSince + 2 * byteTime ↔ late = 0))
      ∧ (let s := { between [] with lens := { (between []).lens with rx := none, lineLow := true } };
        s.lens.lineLow = true ∧ s.lens.sending = none)
      ∧ (let f : TxFrame := ⟨.demand, [0xA5], 0, true⟩
        let s : State := { State.reset with lens := { State.reset.lens with sending := some f } }
        s.lens.sending = some f ∧ s.now < s.lens.sentAt + f.bytes.length * byteTime
          ∧ (∃ t, exec .lensFrameComplete { s with now := byteTime } = .next t)
          ∧ s.lens.sentAt + f.bytes.length * byteTime ≤ byteTime) := by
  refine ⟨by decide +kernel, by decide +kernel, by decide +kernel, by decide +kernel, by decide +kernel, by decide +kernel,
    by decide +kernel, by decide +kernel, by decide +kernel, rfl, by decide +kernel, ⟨_, rfl⟩, by decide +kernel⟩

/-- A frame whose CHECK character completes it, with the receiver at type `ty` and payload `p`. -/
def arriving (ty : Byte) (p : List Byte) (link : LinkState) : State := hearing (ty :: BitVec.ofNat 8 p.length :: p) link
def checkOf (ty : Byte) (p : List Byte) : LineChar := good (0 - sumBytes (ty :: BitVec.ofNat 8 p.length :: p))

theorem completes_arriving (ty : Byte) (p : List Byte) (link : LinkState) (hp : p.length < 256)
    (hc : LineCharBad (checkOf ty p) = false)
    (hs : sumBytes (ty :: BitVec.ofNat 8 p.length :: p ++ [(checkOf ty p).data]) = 0) :
    Completes (arriving ty p link) byteTime ty p (3 * byteTime) (checkOf ty p) :=
  ⟨BitVec.ofNat 8 p.length, rfl, by simp [Nat.mod_eq_of_lt hp], hc, hs, rfl⟩

def positionBytes18 : List Byte :=
  [0x40, 0x9C, 0, 0, 0, 0, 28, 0, 96, 0, 0xD8, 0xFF, 100, 0, 0, 0, 0, 0]
def identityBytes56 : List Byte :=
  List.replicate 12 0x41 ++ [0, 0, 0xFF, 0xFF, 0, 0, 0xFF, 0xFF, 0, 0, 0xFF, 0xFF] ++ List.replicate 32 0

/-- A frame of each length, an identity whose limits meet, and one whose iris minimum is above its maximum. -/
theorem witness_LensFramesRead :
    positionBytes18.length = 18 ∧ identityBytes56.length = 56
      ∧ (let two := fun k : Nat => (identityBytes56.getD k 0).toNat + 256 * (identityBytes56.getD (k + 1) 0).toNat
        two 12 ≤ two 14 ∧ two 16 ≤ two 18 ∧ two 20 ≤ two 22)
      ∧ (let p := identityBytes56.set 20 1 |>.set 22 0 |>.set 23 0
        (0x20 : Byte) ≠ 0x21 ∧ p.length = 56 ∧ ¬ (p.getD 20 0).toNat + 256 * (p.getD 21 0).toNat
          ≤ (p.getD 22 0).toNat + 256 * (p.getD 23 0).toNat)
      ∧ (([4] : List Byte) ≠ [1] ∧ ([4] : List Byte) ≠ [2] ∧ ([4] : List Byte) ≠ [3]) := by decide +kernel

theorem witness_PositionTaken :
    ∀ link ∈ [LinkState.online, .degraded, .seeking, .absent],
      Completes (arriving positionType positionBytes18 link) byteTime positionType positionBytes18
          (3 * byteTime) (checkOf positionType positionBytes18)
        ∧ (∃ q, classifyFrame positionType positionBytes18 = .position q)
        ∧ (arriving positionType positionBytes18 link).lens.link = link
        ∧ (arriving positionType positionBytes18 link).lens.provisional = none :=
  fun _ _ => ⟨completes_arriving _ _ _ (by decide) (by decide +kernel) (by decide +kernel), ⟨_, rfl⟩, rfl, rfl⟩

/-- A provisional identity whose 2 ms ended one unit before the POSITION starts, still held. -/
def late (link : LinkState) : State :=
  let s := arriving positionType positionBytes18 link
  { s with lens := { s.lens with provisional := some ⟨identity, byteTime - 1⟩ } }

theorem witness_PositionTaken_late :
    ∀ link, Completes (late link) byteTime positionType positionBytes18 (3 * byteTime) (checkOf positionType positionBytes18)
      ∧ (late link).lens.provisional = some ⟨identity, byteTime - 1⟩ ∧ byteTime - 1 < byteTime := fun link => by
  obtain ⟨l, h, rest⟩ := completes_arriving positionType positionBytes18 link (by decide) (by decide +kernel) (by decide +kernel)
  exact ⟨⟨l, h, rest⟩, rfl, by decide⟩

/-- It completes nothing: the POSITION is taken, the identity dropped and none stored (R46, R51). -/
theorem test_late_position :
    let t := after (exec (.positionTaken (checkOf positionType positionBytes18)) (late .online)) State.reset
    (t.lens.identity, t.lens.provisional, t.lens.position.isSome) = (none, none, true) := by decide +kernel

/-- A reply to an identity heard at the end of its 2 ms, with the identity `old` stored before it. -/
def replying (old : Option Identity) (link : LinkState) : State :=
  let s := arriving positionType positionBytes18 link
  { s with lens := { s.lens with identity := old, provisional := some ⟨identity, byteTime⟩ } }

theorem witness_IdentityReplyCompleted :
    (∀ old, ∀ link, Completes (replying old link) byteTime positionType positionBytes18
        (3 * byteTime) (checkOf positionType positionBytes18) ∧ (replying old link).lens.provisional = some ⟨identity, byteTime⟩
        ∧ (replying old link).lens.identity = old ∧ (replying old link).lens.link = link)
      ∧ (∃ q, classifyFrame positionType positionBytes18 = .position q) ∧ byteTime ≤ byteTime
      ∧ ({ identity with zoomMin := 1 } : Identity).zoomMin ≠ identity.zoomMin
      ∧ LinkState.online ≠ .absent ∧ LinkState.degraded ≠ .absent ∧ LinkState.seeking ≠ .absent :=
  ⟨fun old link => ⟨by
      obtain ⟨l, h, rest⟩ := completes_arriving positionType positionBytes18 link (by decide) (by decide +kernel) (by decide +kernel)
      exact ⟨l, h, rest⟩, rfl, rfl, rfl⟩, ⟨_, rfl⟩, by decide, by decide, by decide, by decide, by decide⟩

/-- The frame begins at the end of a window's 2 ms, at the seventh miss, and ends after them (R54, log entry 32). -/
def heldOpen (ty : Byte) (p : List Byte) : State :=
  let s := arriving ty p .degraded
  { s with lens := { s.lens with window := some ⟨0, byteTime⟩, miss := 7 } }

theorem completes_held (ty : Byte) (p : List Byte) (h : Completes (arriving ty p .degraded) byteTime ty p (3 * byteTime) (checkOf ty p)) :
    Completes (heldOpen ty p) byteTime ty p (3 * byteTime) (checkOf ty p) := h

/-- A frame of each kind in ABSENT and outside it, and within a window that it holds open; the record button with no RECORD
window, with the enable off, and with it on, no clip ARMED or OPEN and one. -/
theorem witness_IdentityAndNoticeTaken :
    (∀ link, Completes (arriving identityType identityBytes56 link) byteTime identityType identityBytes56
        (3 * byteTime) (checkOf identityType identityBytes56)
      ∧ Completes (arriving noticeType [1] link) byteTime noticeType [1] (3 * byteTime) (checkOf noticeType [1])
      ∧ Completes (arriving noticeType [3] link) byteTime noticeType [3] (3 * byteTime) (checkOf noticeType [3])
      ∧ Completes (arriving noticeType [4] link) byteTime noticeType [4] (3 * byteTime) (checkOf noticeType [4])
      ∧ (arriving noticeType [1] link).lens.link = link ∧ (arriving noticeType [1] link).path.waiting = [])
    ∧ (Completes (heldOpen noticeType [3]) byteTime noticeType [3] (3 * byteTime) (checkOf noticeType [3])
      ∧ (heldOpen noticeType [3]).lens.window = some ⟨0, byteTime⟩ ∧ byteTime ≤ byteTime
      ∧ byteTime ≤ charTime (3 * byteTime) (heldOpen noticeType [3]) ∧ (heldOpen noticeType [3]).lens.link = .degraded)
    ∧ ((∃ i, classifyFrame identityType identityBytes56 = .identity i)
      ∧ classifyFrame noticeType [1] = .notice .recordButton ∧ classifyFrame noticeType [3] = .notice .extenderChanged
      ∧ classifyFrame noticeType [4] = .discarded)
    ∧ (State.reset.ring = none ∧ ringState.ring = some (1048576, ⟨BitVec.ofNat 64 markerWord, 48, 16, true, 5⟩)
      ∧ (withWindows [commandW, { ringW with params := .record ⟨0, 48, 16, false, 5⟩ }]).ring
        = some (1048576, ⟨0, 48, 16, false, 5⟩))
    ∧ ((∀ c ∈ ringState.record.clips, c.state ≠ .armed ∧ c.state ≠ .opened) ∧ ringState.path.waiting = []
      ∧ (cmd 0x71 (le2 65535)).code = 0x0071 ∧ (cmd 0x71 (le2 65535)).half 4 = 0xFFFF ∧ (cmd 0x72 []).code = 0x0072
      ∧ ∃ c ∈ stalled.record.clips, c.state = .armed ∨ c.state = .opened) := by
  refine ⟨fun link => ⟨completes_arriving _ _ _ (by decide) (by decide +kernel) (by decide +kernel),
      completes_arriving _ _ _ (by decide) (by decide +kernel) (by decide +kernel),
      completes_arriving _ _ _ (by decide) (by decide +kernel) (by decide +kernel),
      completes_arriving _ _ _ (by decide) (by decide +kernel) (by decide +kernel), rfl, rfl⟩,
    ⟨completes_held _ _ (completes_arriving _ _ _ (by decide) (by decide +kernel) (by decide +kernel)), rfl, by decide,
      by decide +kernel, rfl⟩, ⟨?_, by decide, by decide, by decide⟩, ?_, ?_⟩
  · exact (show ∃ i, classifyFrame identityType identityBytes56 = .identity i from ⟨_, by
      rw [classifyFrame, if_neg (by decide), if_pos (by decide +kernel), if_pos (by decide +kernel)]⟩)
  · decide +kernel
  · decide +kernel

/-- The DEMAND that starts on an idle line is read back whole, and a POSITION right behind it answers the cycle (3.2, R54). -/
theorem test_position_behind_demand :
    let s : State := { State.reset with lens := { State.reset.lens with link := .degraded, miss := 7, waiting := some demand } }
    let t := after (exec .lensFrameComplete (after (exec .lensFrameStart s) s)) s
    let u := startBit (heard ((0xA5 :: positionType :: 18 :: positionBytes18).map good) t)
    let v := after (exec (.positionTaken (checkOf positionType positionBytes18)) u) u
    (t.lens.rx, t.lens.readBack, t.lens.window.isSome, v.lens.window, v.lens.link, v.lens.miss)
      = (none, 4, true, none, .online, 0) := by decide +kernel

def transmitter (link : LinkState) (waiting sending : Option TxFrame) : State :=
  { State.reset with lens := { State.reset.lens with link := link, waiting := waiting, sending := sending } }

/-- A frame that waits on an idle line, one with an assembly whose gap is at its end and past it, one behind a character and on
a low line; a frame with no payload just begun; a cancellation in the first released bit, of a live frame, of one with a
newer one behind it, and of a retry; a frame past its last stop bit, and one stopped in a character. -/
theorem witness_TransmitterSends :
    (let s := transmitter .online (some demand) none;
      s.lens.waiting = some demand ∧ s.lens.sending = none ∧ s.lens.rx = none ∧ s.lens.charStart = none
        ∧ s.lens.lineLow = false ∧ max s.now (s.lens.lineSince + 2 * byteTime) = s.lens.lineSince + 2 * byteTime)
      ∧ (let s : State := { between [] with lens := { (between []).lens with waiting := some demand } };
        ∃ u, exec (.lensFrameAbandoned .gap) { s with now := 6 * byteTime } = .next u ∧ s.lens.rx.isSome = true
          ∧ s.lens.lineSince + 2 * byteTime < 6 * byteTime)
      ∧ ((hearing [] .online).lens.charStart.isSome = true)
      ∧ (demand.bytes[0]? = some 0xA5 ∧ (10 : Nat) < 11)
      ∧ (let s := transmitter .online none (some demand);
        s.lens.sending = some demand ∧ ([] : List Byte).length ≤ 64 ∧ (List.replicate 64 (0 : Byte)).length ≤ 64
          ∧ demand.bytes = 0xA5 :: ([0x10, BitVec.ofNat 8 0] : List Byte) ++ [0 - sumBytes [0x10, BitVec.ofNat 8 0]]
          ∧ s.lens.rx = none ∧ s.lens.readBack = 0 ∧ s.lens.window = none ∧ s.lens.provisional = none)
      ∧ (let s := transmitter .degraded none (some demand);
        s.lens.sending = some demand ∧ (s.now - s.lens.sentAt) / bitTime ≤ 1 ∧ demand.bits[1]? = some true
          ∧ (∀ k, (s.now - s.lens.sentAt) / bitTime ≤ k → k < 1 → demand.bits[k]? = some false)
          ∧ 1 / 11 ≤ s.lens.readBack ∧ demand.live = true ∧ s.lens.waiting = none ∧ demand.cancels = 0)
      ∧ ((transmitter .seeking (some demand) (some demand)).lens.waiting.isSome = true)
      ∧ (let f := { demand with cancels := 1 }
        let s := transmitter .online none (some f)
        s.lens.sending = some f ∧ f.bits[1]? = some true ∧ 1 ≤ f.cancels)
      ∧ (∀ at_ ∈ [byteTime + 1, 2 * byteTime, 4 * byteTime],
        let s := transmitter .online none (some demand)
        let t := { s with now := at_, lens := { s.lens with readBack := at_ / byteTime } }
        AllRead t ∧ (t.lens.sentAt + demand.bytes.length * byteTime ≤ t.now ↔ at_ = 4 * byteTime)) := by
  refine ⟨by decide +kernel, ⟨_, rfl, by decide, by decide⟩, by decide, by decide, by decide +kernel,
    ⟨by decide, by decide, by decide +kernel, ?_, by decide, by decide, by decide, by decide⟩, by decide, by decide +kernel, ?_⟩
  · intro k _ hk
    have : k = 0 := by omega
    subst this
    decide +kernel
  · unfold AllRead; decide +kernel

def windowOpen : State :=
  { State.reset with lens := { State.reset.lens with link := .online, window := some ⟨100, 200⟩ } }
def provisional : State :=
  { State.reset with lens := { State.reset.lens with link := .online, provisional := some ⟨identity, 500⟩ } }

/-- With no start in time; with a frame and with a character on the line that started at the window's ends and at the end of the
2 ms; with an IDENTITY reply's frame at its TYPE; and with a frame of the part's own being read back. -/
theorem witness_LensTimersExpire :
    (windowOpen.lens.rx = none ∧ windowOpen.lens.window = some ⟨100, 200⟩ ∧ windowOpen.lens.link = .online)
      ∧ (degraded.lens.rx = none ∧ degraded.lens.charStart = none ∧ degraded.lens.window = some ⟨100, 200⟩
        ∧ degraded.lens.link = .degraded
        ∧ 7 ≤ degraded.lens.miss ∧ ({ degraded with lens := { degraded.lens with miss := 6 } } : State).lens.miss < 7)
      ∧ (∀ start ∈ [100, 200], let s := { windowOpen with lens := { windowOpen.lens with rx := some ⟨start, []⟩ } };
        ∃ n, s.lens.rx.map (fun a => a.start) = some n ∧ 100 ≤ n ∧ n ≤ 200)
      ∧ (∀ start ∈ [100, 200], let s := { windowOpen with lens := { windowOpen.lens with charStart := some start } };
        s.lens.rx = none ∧ s.lens.sending = none ∧ ∃ n, s.lens.charStart = some n ∧ 100 ≤ n ∧ n ≤ 200)
      ∧ (provisional.lens.rx = none ∧ provisional.lens.charStart = none ∧ AllRead provisional
        ∧ provisional.lens.provisional = some ⟨identity, 500⟩)
      ∧ (let s := { provisional with lens := { provisional.lens with rx := some ⟨500, [0x20]⟩ } };
        AllRead s ∧ s.lens.rx = some ⟨500, [0x20]⟩ ∧ [(0x20 : Byte)].head? = some 0x20)
      ∧ (let s := { provisional with lens := { provisional.lens with charStart := some 500 } };
        AllRead s ∧ s.lens.rx = none ∧ s.lens.charStart = some 500)
      ∧ ((State.atPinReset 0 true).lens.link = .seeking ∧ (State.atPinReset 0 true).lens.seek = some 0) := by
  unfold AllRead
  refine ⟨by decide +kernel, by decide +kernel, ?_, ?_, by decide +kernel, by decide +kernel, by decide +kernel, by decide +kernel⟩
  · intro start h s
    refine ⟨start, rfl, ?_⟩
    revert h
    revert start
    decide
  · intro start h s
    refine ⟨rfl, rfl, start, rfl, ?_⟩
    revert h
    revert start
    decide

/-! #### Frame marks. Every state has both marks; a substitute mark and a capture mark are witnesses of each kind. -/

theorem mark_made (s : State) : MarkMade s (captureStart geo 0 s) := .inr ⟨geo, 0, rfl⟩
theorem mark_made_substitute : ∃ t, MarkMade fourWindows t := ⟨_, .inl rfl⟩

theorem no_cycle_open : NoCycleOpen { degraded with lens := { degraded.lens with window := none } } :=
  ⟨rfl, fun _ h => (by cases h), fun _ h => (by cases h)⟩

/-- Between cycles, with the window of the last cycle open at the seventh miss and at the sixth, ONLINE, and in SEEKING. -/
theorem witness_LensAtMark :
    (∀ s, MarkMade s (captureStart geo 0 s))
      ∧ ({ degraded with lens := { degraded.lens with window := none } } : State).lens.link.up = true
      ∧ NoCycleOpen { degraded with lens := { degraded.lens with window := none } }
      ∧ (LensInv degraded ∧ ¬ NoCycleOpen degraded ∧ degraded.lens.link = .degraded ∧ 7 ≤ degraded.lens.miss)
      ∧ (windowOpen.lens.link = .online ∧ windowOpen.lens.link.up = true ∧ ¬ NoCycleOpen windowOpen)
      ∧ (State.atPinReset 0 true).lens.link.up = false :=
  ⟨mark_made, rfl, no_cycle_open, ⟨witness_StepKeepsLens.1.1, fun h => (by cases h.1), rfl, by decide⟩,
    ⟨rfl, rfl, fun h => (by cases h.1)⟩, rfl⟩

/-- Either mark of any state, and a mark that finds a cycle open. -/
theorem witness_MarkRaises :
    (∀ s, ∃ t, exec .frameMarkTimerExpiry s = .next t) ∧ (∀ s, ∃ t, captureStart geo 2 s = t)
      ∧ (windowOpen.lens.link.up = true ∧ ¬ NoCycleOpen windowOpen) :=
  ⟨fun _ => ⟨_, rfl⟩, fun _ => ⟨_, rfl⟩, rfl, fun h => (by cases h.1)⟩

/-- ENGINE 1 drives zoom and ENGINE 2 focus, the rocker one past the deadband and the wheel one past the threshold. -/
def takenOver : State :=
  { State.reset with
    lens := { State.reset.lens with link := .online, position := some { position 31200 100 with rocker := -9, wheel := 257 } }
    axis := { State.reset.axis with
      zoom := ⟨.engine .e1, 31200, 0⟩, focus := ⟨.engine .e2, 20000, 0⟩, wheelRef := some 0 } }

theorem witness_AxesAtMark :
    let t := captureStart geo 0 takenOver
    MarkMade takenOver t ∧ t.lens.link.up = true ∧ takenOver.axis.zoomTakeover = true ∧ takenOver.axis.focusTakeover = true
      ∧ takenOver.axis.deadband < (-9 : Int).natAbs ∧ takenOver.axis.wheelThreshold < (257 - 0) + (0 - 257)
      ∧ takenOver.axis.zoom.source = .engine .e1 ∧ takenOver.axis.focus.source = .engine .e2
      ∧ takenOver.report.events.length = 25 := by
  intro t
  refine ⟨mark_made _, ?_⟩
  decide +kernel

/-- Both engines preempted: ENGINE_PREEMPTED counts two, as R71 has it for each axis taken over. -/
theorem test_preempted_twice :
    ((captureStart geo 0 takenOver).report.events.getD 11 ⟨false, true, 0⟩).count = 2 := by decide +kernel

/-- Each engine one count before its move ends, a STEP engine among them, and a RUN queue that passes a SIGNAL and a MARK. -/
def advancing : State :=
  { State.reset with engines :=
    ⟨{ Engine.reset with
        state := .ramping, move := some (.ramp 0 40000 100 .eased 99), queue := [.signal 6, .mark 7, .ramp 5 2 .linear] },
      { Engine.reset with mode := .step, state := .dwelling, move := some (.dwell 3 2) },
      { Engine.reset with state := .waiting, move := some (.wait 3), received := 3 }⟩ }

/-- Engine 1 is taken over, its WAIT untested; engine 2 goes on and sends its SIGNAL to both others. -/
def takenAmongOthers : State :=
  { takenOver with
    axis := { takenOver.axis with focus := ⟨.direct, 0, 0⟩ }
    engines :=
      ⟨{ Engine.reset with state := .waiting, move := some (.wait 4), received := 4 },
        { Engine.reset with state := .dwelling, move := some (.dwell 1 0), queue := [.signal 5] },
        { Engine.reset with state := .waiting, move := some (.wait 1) }⟩ }

/-- The eighth miss at the mark: engine 1 drives ZOOM, engine 2 drives no axis. -/
def losing : State :=
  { State.reset with
    lens := { State.reset.lens with link := .degraded, miss := 7, window := some ⟨0, 100⟩ }
    axis := { State.reset.axis with zoom := ⟨.engine .e1, 0, 0⟩ }
    engines :=
      ⟨{ Engine.reset with state := .dwelling, move := some (.dwell 9 3), queue := [.mark 1] },
        { Engine.reset with state := .dwelling, move := some (.dwell 9 3) }, Engine.reset⟩ }

theorem witness_EnginesAtMark_stopped :
    (let t := captureStart geo 0 takenAmongOthers;
      MarkMade takenAmongOthers t ∧ takenAmongOthers.axis.zoom.source = .engine .e1 ∧ t.axis.zoom.source = .rocker
        ∧ (t.engines.e1.state, t.engines.e1.move, t.engines.e1.received) = (.held, none, 6)
        ∧ (t.engines.e2.state, t.engines.e3.received) = (.idle, 2))
      ∧ (let t := captureStart geo 0 losing;
        MarkMade losing t ∧ losing.lens.link.up = true ∧ t.lens.link.up = false
          ∧ (t.engines.e1.state, t.engines.e1.move) = (.held, some (.dwell 9 3))
          ∧ (t.engines.e2.state, t.engines.e2.move) = (.dwelling, some (.dwell 9 4))) :=
  ⟨⟨mark_made _, by decide +kernel, by decide +kernel, by decide +kernel, by decide +kernel⟩,
    ⟨mark_made _, by decide +kernel, by decide +kernel, by decide +kernel, by decide +kernel⟩⟩

theorem witness_EnginesAtMark :
    let t := captureStart geo 0 advancing
    MarkMade advancing t ∧ (∀ a, (t.axis.get a).source = (advancing.axis.get a).source)
      ∧ advancing.lens.link.up = false ∧ 100 ≤ 99 + 1 ∧ 3 ≤ 2 + 1
      ∧ advancing.report.events.length = 25 := by
  intro t
  refine ⟨mark_made _, fun a => by cases a <;> decide +kernel, by decide, by decide, by decide, by decide⟩

theorem witness_StabiliserAtMark :
    (∃ t, exec .frameMarkTimerExpiry fourWindows = .next t)
      ∧ (captureStart geo 0 (chain .online)).stab.limited = false
      ∧ ((captureStart { geo with marginX := 4 } 0 (chain .seeking)).stab.limited = true ∧ (chain .seeking).stab.limited = false
        ∧ (chain .seeking).report.events.length = 25) :=
  ⟨⟨_, rfl⟩, by decide +kernel, by decide +kernel⟩

/-- The cadence check in WAITING without a sample and with one, and in RUNNING with a drift one past the tolerance. -/
theorem witness_AudioPeriodCloses :
    (∀ s, MarkMade s (captureStart geo 0 s)) ∧ meterTable[31]? = some 8388607 ∧ (∃ l, meterTable[0]? = some l)
      ∧ (State.reset.audio.cadence = .waiting ∧ State.reset.audio.count = 0)
      ∧ (let s := { State.reset with audio := { State.reset.audio with count := 1 } };
        s.audio.cadence = .waiting ∧ 0 < s.audio.count)
      ∧ (let s := { State.reset with audio := { State.reset.audio with cadence := .running, count := 1969 } };
        s.audio.cadence = .running ∧ s.report.events.length = 25 ∧ s.audio.driftFlag = false
          ∧ s.audio.tolerance < (s.audio.drift + 1969 - 1920 : Int).natAbs) :=
  ⟨mark_made, by decide +kernel, ⟨_, by rfl⟩, by decide, by decide, by decide⟩

def driving : State :=
  { handOver with pending := [.frameMarkTimerExpiry] }

theorem witness_StepKeepsStabAndDrives :
    (AxisInv driving ∧ EngineInv driving ∧ ∃ t, step driving = .next t) ∧ StabInv collecting ∧ ∃ t, step collecting = .next t := by
  refine ⟨⟨⟨?_, ?_, by decide +kernel, by decide +kernel, by decide +kernel⟩,
    ⟨by unfold Engine.wf; decide +kernel, by unfold Engine.wf; decide +kernel, by unfold Engine.wf; decide +kernel⟩, _, rfl⟩,
    ⟨by decide, by decide, fun c h => by cases h; decide⟩, _, rfl⟩
  · intro id; cases id <;> decide +kernel
  · intro id; cases id <;> decide +kernel

def sixteen : State :=
  { withWindows [commandW, frameW] with
    frame := { State.reset.frame with
      history := (List.range 16).map fun k => capture (65530 + k) 0 64 (-36)
      nextSeq := 10, rate := .r5994, dropFrame := true, timecode := ⟨0, 10, 59, 59⟩ }
    pending := [.frameMarkTimerExpiry] }

theorem witness_QuietInterval :
    (NextIs (holding (cmd 0x12 [])) (cmd 0x12 []) ∧ (cmd 0x12 []).code = 0x0012)
      ∧ (let s : State := { State.reset with report := { State.reset.report with quietEnd := some 9 } };
        s.report.quietEnd = some 9 ∧ s.window .report = none)
      ∧ (let s : State := { reportsQueued 15 none [] with
          report := { (reportsQueued 15 none []).report with quietEnd := some 9 } };
        s.report.quietEnd.isSome = true ∧ (s.window .report).isSome = true ∧ s.report.queue.length < 16)
      ∧ (NextIs (holding (cmd 0x15 [7])) (cmd 0x15 [7]) ∧ (cmd 0x15 [7]).code = 0x0015 ∧ (cmd 0x15 [7]).byte 4 = 7) :=
  ⟨⟨nextIs_holding _ _, by decide⟩, by decide, by decide +kernel, nextIs_holding _ _, by decide, by decide⟩

def captureWrite : WriteBurst := ⟨0x10880000, 1, List.replicate 16 (full 0)⟩

/-- The sensor write that covers the last image beat of buffer 2, and one that does not. -/
def lastBeatWrite : WriteBurst := ⟨0x10880000 + 1079 * 4096 + 3832, 1, [full 0]⟩
def midWrite : WriteBurst := ⟨0x10890000, 1, [full 0]⟩

/-- `sixteen` with the tracker in this state, and with a REPORT window, `n` reports in the queue, and this history. -/
def tracked (tracker : TrackerState) (n : Nat) (history : List CaptureRecord) : State :=
  let s := withWindows [commandW, frameW, reportW] sixteen
  { s with
    frame := { s.frame with tracker := tracker, history := history }
    report := { s.report with queue := List.replicate n softwareEvent } }
def filling : CaptureRecord := { capture 9 2 0 0 with state := .filling }

/-- LOCKED and FREE-WHEEL, with one place in the report queue. -/
theorem witness_SubstituteMarkMade :
    (tracked .freeWheel 15 []).frame.tracker = .freeWheel ∧ (tracked .locked 15 []).frame.tracker = .locked
      ∧ (tracked .locked 15 []).report.events.length = 25 ∧ ((tracked .locked 15 []).window .report).isSome = true
      ∧ (tracked .locked 15 []).report.queue.length < 16 := by decide +kernel

/-- The last buffer, with the history full; with a FILLING record in it, and a write that completes the record; LOCKED, and
FREE-WHEEL with one place in the report queue, or two behind a FILLING record. -/
theorem witness_CaptureStartRecorded :
    (∀ s ∈ [sixteen, tracked .locked 16 [], tracked .freeWheel 15 [capture 8 0 0 0], tracked .freeWheel 14 [capture 8 0 0 0, filling]],
      ∀ b ∈ [captureWrite, lastBeatWrite, midWrite], b.wellFormed = true
        ∧ classify s b.addr.toNat b.beats.length b.tag = .belongs ⟨frameW, 0⟩ ∧ s.path.waiting = []
        ∧ s.path.passQueue.length < 16 ∧ s.report.events.length = 25)
      ∧ (frameW.role = .frame ∧ frameW.params = .frame geo ∧ 4 ∣ geo.marginX)
      ∧ (geo.firstBeatOf frameW.base captureWrite.addr.toNat = some 2 ∧ ∃ x ∈ [filling], x.state = .filling)
      ∧ ((tracked .locked 16 []).frame.tracker = .locked ∧ (tracked .freeWheel 15 []).frame.tracker = .freeWheel
        ∧ ((tracked .freeWheel 15 []).window .report).isSome = true
        ∧ (∀ x ∈ (tracked .freeWheel 15 [capture 8 0 0 0]).frame.history, x.state ≠ .filling)
        ∧ (tracked .freeWheel 15 [capture 8 0 0 0]).report.queue.length < 16
        ∧ (tracked .freeWheel 14 [capture 8 0 0 0, filling]).frame.history = [capture 8 0 0 0] ++ filling :: []
        ∧ (∀ y ∈ [capture 8 0 0 0], y.state ≠ .filling) ∧ filling.state = .filling
        ∧ (tracked .freeWheel 14 [capture 8 0 0 0, filling]).report.queue.length < 15)
      ∧ (geo.firstBeatOf frameW.base lastBeatWrite.addr.toNat = none
        ∧ geo.firstBeatOf frameW.base midWrite.addr.toNat = none) := by decide +kernel

/-- A METADATA window with `n` injected writes in the queue and this record waiting. -/
def atMark (n : Nat) (waiting : Option WaitingMetadata) : State :=
  { withWindows [commandW, metadataW, frameW] with
    metadata := { cursor := 63, mark := 65535, waiting := waiting }
    path := { (withWindows [commandW, metadataW, frameW]).path with injected := List.replicate n metadataWrite } }

/-- Both marks, with no METADATA window and with one: the last slot, a place in the injected-write queue, a record waiting,
and a full queue. -/
theorem witness_MetadataAtMark :
    (∀ s : State, ∃ t, exec .frameMarkTimerExpiry s = .next t ∧ (none : Option CaptureRecord) = none)
      ∧ (let t := captureStart geo 2 (atMark 7 none)
        ∃ g b, captureStart g b (atMark 7 none) = t ∧ t.frame.history.getLast?.isSome = true)
      ∧ (State.reset.window .metadata = none ∧ (atMark 7 none).window .metadata = some metadataW)
      ∧ ((atMark 7 none).metadata.waiting = none ∧ (atMark 7 none).path.injected.length < 8)
      ∧ (atMark 7 (some waitingRecord)).metadata.waiting.isSome = true ∧ 8 ≤ (atMark 8 none).path.injected.length :=
  ⟨fun _ => ⟨_, rfl, rfl⟩, ⟨geo, 2, rfl, by decide +kernel⟩, by decide +kernel, by decide +kernel, by decide +kernel,
    by decide +kernel⟩

/-- 11.4's places: at the capture mark 0 of a window's last slot, mark 0, kind 1, LOCKED, sequence 10 and buffer 2. -/
theorem test_metadata_bytes :
    let t := captureStart geo 2 { atMark 0 none with frame := sixteen.frame }
    (t.path.injected.map fun w => (w.addr, w.bytes.take 8), t.metadata.cursor)
      = ([(0x20000FC0, [0, 0, 1, 1, 10, 0, 2, 1])], 0) := by decide +kernel

/-! #### Commands. Every record stands alone in the queue of `holding` (`nextIs_holding`). -/

def setPass (index exponent mask : Nat) (base : Nat := 0x20000000) : CommandRecord :=
  cmd 1 ([index, 7, 1, exponent] ++ le4 base ++ le2 mask)
def setCommand (index enabled : Nat) : CommandRecord := cmd 1 ([index, 1, enabled, 16] ++ le4 0x3FF20000 ++ le2 1)

/-- SET WINDOW of this record on entry `i`, with these parameter bytes from byte 18 on. -/
def setEntry (i : Nat) (w : WindowRecord) (params : List Nat) : CommandRecord :=
  cmd 1 ([i, w.role.code, if w.enabled then 1 else 0, w.sizeExp] ++ le4 w.base
    ++ ((w.sets ++ [0, 0, 0]).take 3).flatMap (fun m => le2 (BitVec.toNat m)) ++ params)
def frameParams : List Nat := [3, 36] ++ le2 1920 ++ le2 1080 ++ le2 4096 ++ le2 64 ++ le4 0x440000
def ringParams : List Nat := [1, 2, 3, 4, 5, 6, 7, 8, 48, 16, 1, 5]

/-- A table with every role but AUDIO, in the entries 0 to 5. -/
def sixWindows : State :=
  withWindows [commandW, passW, frameW, reportW, metadataW, ringW]

/-- Each role placed where it stood, and REPORT disabled: the checks pass and the parameters are read. -/
theorem witness_WindowSet_roles :
    (∀ p ∈ [(2, frameW, frameParams), (3, reportW, []), (3, { reportW with enabled := false }, []), (4, metadataW, []),
        (5, ringW, ringParams), (5, passW, []), (6, passW, [])],
      let r := setEntry p.1 p.2.1 p.2.2
      let s := holding r sixWindows
      r.code = 1 ∧ r.byte 4 = p.1 ∧ p.1 ≠ 0 ∧ s.path.waiting = [] ∧ Role.ofCode (r.byte 5) = some p.2.1.role ∧ r.byte 6 ≤ 1
        ∧ windowParams p.2.1.role (2 ^ r.byte 7) r = some p.2.1.params ∧ masksOk p.2.1.role (windowMasks r) = true
        ∧ masksShare (windowMasks r) = false ∧ 12 ≤ r.byte 7 ∧ r.byte 7 ≤ 30 ∧ r.word 8 % 2 ^ r.byte 7 = 0
        ∧ s.record.clips = [] ∧ (p.2.1.role = .pass ∨ ∀ j ∈ List.range 16, j = p.1 ∨ ∀ w ∈ s.entry j, w.role ≠ p.2.1.role))
      ∧ (∃ old, sixWindows.entry 5 = some old ∧ old.role = .record)
      ∧ (let t := { sixWindows with path := { sixWindows.path with
          windows := sixWindows.path.windows.set 3 (some { reportW with enabled := false }) } }
        t.window .report = none)
      ∧ (sixWindows.window .report).isSome = true :=
  ⟨by decide +kernel, ⟨ringW, by decide +kernel, rfl⟩, by decide +kernel, by decide +kernel⟩

/-- A ring setup at the top of R151's ranges, one above them, and each role without parameters. -/
theorem witness_WindowRecordRead :
    (let r := setEntry 5 ringW [1, 2, 3, 4, 5, 6, 7, 8, 63, 62, 1, 240];
      (1 ≤ r.byte 26 ∧ r.byte 26 ≤ 63) ∧ (1 ≤ r.byte 27 ∧ r.byte 27 < r.byte 26) ∧ r.byte 28 ≤ 1 ∧ r.byte 29 ≤ 240)
      ∧ 1048576 ≤ 2 ^ 20
      ∧ (¬ (setEntry 5 ringW [1, 2, 3, 4, 5, 6, 7, 8, 64, 62, 1, 240]).byte 26 ≤ 63)
      ∧ ∀ role ∈ [Role.command, .report, .metadata, .pass],
        role = .command ∨ role = .report ∨ role = .metadata ∨ role = .pass := by decide +kernel

theorem witness_WindowSet :
    (∀ r s, NextIs (holding r s) r)
      ∧ (∀ r ∈ [setPass 15 30 0 0x40000000, setCommand 0 1], r.code = 1 ∧ (holding r).path.waiting = [])
      ∧ (Role.ofCode ((cmd 1 [1, 0]).byte 5) = none ∧ Role.ofCode ((cmd 1 [1, 8]).byte 5) = none
        ∧ 1 < (cmd 1 [1, 7, 2]).byte 6)
      ∧ 15 < (setPass 16 12 0).byte 4
      ∧ ((setCommand 0 0).byte 4 = 0 ∧ (setCommand 0 0).byte 6 = 0)
      ∧ (∃ j w, j ≠ (setCommand 1 1).byte 4 ∧ State.reset.entry j = some w ∧ w.role = .command)
      ∧ ((setPass 1 11 0).byte 7 < 12 ∧ 30 < (setPass 1 31 0).byte 7
        ∧ (setPass 1 13 0 0x20001000).word 8 % 2 ^ (setPass 1 13 0 0x20001000).byte 7 ≠ 0)
      ∧ masksOk .pass (windowMasks (setPass 1 12 1)) = false
      ∧ (holdsRecord (stalled.entry 1) = true ∧ stalled.record.clips ≠ [])
      ∧ (windowParams .pass (2 ^ 30) (setPass 15 30 0 0x40000000) = some .absent
        ∧ masksOk .pass (windowMasks (setPass 15 30 0 0x40000000)) = true
        ∧ masksShare (windowMasks (setPass 15 30 0 0x40000000)) = false
        ∧ holdsRecord (State.reset.entry 15) = false)
      ∧ (windowParams .command (2 ^ 16) (setCommand 0 1) = some .absent
        ∧ masksOk .command (windowMasks (setCommand 0 1)) = true ∧ masksShare (windowMasks (setCommand 0 1)) = false
        ∧ (setCommand 0 1).word 8 % 2 ^ 16 = 0) :=
  ⟨nextIs_holding, by decide +kernel, by decide +kernel, by decide +kernel, by decide +kernel,
    ⟨0, commandW, by decide +kernel, by decide +kernel, rfl⟩, by decide +kernel, by decide +kernel, by decide +kernel,
    by decide +kernel, by decide +kernel⟩

theorem witness_WindowCleared :
    (∀ r s, NextIs (holding r s) r) ∧ (∀ i, (cmd 2 [i]).code = 2) ∧ (∀ r, (holding r sixWindows).path.waiting = [])
      ∧ 15 < (cmd 2 [16]).byte 4 ∧ (cmd 2 [0]).byte 4 = 0
      ∧ (holdsRecord (stalled.entry ((cmd 2 [1]).byte 4)) = true ∧ stalled.record.clips ≠ [])
      ∧ (sixWindows.entry ((cmd 2 [15]).byte 4) = none ∧ (cmd 2 [15]).byte 4 ≤ 15)
      ∧ (∀ p ∈ [(1, passW), (2, frameW), (3, reportW), (4, metadataW), (5, ringW)],
        sixWindows.entry ((cmd 2 [p.1]).byte 4) = some p.2)
      ∧ sixWindows.record.clips = []
      ∧ (let t := { sixWindows with path := { sixWindows.path with windows := sixWindows.path.windows.set 3 none } }
        t.window .report = none) :=
  ⟨nextIs_holding, fun _ => rfl, fun _ => rfl, by decide +kernel, by decide +kernel, by decide +kernel, by decide +kernel,
    by decide +kernel, by decide +kernel, by decide +kernel⟩

theorem witness_EventMaskReplaced :
    let r := cmd 0x10 (le4 0x01FFFFFF)
    NextIs (holding r) r ∧ r.code = 0x0010 := ⟨nextIs_holding _ _, by decide⟩

theorem witness_ReportUnitCommands_acknowledged :
    (∀ r s, NextIs (holding r s) r) ∧ (∀ k c, (cmd 0x11 [k, c]).code = 0x0011)
      ∧ ((cmd 0x11 [0, 0]).byte 4 = 0 ∧ 25 < (cmd 0x11 [26, 0]).byte 4)
      ∧ (EventKind.commandOverflow.number = (cmd 0x11 [1, 0]).byte 4
        ∧ (cmd 0x11 [1, 0]).byte 5 = (eventEntry racing .commandOverflow).count.toNat)
      ∧ (EventKind.software.number = (cmd 0x11 [25, 1]).byte 4
        ∧ (cmd 0x11 [25, 1]).byte 5 ≠ (eventEntry racing .software).count.toNat)
      ∧ (EventKind.ringLevel.number = ack11.byte 4 ∧ (EventPayload.ringLevel .low 0).kind = .ringLevel
        ∧ (holding ack11 racing).report.events.length = 25
        ∧ ack11.byte 5 = (eventEntry (holding ack11 racing) .ringLevel).count.toNat) :=
  ⟨nextIs_holding, fun _ _ => rfl, by decide +kernel, by decide +kernel, by decide +kernel, by decide +kernel⟩

theorem witness_ReportUnitCommands :
    (∀ r s, NextIs (holding r s) r) ∧ (cmd 0x12 []).code = 0x0012 ∧ (cmd 0x13 []).code = 0x0013
      ∧ (cmd 0x14 []).code = 0x0014
      ∧ ((cmd 0x13 [0]).byte 4 = 0 ∧ 25 < (cmd 0x13 [26]).byte 4
        ∧ EventKind.commandOverflow.number = (cmd 0x13 [1]).byte 4 ∧ EventKind.software.number = (cmd 0x13 [25]).byte 4)
      ∧ (State.reset.window .report = none ∧ ((reportsQueued 15 none []).window .report).isSome = true
        ∧ (reportsQueued 15 none []).report.queue.length < 16 ∧ 16 ≤ (reportsQueued 16 none []).report.queue.length)
      ∧ ((cmd 0x14 [0]).byte 4 = 0 ∧ 12 < (cmd 0x14 [13]).byte 4
        ∧ (cmd 0x14 [1, 16]).byte 4 = 1 ∧ 15 < (cmd 0x14 [1, 16]).byte 5)
      ∧ ((cmd 0x14 [1, 15]).byte 4 = 1 ∧ (cmd 0x14 [1, 15]).byte 5 ≤ 15 ∧ (cmd 0x14 [12]).byte 4 = 12)
      ∧ (∀ c ∈ [0x0000, 0x0003, 0xFFFF], (cmd c []).code.toNat ∉ commandCodes) :=
  ⟨nextIs_holding, rfl, rfl, rfl, by decide +kernel, by decide +kernel, by decide +kernel, by decide +kernel,
    by decide +kernel⟩

theorem witness_ResetJobs :
    (∀ r s, NextIs (holding r s) r)
      ∧ (∀ n ∈ [1, 2, 3], (cmd 0x15 [n]).code = 0x0015 ∧ (cmd 0x15 [n]).byte 4 = n)
      ∧ (cmd 0x15 [0]).byte 4 = 0 ∧ 8 < (cmd 0x15 [9]).byte 4 :=
  ⟨nextIs_holding, by decide +kernel, by decide +kernel, by decide +kernel⟩

theorem witness_ResetJobs_rest :
    (∀ r s, NextIs (holding r s) r)
      ∧ (∀ n ∈ [4, 5, 6, 7, 8], (cmd 0x15 [n]).code = 0x0015 ∧ (cmd 0x15 [n]).byte 4 = n) :=
  ⟨nextIs_holding, by decide +kernel⟩

theorem witness_FrameTrackerCommands :
    (∀ r s, NextIs (holding r s) r)
      ∧ ((cmd 0x20 [0]).code = 0x0020 ∧ FrameRate.ofCode ((cmd 0x20 [0]).byte 4) = none
        ∧ FrameRate.ofCode ((cmd 0x20 [9]).byte 4) = none ∧ FrameRate.ofCode ((cmd 0x20 [1]).byte 4) = some .r23976
        ∧ FrameRate.ofCode ((cmd 0x20 [8]).byte 4) = some .r60)
      ∧ ((cmd 0x21 [0, 0, 0, 0, 2]).code = 0x0021 ∧ 1 < (cmd 0x21 [0, 0, 0, 0, 2]).byte 8
        ∧ (cmd 0x21 [24, 60, 60, 60, 1]).byte 8 ≤ 1)
      ∧ ((cmd 0x22 [0]).code = 0x0022 ∧ TimecodeMode.ofCode ((cmd 0x22 [0]).byte 4) = none
        ∧ TimecodeMode.ofCode ((cmd 0x22 [3]).byte 4) = none ∧ TimecodeMode.ofCode ((cmd 0x22 [1]).byte 4) = some .freeRun
        ∧ TimecodeMode.ofCode ((cmd 0x22 [2]).byte 4) = some .recRun)
      ∧ (∀ m ∈ [1, 59], ¬ 10 ∣ m) ∧ 10 ∣ 10 ∧ 1 < 2 ∧ ¬ 2 < 2 ∧ 59 + 1 ≥ 60 :=
  ⟨nextIs_holding, by decide +kernel, by decide +kernel, by decide +kernel, by decide +kernel⟩

theorem witness_LensAndAxisCommands :
    (∀ r s, NextIs (holding r s) r)
      ∧ (∀ n ∈ [0, 1, 2, 3, 4], (cmd 0x28 [n]).code = 0x0028 ∧ (cmd 0x28 [n]).byte 4 = n)
      ∧ State.reset.lens.link = .absent ∧ (State.atPinReset 0 true).lens.link = .seeking
      ∧ windowOpen.lens.link.up = true ∧ degraded.lens.link.up = true :=
  ⟨nextIs_holding, by decide +kernel, by decide +kernel, by decide +kernel, by decide +kernel, by decide +kernel⟩

theorem witness_LensAndAxisCommands_axes :
    (∀ r s, NextIs (holding r s) r)
      ∧ ((cmd 0x30 [0, 7]).code = 0x0030 ∧ Axis.ofCode ((cmd 0x30 [0, 7]).byte 4) = none
        ∧ Axis.ofCode ((cmd 0x30 [4, 7]).byte 4) = none ∧ Source.ofCode ((cmd 0x30 [1, 0]).byte 5) = none
        ∧ Source.ofCode ((cmd 0x30 [1, 8]).byte 5) = none
        ∧ ((cmd 0x30 [2, 1]).byte 5 = 1 ∧ (cmd 0x30 [2, 1]).byte 4 ≠ 1)
        ∧ ((cmd 0x30 [3, 2]).byte 5 = 2 ∧ (cmd 0x30 [3, 2]).byte 4 ≠ 2))
      ∧ (Axis.ofCode ((cmd 0x30 [1, 1]).byte 4) = some .zoom ∧ Source.ofCode ((cmd 0x30 [1, 1]).byte 5) = some .rocker
        ∧ (State.reset.axis.get .zoom).source = .rocker)
      ∧ (Axis.ofCode ((cmd 0x30 [3, 5]).byte 4) = some .iris
        ∧ Source.ofCode ((cmd 0x30 [3, 5]).byte 5) = some (.engine .e3) ∧ (State.reset.axis.get .iris).source ≠ .engine .e3)
      ∧ ((cmd 0x31 [0]).code = 0x0031 ∧ Axis.ofCode ((cmd 0x31 [4]).byte 4) = none
        ∧ Axis.ofCode ((cmd 0x31 ([3, 0, 0, 0] ++ le4 65536)).byte 4) = some .iris)
      ∧ (cmd 0x32 []).code = 0x0032
      ∧ ((cmd 0x33 []).code = 0x0033 ∧ 1 < (cmd 0x33 [2, 0]).byte 4 ∧ 1 < (cmd 0x33 [0, 2]).byte 5
        ∧ (cmd 0x33 [1, 1]).byte 4 ≤ 1 ∧ (cmd 0x33 [1, 1]).byte 5 ≤ 1) :=
  ⟨nextIs_holding, by decide +kernel, by decide +kernel, by decide +kernel, by decide +kernel, rfl, by decide +kernel⟩

def append (engine kind set frames shape target : Nat) : CommandRecord :=
  cmd 0x38 ([engine, kind, set, 0] ++ le4 target ++ le2 frames ++ [shape])
def movesQueued (n : Nat) : State :=
  { State.reset with engines := { State.reset.engines with e3 := { Engine.reset with queue := List.replicate n (.dwell 1) } } }

theorem witness_EngineCommands :
    (∀ r s, NextIs (holding r s) r) ∧ (append 0 5 0 0 0 0).code = 0x0038
      ∧ ((append 0 5 0 0 0 0).byte 4 = 0 ∧ 3 < (append 4 5 0 0 0 0).byte 4 ∧ (append 1 0 0 0 0 0).byte 5 = 0
        ∧ 5 < (append 1 6 0 0 0 0).byte 5
        ∧ ((append 1 1 0 1 3 0).byte 5 = 1 ∧ (append 1 1 0 1 3 0).byte 14 ≠ 1 ∧ (append 1 1 0 1 3 0).byte 14 ≠ 2)
        ∧ ((append 3 4 8 0 0 0).byte 5 = 4 ∧ 8 ≤ (append 3 4 8 0 0 0).byte 6)
        ∧ ((append 3 3 4 0 0 0).byte 5 = 3 ∧ ((append 3 3 4 0 0 0).byte 6).testBit ((append 3 3 4 0 0 0).byte 4 - 1) = true))
      ∧ (EngineId.e3.number = (append 3 1 0 4097 2 65536).byte 4 ∧ (append 3 1 0 4097 2 65536).byte 5 = 1
        ∧ Shape.ofCode ((append 3 1 0 4097 2 65536).byte 14) = some .eased
        ∧ (append 3 2 0 0 0 0).byte 5 = 2 ∧ (append 3 5 0 0 0 65535).byte 5 = 5)
      ∧ (∀ kind ∈ [3, 4], (append 3 kind 3 0 0 0).byte 5 = kind ∧ (append 3 kind 3 0 0 0).byte 6 ≠ 0
        ∧ (append 3 kind 3 0 0 0).byte 6 < 8
        ∧ ((append 3 kind 3 0 0 0).byte 6).testBit ((append 3 kind 3 0 0 0).byte 4 - 1) = false)
      ∧ (16 ≤ ((movesQueued 16).engines.get .e3).queue.length ∧ ((movesQueued 15).engines.get .e3).queue.length < 16)
      ∧ ((cmd 0x39 [3]).code = 0x0039 ∧ EngineId.e3.number = (cmd 0x39 [3]).byte 4 ∧ (cmd 0x39 [0]).byte 4 = 0
        ∧ 3 < (cmd 0x39 [4]).byte 4)
      ∧ ((cmd 0x3A [1, 3]).code = 0x003A ∧ (cmd 0x3A [1, 3]).byte 5 = 3 ∧ EngineId.e1.number = (cmd 0x3A [1, 3]).byte 4
        ∧ 3 < (cmd 0x3A [4, 3]).byte 4) :=
  ⟨nextIs_holding, rfl, by decide +kernel, by decide +kernel, by decide +kernel, by decide +kernel, by decide +kernel,
    by decide +kernel⟩

def engineWith (state : EngineState) (move : Option InProgress) (queue : List Move) : State :=
  { State.reset with engines := { State.reset.engines with
    e1 := { Engine.reset with state := state, move := move, queue := queue } } }

theorem witness_EngineCommands_starts :
    (∀ r s, NextIs (holding r s) r) ∧ (∀ e m, (cmd 0x3A [e, m]).code = 0x003A)
      ∧ ((cmd 0x3A [1, 0]).byte 5 = 0 ∧ 3 < (cmd 0x3A [1, 4]).byte 5 ∧ (cmd 0x3A [0, 1]).byte 5 = 1
        ∧ (cmd 0x3A [0, 1]).byte 4 = 0 ∧ 3 < (cmd 0x3A [4, 2]).byte 4)
      ∧ (EngineId.e1.number = (cmd 0x3A [1, 1]).byte 4 ∧ (cmd 0x3A [1, 1]).byte 5 = 1 ∧ (cmd 0x3A [1, 2]).byte 5 = 2)
      ∧ ((engineWith .dwelling (some (.dwell 3 1)) []).engines.get .e1).state.running = true
      ∧ (((engineWith .held (some (.dwell 3 1)) []).engines.get .e1).state.running = false
        ∧ ((engineWith .held (some (.dwell 3 1)) []).engines.get .e1).move = some (.dwell 3 1))
      ∧ (∀ q ∈ [[], [Move.dwell 4096], [Move.wait 6], [Move.mark 65535]],
        ((engineWith .idle none q).engines.get .e1).state.running = false
          ∧ ((engineWith .idle none q).engines.get .e1).move = none
          ∧ ((engineWith .idle none q).engines.get .e1).queue = q) :=
  ⟨nextIs_holding, fun _ _ => rfl, by decide +kernel, by decide +kernel, by decide +kernel, by decide +kernel,
    by decide +kernel⟩

def gyroCommand (polarity phase rate : Nat) : CommandRecord := cmd 0x40 (le2 10001 ++ [polarity, phase] ++ le2 rate)
def stabCommand (x y optical : Nat) : CommandRecord :=
  cmd 0x41 ([0, 0, x] ++ List.replicate 8 0 ++ [0, 0, y] ++ List.replicate 10 0 ++ [optical])

theorem witness_StabiliserCommands :
    (∀ r s, NextIs (holding r s) r) ∧ (gyroCommand 1 1 1000).code = 0x0040 ∧ (stabCommand 1 1 0).code = 0x0041
      ∧ (ClockPolarity.ofCode ((gyroCommand 0 1 1000).byte 6) = none
        ∧ ClockPolarity.ofCode ((gyroCommand 3 1 1000).byte 6) = none ∧ ClockPhase.ofCode ((gyroCommand 1 3 1000).byte 7) = none
        ∧ (gyroCommand 1 1 1500).half 8 ≠ 1000 ∧ (gyroCommand 1 1 1500).half 8 ≠ 2000)
      ∧ (ClockPolarity.ofCode ((gyroCommand 2 2 2000).byte 6) = some .idleHigh
        ∧ ClockPhase.ofCode ((gyroCommand 2 2 2000).byte 7) = some .trailing ∧ (gyroCommand 2 2 2000).half 8 = 2000)
      ∧ (((stabCommand 2 1 0).byte 6 ≠ 1 ∧ (stabCommand 2 1 0).byte 6 ≠ 255)
        ∧ ((stabCommand 1 0 0).byte 17 ≠ 1 ∧ (stabCommand 1 0 0).byte 17 ≠ 255) ∧ 1 < (stabCommand 1 1 2).byte 28)
      ∧ ((stabCommand 1 255 1).byte 6 = 1 ∧ (stabCommand 1 255 1).byte 17 = 255 ∧ (stabCommand 1 255 1).byte 28 ≤ 1) :=
  ⟨nextIs_holding, rfl, rfl, by decide +kernel, by decide +kernel, by decide +kernel, by decide +kernel⟩

theorem witness_StabiliserCommands_modes :
    (∀ r s, NextIs (holding r s) r) ∧ (∀ m, (cmd 0x42 [m]).code = 0x0042) ∧ (cmd 0x43 []).code = 0x0043
      ∧ (cmd 0x44 []).code = 0x0044
      ∧ (StabMode.ofCode ((cmd 0x42 [0]).byte 4) = none ∧ StabMode.ofCode ((cmd 0x42 [4]).byte 4) = none
        ∧ StabMode.ofCode ((cmd 0x42 [1]).byte 4) = some .off ∧ StabMode.ofCode ((cmd 0x42 [3]).byte 4) = some .hybrid)
      ∧ collecting.stab.capture.isSome = true
      ∧ (State.reset.stab.capture = none ∧ State.reset.gyro.state ≠ .running)
      ∧ (runningPort.stab.capture = none ∧ runningPort.gyro.state = .running ∧ runningPort.stab.x.pan = .steady
        ∧ runningPort.stab.y.pan = .steady) :=
  ⟨nextIs_holding, fun _ => rfl, rfl, rfl, by decide +kernel, by decide +kernel, by decide +kernel, by decide +kernel⟩

def tallyCommand (palette visibility : Nat) : CommandRecord :=
  cmd 0x51 ([5 + 16 * palette, visibility, 0, 0] ++ le2 4096 ++ le2 0 ++ le2 0 ++ le2 4097)
def editing (n : Nat) : State :=
  { State.reset with overlay := { State.reset.overlay with s1 := ⟨.edit, List.replicate n (tally 0)⟩ } }

def zebraCommand (mode low high : Nat) : CommandRecord := cmd 0x54 ([mode, 0] ++ le2 256 ++ le2 low ++ le2 high)

/-- A TEXT element of STATIC text, its length and code. -/
def textCommand (detail scale length code : Nat) : CommandRecord :=
  cmd 0x51 ([3, 1, detail + 16 * scale, length] ++ le2 0 ++ le2 0 ++ le2 1 ++ le2 1 ++ List.replicate 16 code)

theorem witness_OverlayAndAudioCommands :
    ((∀ r s, NextIs (holding r s) r) ∧ (cmd 0x50 []).code = 0x0050 ∧ (cmd 0x52 []).code = 0x0052
      ∧ (tallyCommand 7 8).code = 0x0051 ∧ (∀ i, (cmd 0x53 [i]).code = 0x0053) ∧ (zebraCommand 1 0 0).code = 0x0054)
      ∧ (7 < (tallyCommand 8 1).byte 4 / 16 ∧ (tallyCommand 0 0).byte 5 % 16 = 0 ∧ 8 < (tallyCommand 0 9).byte 5 % 16
        ∧ 1 < (tallyCommand 0 33).byte 5 / 16)
      ∧ (2 < (textCommand 1 3 16 65).byte 6 / 16 ∧ 16 < (textCommand 1 1 17 65).byte 7
        ∧ ∃ c ∈ (textCommand 1 1 16 128).bytes 16 16, 127 < c.toNat)
      ∧ (elementOf (tallyCommand 8 1) = none ∧ elementOf (tallyCommand 0 0) = none ∧ elementOf (tallyCommand 0 9) = none
        ∧ elementOf (textCommand 7 1 0 65) = none)
      ∧ ((elementOf (tallyCommand 7 8)).isSome = true ∧ (elementOf (tallyCommand 0 1)).isSome = true
        ∧ (elementOf (textCommand 1 2 16 127)).isSome = true ∧ (elementOf (textCommand 6 1 17 0)).isSome = true)
      ∧ (32 ≤ ((editing 32).overlay.listIn .edit).length ∧ ((editing 31).overlay.listIn .edit).length < 32)
      ∧ (7 < (cmd 0x53 [8]).byte 4 ∧ (cmd 0x53 [7]).byte 4 ≤ 7)
      ∧ (ZebraMode.ofCode ((zebraCommand 0 0 0).byte 4) = none ∧ ZebraMode.ofCode ((zebraCommand 4 0 0).byte 4) = none)
      ∧ ((zebraCommand 3 201 200).byte 4 = 3
        ∧ min 255 ((zebraCommand 3 201 200).half 10) < min 255 ((zebraCommand 3 201 200).half 8))
      ∧ (ZebraMode.ofCode ((zebraCommand 3 300 256).byte 4) = some .band
        ∧ min 255 ((zebraCommand 3 300 256).half 8) ≤ min 255 ((zebraCommand 3 300 256).half 10)) :=
  ⟨⟨nextIs_holding, rfl, rfl, rfl, fun _ => rfl, rfl⟩, by decide +kernel, by decide +kernel, by decide +kernel, by decide +kernel,
    by decide +kernel, by decide +kernel, by decide +kernel, by decide +kernel, by decide +kernel⟩

def routeCommand (out source gain limiter : Nat) : CommandRecord := cmd 0x60 ([out, source] ++ le2 gain ++ [limiter])

theorem witness_OverlayAndAudioCommands_audio :
    (∀ r s, NextIs (holding r s) r) ∧ (routeCommand 1 1 0 0).code = 0x0060 ∧ (cmd 0x61 []).code = 0x0061
      ∧ (cmd 0x62 []).code = 0x0062 ∧ (cmd 0x63 []).code = 0x0063
      ∧ ((routeCommand 0 1 0 0).byte 4 = 0 ∧ 4 < (routeCommand 5 1 0 0).byte 4 ∧ (routeCommand 1 0 0 0).byte 5 = 0
        ∧ 4 < (routeCommand 1 5 0 0).byte 5 ∧ 1 < (routeCommand 1 1 0 2).byte 8)
      ∧ (Channel.number .c4 = (routeCommand 4 1 32768 1).byte 4 ∧ Channel.number .c1 = (routeCommand 4 1 32768 1).byte 5
        ∧ (routeCommand 4 1 32768 1).byte 8 ≤ 1 ∧ (routeCommand 4 1 32768 1).signedHalf 6 = -32768
        ∧ (routeCommand 4 1 49 1).signedHalf 6 = 49 ∧ (routeCommand 4 1 65439 1).signedHalf 6 = -97) :=
  ⟨nextIs_holding, rfl, rfl, rfl, rfl, by decide +kernel, by decide +kernel⟩

def recordSetupCommand (h t button : Nat) : CommandRecord :=
  cmd 0x70 ([1, 2, 3, 4, 5, 6, 7, 8] ++ [h, t, button, 241])
def clipState (clips : List Clip) (index : List IndexEntry := []) (mode : TimecodeMode := .freeRun) : State :=
  { ringState with
    frame := { State.reset.frame with mode := mode, history := [capture 109 0 0 0], nextSeq := 110 }
    record := { State.reset.record with clips := clips, index := index, writeEnd := some 327680 } }
def closedClip : Clip := ⟨1, .closed, some 0, some 32768, some 99, none, 1, 0⟩
def closingClip : Clip := ⟨2, .closing, some 0, none, some 100, none, 1, 0⟩
def openClip : Clip := ⟨3, .opened, some 0, none, none, none, 1, 0⟩
def armedClip : Clip := ⟨4, .armed, none, none, none, none, 0, 0⟩

theorem witness_RecordCommands :
    (∀ r s, NextIs (holding r s) r) ∧ (∀ r clips, (holding r (clipState clips)).path.waiting = [])
      ∧ (recordSetupCommand 1 0 0).code = 0x0070 ∧ (cmd 0x71 (le2 65535)).code = 0x0071 ∧ (cmd 0x72 []).code = 0x0072
      ∧ (cmd 0x73 []).code = 0x0073
      ∧ (State.reset.window .record = none ∧ State.reset.ring = none)
      ∧ ((ringState.window .record).isSome = true ∧ 1 < (recordSetupCommand 2 1 2).byte 14
        ∧ max 1 (min 63 ((recordSetupCommand 1 0 0).byte 12)) ≤ max 1 (min 63 ((recordSetupCommand 1 0 0).byte 13)))
      ∧ (roleWindow .record ringState.path.windows 0 = some (1, ringW) ∧ (recordSetupCommand 64 62 1).byte 14 ≤ 1
        ∧ max 1 (min 63 ((recordSetupCommand 64 62 1).byte 13)) < max 1 (min 63 ((recordSetupCommand 64 62 1).byte 12)))
      ∧ (∃ c ∈ (clipState [armedClip]).record.clips, c.state = .armed ∨ c.state = .opened)
      ∧ ((clipState (List.replicate 4 closedClip)).ring.isSome = true
        ∧ (∀ c ∈ (clipState (List.replicate 4 closedClip)).record.clips, c.state ≠ .armed ∧ c.state ≠ .opened)
        ∧ 4 ≤ (clipState (List.replicate 4 closedClip)).record.clips.length)
      ∧ ((clipState [closedClip, closedClip, closingClip]).record.clips.length < 4
        ∧ (clipState [closedClip, closedClip, closingClip]).record.clips.find? (fun c => c.state == .closing) = some closingClip)
      ∧ ((∀ c ∈ (clipState [closedClip]).record.clips, c.state ≠ .armed ∧ c.state ≠ .opened ∧ c.state ≠ .closing)
        ∧ (clipState [] [] .recRun).frame.mode = .recRun
        ∧ startEntry (min 240 240) (clipState [closedClip]).record.index = none
        ∧ startEntry (min 240 5) (clipState [] [⟨0, some 109, true, false⟩]).record.index = some ⟨0, some 109, true, false⟩)
      ∧ ((clipState [closedClip, openClip]).record.clips.find? (fun c => c.state == .opened) = some openClip
        ∧ (clipState [armedClip]).record.clips.find? (fun c => c.state == .opened) = none
        ∧ (clipState [armedClip]).record.clips.find? (fun c => c.state == .armed) = some armedClip
        ∧ (∀ c ∈ (clipState [closingClip]).record.clips, c.state ≠ .armed ∧ c.state ≠ .opened))
      ∧ ((∀ c, (clipState [closingClip]).record.clips.head? = some c → c.state ≠ .closed)
        ∧ (clipState [closedClip, openClip]).record.clips = closedClip :: [openClip] ∧ closedClip.state = .closed) :=
  ⟨nextIs_holding, fun _ _ => rfl, rfl, rfl, rfl, rfl, by decide +kernel, by decide +kernel, by decide +kernel,
    by decide +kernel, by decide +kernel, by decide +kernel, by decide +kernel, by decide +kernel,
    by intro c h; cases h; decide, rfl, rfl⟩

/-! #### Invariants and data paths -/

theorem table_sixteen : TableInv sixteen :=
  table_of_entries (by decide) (by decide) (by decide +kernel) (by decide +kernel) (by decide)

theorem witness_StepKeepsTableAndFrames :
    TableInv sixteen ∧ CropInv sixteen ∧ HistoryInv sixteen ∧ TimecodeInv sixteen ∧ ∃ t, step sixteen = .next t := by
  refine ⟨table_sixteen, ⟨table_sixteen, ?_⟩, by unfold HistoryInv; decide +kernel,
    by unfold TimecodeInv Timecode.valid; decide +kernel, _, rfl⟩
  intro base g h
  have hg : sixteen.geometry = some (0x10000000, geo) := by decide +kernel
  rw [hg] at h
  cases h
  unfold CaptureRecord.fits
  decide +kernel

def attending : State :=
  { racing with
    path := { State.reset.path with passQueue := (List.range 16).map queued, injected := [reportWrite, metadataWrite] }
    report := { racing.report with slots := [(3, .written), (7, .queued)] }
    pending := [.arbiterIssue] }

theorem witness_StepKeepsReports : AttnInv attending ∧ QueueInv attending ∧ ∃ t, step attending = .next t :=
  ⟨by unfold AttnInv; decide +kernel,
    ⟨by decide, by decide, by decide, by decide, by decide, by decide, by decide, by unfold slotsSorted; decide, by decide,
      fun w h => (by cases h), by decide, by decide⟩, _, rfl⟩

def picture : State :=
  { editing 32 with
    audio := { State.reset.audio with
      outputs := ⟨{ limited 12 with r := 0, peak := 8388607, displayed := 31, held := 32 }, .reset .c2, .reset .c3, .reset .c4⟩
      phase := 4, drift := -32768 }
    pending := [.frameMarkTimerExpiry] }

theorem witness_StepKeepsPictureAndSound : OverlayInv picture ∧ AudioInv picture ∧ ∃ t, step picture = .next t :=
  ⟨by unfold OverlayInv; decide +kernel, by unfold AudioInv AudioOutput.wf; decide +kernel, _, rfl⟩

/-- A marker beat at the start of a write that is no header, one behind another beat, and a header whose coded length fails. -/
def markerFirst : WriteBurst := ⟨0x18000000, 2, [full markerWord]⟩
def shortHeader : WriteBurst := ⟨0x18000000, 2, headerBeats 31 0 0⟩
def markerFifth : WriteBurst := ⟨0x18000000, 2, [full 0, full 0, full 0, full 0, full markerWord]⟩

/-- These clips, D and the newest COMPLETE capture's sequence, with the write end at 65,536 and the span up to it. -/
def headerState (clips : List Clip) (drain : Option Nat) (seq : Nat) : State :=
  { ringState with
    frame := { State.reset.frame with history := [capture seq 0 0 0], nextSeq := BitVec.ofNat 16 (seq + 1) }
    record := { State.reset.record with
      writeEnd := some 65536, drain := drain, guarded := if drain.isSome then 65536 else 0, clips := clips } }

/-- With no clip, with an OPEN one, and with D at the end of a CLOSED oldest one: a write of no header, one of each shape that
fails, with marker beats and without; and headers whose coded length is the least and the greatest. -/
theorem witness_EncoderWriteForwarded :
    (∀ s ∈ [ringState, headerState [openClip] (some 0) 100, headerState [{ closedClip with stop := some 0 }] (some 0) 100],
      s.path.waiting = [] ∧ s.path.passQueue.length < 16 ∧ s.record.episode = none
      ∧ ∀ b ∈ [bodyWrite 65536, ⟨0x18010000, 2, [full markerWord]⟩, ⟨0x18010000, 2, headerBeats 31 0 0⟩,
          ⟨0x18010000, 2, [full 0, full 0, full 0, full 0, full markerWord]⟩],
        b.wellFormed = true ∧ classify s b.addr.toNat b.beats.length b.tag = .belongs ⟨ringW, 0⟩
        ∧ inSpan ringW.size s.record.drain s.record.guarded (b.addr.toNat - ringW.base) (8 * b.beats.length) = false)
      ∧ (ringW.role = .record ∧ ringW.params = .record ⟨BitVec.ofNat 64 markerWord, 48, 16, true, 5⟩)
      ∧ (headerState [{ closedClip with stop := some 0 }] (some 0) 100).record.clips.head?.map (fun c => (c.state, c.stop))
        = some (.closed, some 0)
      ∧ (markerBeat (BitVec.ofNat 64 markerWord) (bodyWrite 0).addr.toNat (bodyWrite 0).beats = none
        ∧ headerShaped (BitVec.ofNat 64 markerWord) (bodyWrite 0).addr.toNat (bodyWrite 0).beats = false)
      ∧ (∀ b ∈ [markerFirst, shortHeader, markerFifth],
        recognise ringW.size (BitVec.ofNat 64 markerWord) b.addr.toNat b.beats = none)
      ∧ (markerFifth.beats[4]? = some (full markerWord) ∧ (markerFifth.addr.toNat + 8 * 4) % 32 = 0
        ∧ (full markerWord).enables = 255 ∧ (full 0).data ≠ BitVec.ofNat 64 markerWord
        ∧ shortHeader.beats.length = 4 ∧ markerFirst.beats.length ≠ 4)
      ∧ (∀ n ∈ [32, 524288], let b := headerBeats n 0 0
        b.length = 4 ∧ (∀ x ∈ b, x.enables = 255) ∧ b.head?.map (fun x => x.data) = some (BitVec.ofNat 64 markerWord)
          ∧ field (burstBytes b) 8 4 = n ∧ n ≤ ringW.size / 2) := by
  decide +kernel

/-- The clip's number, whether it is its first header, and the write end, D and G after the header at 131,072 (or 65,536). -/
def headerAt : WriteBurst := ⟨0x18010000, 2, headerBeats 32768 0 1⟩
def opensNot : WriteBurst := ⟨0x18010000, 2, headerBeats 32768 0 0⟩

theorem drainless_inv (clips : List Clip) (seq : Nat) (h : clips.length ≤ 4) (hw : clips.all Clip.wf = true)
    (hp : clips.Pairwise fun a b => clipBefore a b = true) (hn : ∀ c ∈ clips, c.start = none) :
    RecordInv (headerState clips none seq) :=
  ⟨h, hw, hp, ⟨fun h => (by cases h), fun ⟨c, hc, hs⟩ => (by rw [hn c hc] at hs; cases hs)⟩, fun _ => rfl, Nat.zero_le _⟩

/-- An OPEN clip behind a CLOSED one, with an episode and without; a CLOSING clip with a chained ARMED one, at its stop sequence
and past it, by a header that opens a clip and by one that does not; an ARMED clip alone, and none. -/
theorem witness_HeaderOpensAndCloses :
    (∀ s ∈ [headerState [closedClip, openClip] (some 0) 100,
        headerState [closingClip, { armedClip with chainSeq := some 100 }] (some 0) 100,
        headerState [closingClip, { armedClip with chainSeq := some 100 }] (some 0) 101, headerState [armedClip] none 101,
        headerState [] none 101],
      s.path.waiting = [] ∧ s.path.passQueue.length < 16 ∧ s.window .record = some ringW
        ∧ ∀ b ∈ [headerAt, opensNot], classify s b.addr.toNat b.beats.length b.tag = .belongs ⟨ringW, 0⟩ ∧ b.wellFormed = true
          ∧ (recognise ringW.size (BitVec.ofNat 64 markerWord) b.addr.toNat b.beats).isSome = true
          ∧ inSpan ringW.size s.record.drain s.record.guarded (b.addr.toNat - ringW.base) (8 * b.beats.length) = false)
      ∧ (RecordInv (headerState [closedClip, openClip] (some 0) 100)
        ∧ RecordInv (headerState [closingClip, { armedClip with chainSeq := some 100 }] (some 0) 101)
        ∧ RecordInv (headerState [armedClip] none 101) ∧ RecordInv (headerState [] none 101))
      ∧ ((recognise ringW.size (BitVec.ofNat 64 markerWord) headerAt.addr.toNat headerAt.beats).map (fun h => h.randomAccess)
          = some true
        ∧ (recognise ringW.size (BitVec.ofNat 64 markerWord) opensNot.addr.toNat opensNot.beats).map (fun h => h.randomAccess)
          = some false)
      ∧ (laterThan 100 100 = false ∧ laterThan 101 100 = true) :=
  ⟨by decide +kernel, ⟨by unfold RecordInv; decide +kernel, by unfold RecordInv; decide +kernel,
      drainless_inv _ _ (by decide) (by decide +kernel) (by simp) (by decide),
      drainless_inv _ _ (by decide) (by decide) (by simp) (by simp)⟩, by decide +kernel, by decide⟩

/-- R163, R165: a header later than both sequences closes the CLOSING clip at its offset and opens the chained ARMED one. -/
theorem test_header_closes_and_opens :
    let s := headerState [closingClip, { armedClip with chainSeq := some 100 }] (some 0) 101
    let t := after (exec (.upstreamWriteAccepted headerAt) s) s
    t.record.clips.map (fun c => (c.state, c.start, c.stop, c.stamped))
      = [(.closed, some 0, some 65536, 1), (.opened, some 65536, none, 1)] := by decide +kernel

/-- An index whose newest sequence 65,535 wraps, D absent with and without a write end, the oldest clip alone and before
another, and G at and about the level marks. -/
theorem witness_RecordOperations :
    ((∀ e ∈ [(⟨0, none, true, false⟩ : IndexEntry)], e.seq = none)
      ∧ (⟨32, some 65535, true, false⟩ : IndexEntry).seq = some (65535 : Half))
      ∧ (stalled.record.drain = some 65536 ∧ State.reset.record.drain = none ∧ State.reset.record.writeEnd = none
        ∧ (clipState []).record.drain = none ∧ (clipState []).record.writeEnd = some 327680)
      ∧ ((withClips [closedClip]).record.clips = closedClip :: [] ∧ (withClips [closedClip]).record.drain = some 65536
        ∧ (withClips [closedClip, openClip]).record.clips = closedClip :: openClip :: [] ∧ openClip.start = some 0
        ∧ armedClip.start = none)
      ∧ (stalled.ring = some (1048576, ⟨BitVec.ofNat 64 markerWord, 48, 16, true, 5⟩)
        ∧ 48 * (1048576 / 64) ≤ stalled.record.guarded ∧ stalled.record.level = .high
        ∧ (0 : Nat) < 48 * (1048576 / 64)) := by decide +kernel

def readOf (addr len : Nat) (w : WindowRecord) (set : Nat) : PassBurst :=
  { id := 5, tag := 0, issued := addr, addr := addr, body := .read len (some ⟨w, set⟩) }

/-- A CLOSED oldest clip that ends 128 bytes on from D, and a PENDING list. -/
def drainingState : State :=
  { stalled with record := { stalled.record with clips := [{ closedClip with start := some 65536, stop := some 65664 }] } }
def swapping : State :=
  { State.reset with overlay := { State.reset.overlay with s2 := ⟨.pending, [tally 0]⟩ } }

theorem witness_ReadDataReachesOwner :
    (∀ p : PassBurst, (memoryHolds p).path.atMemory = some (.pass p) ∧ (memoryHolds p).path.beatsBack = [])
      ∧ (∀ back ∈ [0, 12, 15], 1 ≤ [(0 : BeatData)].length ∧ (List.replicate back (0 : BeatData)).length + 1 ≤ 16)
      ∧ (readOf 0x3FE00000 4 reportW 0).body = .read 4 (some ⟨reportW, 0⟩)
      ∧ (∀ w ∈ [commandW, metadataW, passW], w.role = .command ∨ w.role = .audio ∨ w.role = .metadata ∨ w.role = .pass)
      ∧ (fourWindows.window .report = some reportW ∧ State.reset.window .report = none)
      ∧ (stalled.window .record = some ringW ∧ stalled.record.drain = some 65536 ∧ 0x18010000 = ringW.base + 65536
        ∧ stalled.record.clips = ⟨7, .opened, some 65536, none, none, none, 31, 0⟩ :: []
        ∧ (0x18010080 : Nat) ≠ ringW.base + 65536 ∧ State.reset.record.drain = none)
      ∧ (drainingState.record.clips = { closedClip with start := some 65536, stop := some 65664 } :: []
        ∧ (65536 + min (min (8 * 16) drainingState.record.guarded) ((65664 + ringW.size - 65536) % ringW.size)) % ringW.size = 65664
        ∧ (65536 + min (min (8 * 15) drainingState.record.guarded) ((65664 + ringW.size - 65536) % ringW.size)) % ringW.size ≠ 65664)
      ∧ (frameW.role = .frame ∧ frameW.params = .frame geo
        ∧ geo.outputBuffer frameW.base (0x10000000 + 36 * 4096 + 3704) 2 = none)
      ∧ (geo.outputBuffer frameW.base (0x10000000 + 36 * 4096 + 136) 16 = some 0
        ∧ ∀ i, i < 16 → 0x10000000 + 36 * 4096 + 136 + 8 * i ≠ frameW.base + 0 * geo.stride + geo.marginY * geo.pitch
          + 2 * geo.marginX)
      ∧ (geo.outputBuffer frameW.base (0x10000000 + 36 * 4096 + 128) 16 = some 0
        ∧ 0x10000000 + 36 * 4096 + 128 + 8 * 0 = frameW.base + 0 * geo.stride + geo.marginY * geo.pitch + 2 * geo.marginX
        ∧ ∀ x ∈ [State.reset.overlay.s0, State.reset.overlay.s1, State.reset.overlay.s2], x.state ≠ .pending)
      ∧ ([swapping.overlay.s0, swapping.overlay.s1, swapping.overlay.s2]
          = [swapping.overlay.s0, swapping.overlay.s1] ++ ⟨.pending, [tally 0]⟩ :: []
        ∧ ∀ y ∈ [swapping.overlay.s0, swapping.overlay.s1] ++ [], y.state ≠ .pending) := by
  refine ⟨fun _ => ⟨rfl, rfl⟩, by decide, rfl, ?_⟩
  decide +kernel

/-- An overlay reset amid a returning read: the beat handled before it shows the element, the beat after it none (R130). -/
theorem test_reset_amid_read :
    let box : Element := ⟨.box 2, 0, 0, 4, 1, 2, .always, false, 2, 0, []⟩
    let s := memoryHolds (readOf (0x10000000 + 36 * 4096 + 128) 2 frameW 2)
    let t : State := { s with overlay := { s.overlay with s0 := ⟨.shown, [{ box with w := 8 }]⟩ } }
    let u := resetOverlay (after (exec (.readReturn (some [0])) t) t)
    let v := after (exec (.readReturn (some [0])) u) u
    (u.path.beatsBack.length, v.path.atMemory, v.overlay.frameCount,
      v.path.responses.map fun r => r.answer.map fun a => match a with
        | .data bs => bs.map fun b => b == 0
        | _ => []) = (1, none, 1, [some [false, true]]) := by decide +kernel

def audioW : WindowRecord :=
  { role := .audio, base := 0x28000000, sizeExp := 12, enabled := true, sets := [1], params := .audio .clear }
def audioState : State := withWindows [commandW, audioW]
def audioBurst (off n : Nat) : WriteBurst := ⟨BitVec.ofNat 32 (0x28000000 + off), 0, List.replicate n (full 0x0000010000000100)⟩

/-- One frame and eight at the window's last positions, a misaligned write of each cause, and the ends of both tables. -/
theorem witness_AudioWriteConditioned :
    (gainTable[0]? = some 65 ∧ gainTable[144]? = some 259669)
      ∧ ((List.replicate 16 (full (2 ^ 64 - 1))).length % 2 = 0
        ∧ ∃ x, x ∈ (processFrames .keep (List.replicate 2 (full (2 ^ 64 - 1))) State.reset).2)
      ∧ (∀ p ∈ [(8, 2), (0, 1), (4080, 2), (0, 16)],
        (audioBurst p.1 p.2).wellFormed = true ∧ classify audioState (audioBurst p.1 p.2).addr.toNat
          (audioBurst p.1 p.2).beats.length (audioBurst p.1 p.2).tag = .belongs ⟨audioW, 0⟩)
      ∧ (audioState.path.waiting = [] ∧ audioState.path.passQueue.length < 16 ∧ audioW.role = .audio
        ∧ audioW.params = .audio .clear)
      ∧ ((audioBurst 8 2).addr.toNat % 16 ≠ 0 ∧ (audioBurst 0 1).beats.length % 2 = 1
        ∧ (∃ x ∈ [(full 0), { data := 0, enables := 127 }], x.enables ≠ 255))
      ∧ ((audioBurst 4080 2).addr.toNat % 16 = 0
        ∧ (audioBurst 4080 2).beats = ([((0x0000010000000100 : BeatData), (0x0000010000000100 : BeatData))].flatMap fun f =>
          [{ data := f.1, enables := 255 }, { data := f.2, enables := 255 }])) :=
  ⟨by decide +kernel, ⟨by decide, _, List.mem_cons_self⟩, by decide +kernel, by decide +kernel, by decide +kernel, by decide +kernel⟩

/-- The snapshot of a lens: its F-number at the last value of three digits, and its zoom range met. -/
theorem witness_OverlayCovers :
    (let v : LensView := ⟨999, 40000, 0⟩;
      ({ shown with lens := some v } : Snapshot).lens = some v ∧ v.fNumber < 1000)
      ∧ (∀ n ∈ [1000, 65535], 1000 ≤ n ∧ n < 65536) ∧ shown.zoomMin ≤ shown.zoomMax ∧ Snapshot.reset.lens = none
      ∧ shown.clip = some 42 ∧ Snapshot.reset.clip = none := by decide +kernel

/-- The beat of the overlay's worked example, with the box over it and with no element at all. -/
theorem witness_OverlayDraws :
    let box : Element := ⟨.box 2, 560, 460, 40, 10, 2, .always, false, 2, 0, []⟩
    let snap : Snapshot := { Snapshot.reset with count := 7, zebra := ⟨.above, 230, 0, 0, 16⟩ }
    [beatOfBytes [240, 120, 200, 130, 235, 118, 236, 132]][0]? = some (beatOfBytes [240, 120, 200, 130, 235, 118, 236, 132])
      ∧ (7 < 8 ∧ [box] = [] ++ box :: []) ∧ box.covers snap 599 464 = true ∧ box.covers snap 596 464 = false
      ∧ (snap.zebra.mode = .above ∧ snap.zebra.level ≤ (240 : Byte) ∧ (596 + 464 + 2 * 7) / 4 % 2 = 0
        ∧ ¬ snap.zebra.level ≤ (200 : Byte)) := by decide +kernel

end Sys2Proof.Tests
end

section
/-! SUPPORT. What keeps the report unit and the command interface in order: ATTN at its condition (R203), the queues within
their lengths and order (R189, R194, R196, R197), and the moves that held completions carry (R20). Every operation of a block
keeps all three, because it touches both only by occurrences and by offers. -/

namespace Sys2Proof.Machine

/-- The queues of the report unit and of the command interface are within their lengths and in their order, and a drop report
or a held report waits for a full report queue alone: the report unit's part of QueueInv. -/
def ReportQueues (u : ReportUnit) (c : CommandInterface) : Prop :=
  u.queue.length ≤ 16 ∧ c.queue.length ≤ 8 ∧ u.events.length = 25 ∧ slotsSorted u.slots
    ∧ (u.drop.isSome = true ∨ c.held ≠ [] → u.queue.length = 16)

/-- What a held completion moves entry 0 to may stand there: the command interface's part of TableInv. -/
def HeldMovable (c : CommandInterface) : Prop := ∀ r ∈ c.held, movable r.moves = true

/-- From `u` and `c` to `v` and `d`, ATTN stays at its condition, the queues in order, and held moves sound. -/
def ReportsKept (u : ReportUnit) (c : CommandInterface) (v : ReportUnit) (d : CommandInterface) : Prop :=
  (u.attn = attnCondition u → v.attn = attnCondition v) ∧ (ReportQueues u c → ReportQueues v d)
    ∧ (HeldMovable c → HeldMovable d)

@[simp] theorem ReportsKept.refl (u : ReportUnit) (c : CommandInterface) : ReportsKept u c u c := ⟨id, id, id⟩

theorem ReportsKept.trans {u v w : ReportUnit} {c d e : CommandInterface} (h : ReportsKept u c v d)
    (k : ReportsKept v d w e) : ReportsKept u c w e :=
  ⟨k.1 ∘ h.1, k.2.1 ∘ h.2.1, k.2.2 ∘ h.2.2⟩

/-! ### Occurrences and offers -/

section
variable {u : ReportUnit} {c d : CommandInterface} {s : State}

@[simp] theorem evaluateAttn_reports (h : ReportsKept u c s.report d) : ReportsKept u c (evaluateAttn s).report d :=
  h.trans ⟨fun _ => rfl, id, id⟩

@[simp] theorem markPending_reports {k : EventKind} (h : ReportsKept u c s.report d) :
    ReportsKept u c (markPending k s).report d :=
  h.trans ⟨fun _ => rfl, fun ⟨hq, hc, he, hs, hd⟩ => ⟨hq, hc, by simpa using he, hs, hd⟩, id⟩

/-- A queue of fewer than 16 has neither a drop report nor a held report waiting, so one more report fits. -/
theorem ReportQueues.enqueue {u : ReportUnit} {c : CommandInterface} (h : ReportQueues u c) (hl : u.queue.length < 16)
    (r : Report) : ReportQueues { u with queue := u.queue ++ [r] } c := by
  obtain ⟨_, hc, he, hs, hd⟩ := h
  refine ⟨by simp; omega, hc, he, hs, fun hw => ?_⟩
  have := hd hw
  omega

theorem enqueueReport_report (r : Report) (s : State) :
    (enqueueReport r s).report = { s.report with queue := s.report.queue ++ [r] } := by
  simp [enqueueReport]

/-- Joining a queue that has room keeps everything in order. -/
theorem enqueueReport_reports {r : Report} (hl : s.report.queue.length < 16) (h : ReportsKept u c s.report d) :
    ReportsKept u c (enqueueReport r s).report d := by
  rw [enqueueReport_report]
  exact h.trans ⟨id, fun hq => hq.enqueue hl r, id⟩

/-- A drop at a full queue leaves a drop report waiting, which a full queue allows. -/
theorem dropEvent_reports {k : EventKind} (hl : 16 ≤ s.report.queue.length) (h : ReportsKept u c s.report d) :
    ReportsKept u c (dropEvent k s).report d := by
  refine h.trans ?_
  have full : ReportQueues s.report d → s.report.queue.length = 16 := fun hq => by have := hq.1; omega
  unfold dropEvent
  dsimp only
  split
  · exact ⟨id, fun hq => ⟨hq.1, hq.2.1, hq.2.2.1, hq.2.2.2.1, fun _ => full hq⟩, id⟩
  · exact ⟨fun _ => rfl, fun hq => ⟨hq.1, hq.2.1, (markPending_length ..).trans hq.2.2.1, hq.2.2.2.1, fun _ => full hq⟩, id⟩

/-- An offer keeps everything in order when what it may move entry 0 to may stand there. -/
theorem offer_reports_of_movable {r : Report} (hm : movable r.moves = true) (h : ReportsKept u c s.report s.command) :
    ReportsKept u c (offer r s).report (offer r s).command := by
  have held : 16 ≤ s.report.queue.length ∨ s.command.held ≠ [] → ReportsKept u c s.report
      { s.command with held := s.command.held ++ [r] } := fun hf => h.trans ⟨id, fun ⟨hq, hc, he, hs, hd⟩ =>
    ⟨hq, hc, he, hs, fun _ => hf.elim (fun hf => by omega) (fun hf => hd (.inr hf))⟩, fun hh q hq =>
      (List.mem_append.1 hq).elim (hh q) fun hq => by simpa [List.mem_singleton.1 hq] using hm⟩
  unfold offer
  split
  · simpa using h
  · split
    · split
      · simpa using enqueueReport_reports (by assumption) h
      · simpa using dropEvent_reports (by omega) h
    · split
      · rename_i hl
        simp only [Bool.and_eq_true, decide_eq_true_eq] at hl
        simpa using enqueueReport_reports hl.1 h
      · rename_i hl
        exact held (by simpa [-not_lt, Nat.not_lt, Classical.or_iff_not_imp_left] using hl)

@[simp] theorem offer_completion_reports {st : Status} {tag code : Half} {res : CommandResult}
    (h : ReportsKept u c s.report s.command) :
    ReportsKept u c (offer (.completion st tag code res none) s).report
      (offer (.completion st tag code res none) s).command := offer_reports_of_movable rfl h

@[simp] theorem offer_status_reports {b p n : Nat} {tag : Half} {l : List Byte}
    (h : ReportsKept u c s.report s.command) :
    ReportsKept u c (offer (.status b p n tag l) s).report (offer (.status b p n tag l) s).command :=
  offer_reports_of_movable rfl h

@[simp] theorem occur_reports {k : EventKind} {p : EventPayload} {sw : Bool} (h : ReportsKept u c s.report d) :
    ReportsKept u c (occur k p sw s).report d := by
  have hk : ReportsKept u c (markPending k s).report d := markPending_reports h
  unfold occur offer
  dsimp only
  split
  · exact hk
  · split
    · exact enqueueReport_reports (by assumption) hk
    · exact dropEvent_reports (by omega) hk

@[simp] theorem raiseEvent_reports {p : EventPayload} (h : ReportsKept u c s.report d) :
    ReportsKept u c (raiseEvent p s).report d := occur_reports h

@[simp] theorem raiseAll_reports {ps : List EventPayload} (h : ReportsKept u c s.report d) :
    ReportsKept u c (raiseAll ps s).report d := by
  induction ps generalizing s with
  | nil => exact h
  | cons p ps ih => exact ih (raiseEvent_reports h)

@[simp] theorem loseRecord_reports {w : InjectedWrite} (h : ReportsKept u c s.report d) :
    ReportsKept u c (loseRecord w s).report d := by
  unfold loseRecord
  split <;> simp [h]

end
end Sys2Proof.Machine
end

section
/-! SUPPORT. What every operation of a block keeps of the report unit and the command interface (ReportsKept). -/

namespace Sys2Proof.Machine
section
variable {u₀ : ReportUnit} {c₀ c₁ : CommandInterface} {s : State}

/-! ### Time, events and reports -/

/-! ### Frame tracker, axes and engines -/

@[simp] theorem resetFrame_reports (hk : ReportsKept u₀ c₀ s.report c₁) :
    ReportsKept u₀ c₀ (resetFrame s).report c₁ := by
  simp only [resetFrame]
  repeat' split
  all_goals simp [hk]

@[simp] theorem applyEngineStep_reports {id : EngineId} {r : EngineStep} (hk : ReportsKept u₀ c₀ s.report c₁) :
    ReportsKept u₀ c₀ (applyEngineStep id r s).report c₁ := by
  simp [hk, applyEngineStep]

@[simp] theorem takeOver_reports {a : Axis} {new : Source} (hk : ReportsKept u₀ c₀ s.report c₁) :
    ReportsKept u₀ c₀ (takeOver a new s).report c₁ := by
  simp only [takeOver]
  repeat' split
  all_goals simp [hk]

@[simp] theorem zoomTakeover_reports (hk : ReportsKept u₀ c₀ s.report c₁) :
    ReportsKept u₀ c₀ (zoomTakeover s).report c₁ := by
  simp only [zoomTakeover]
  repeat' split
  all_goals simp [hk]

@[simp] theorem focusTakeover_reports (hk : ReportsKept u₀ c₀ s.report c₁) :
    ReportsKept u₀ c₀ (focusTakeover s).report c₁ := by
  simp only [focusTakeover]
  repeat' split
  all_goals simp [hk]

@[simp] theorem engineStages_reports {w : EngineId → Bool} (hk : ReportsKept u₀ c₀ s.report c₁) :
    ReportsKept u₀ c₀ (engineStages w s).report c₁ := by
  simp [hk, engineStages]

@[simp] theorem demandOperation_reports (hk : ReportsKept u₀ c₀ s.report c₁) :
    ReportsKept u₀ c₀ (demandOperation s).report c₁ := engineStages_reports (focusTakeover_reports (zoomTakeover_reports hk))

/-! ### Gyro port and stabiliser -/

@[simp] theorem endCapture_reports {st : Status} {n : Nat} {tag : Half} (hk : ReportsKept u₀ c₀ s.report s.command) :
    ReportsKept u₀ c₀ (endCapture st n tag s).report (endCapture st n tag s).command := by
  simp [hk, endCapture]

@[simp] theorem abortCapture_reports (hk : ReportsKept u₀ c₀ s.report s.command) :
    ReportsKept u₀ c₀ (abortCapture s).report (abortCapture s).command := by
  simp only [abortCapture]
  repeat' split
  all_goals simp [hk]

@[simp] theorem collectSample_reports {good : Bool} {rates : Int × Int} (hk : ReportsKept u₀ c₀ s.report s.command) :
    ReportsKept u₀ c₀ (collectSample good rates s).report (collectSample good rates s).command := by
  simp only [collectSample]
  repeat' split
  all_goals simp [hk]

@[simp] theorem reportPan_reports {a : ImageAxis} {b c : PanState} (hk : ReportsKept u₀ c₀ s.report s.command) :
    ReportsKept u₀ c₀ (reportPan a b c s).report (reportPan a b c s).command := by
  simp only [reportPan]
  repeat' split
  all_goals simp [hk]

@[simp] theorem enterFailed_reports (hk : ReportsKept u₀ c₀ s.report s.command) :
    ReportsKept u₀ c₀ (enterFailed s).report (enterFailed s).command := by
  simp [hk, enterFailed]

@[simp] theorem detectPans_reports {rx ry : Int} (hk : ReportsKept u₀ c₀ s.report s.command) :
    ReportsKept u₀ c₀ (detectPans rx ry s).report (detectPans rx ry s).command := by
  simp only [detectPans]
  repeat' split
  all_goals simp [hk]

@[simp] theorem sampleEnds_reports {b : GyroBytes} (hk : ReportsKept u₀ c₀ s.report s.command) :
    ReportsKept u₀ c₀ (sampleEnds b s).report (sampleEnds b s).command := by
  simp only [sampleEnds, integrateBoth_frame]
  refine detectPans_reports (collectSample_reports ?_)
  repeat' split
  all_goals simp [hk]

@[simp] theorem latchLimited_reports {q : Half} {c : Correction} (hk : ReportsKept u₀ c₀ s.report c₁) :
    ReportsKept u₀ c₀ (latchLimited q c s).report c₁ := by
  simp only [latchLimited]
  repeat' split
  all_goals simp [hk]

@[simp] theorem resetStab_reports (hk : ReportsKept u₀ c₀ s.report s.command) :
    ReportsKept u₀ c₀ (resetStab s).report (resetStab s).command := by
  simp only [resetStab]
  repeat' split
  all_goals simp [hk]

/-! ### Record tracker -/

@[simp] theorem evaluateLevel_reports (hk : ReportsKept u₀ c₀ s.report c₁) :
    ReportsKept u₀ c₀ (evaluateLevel s).report c₁ := by
  simp only [evaluateLevel]
  repeat' split
  all_goals simp [hk]

@[simp] theorem removeOldest_reports {st : ClipState} (hk : ReportsKept u₀ c₀ s.report c₁) :
    ReportsKept u₀ c₀ (removeOldest st s).report c₁ := by
  simp only [removeOldest]
  repeat' split
  all_goals simp [hk]

@[simp] theorem drainIfDue_reports (hk : ReportsKept u₀ c₀ s.report c₁) :
    ReportsKept u₀ c₀ (drainIfDue s).report c₁ := by
  simp only [drainIfDue]
  repeat' split
  all_goals simp [hk]

@[simp] theorem holdBackWrite_reports {off : Nat} {h : Option HeaderFields} (hk : ReportsKept u₀ c₀ s.report c₁) :
    ReportsKept u₀ c₀ (holdBackWrite off h s).report c₁ := by
  simp only [holdBackWrite]
  repeat' split
  all_goals simp [hk]

@[simp] theorem closeAt_reports {off : Nat} {q : Option Half} (hk : ReportsKept u₀ c₀ s.report c₁) :
    ReportsKept u₀ c₀ (closeAt off q s).report c₁ := by
  simp only [closeAt]
  repeat' split
  all_goals simp [hk]

@[simp] theorem openAt_reports {off : Nat} {q : Option Half} {ra : Bool} (hk : ReportsKept u₀ c₀ s.report c₁) :
    ReportsKept u₀ c₀ (openAt off q ra s).1.report c₁ := by
  simp only [openAt]
  repeat' split
  all_goals simp [hk]

@[simp] theorem forwardHeader_reports {off : Nat} {h : HeaderFields} {beats : List Beat}
    (hk : ReportsKept u₀ c₀ s.report c₁) :
    ReportsKept u₀ c₀ (forwardHeader off h beats s).1.report c₁ := by
  simp [hk, forwardHeader]

@[simp] theorem forwardEncoderWrite_reports {size : Nat} {r : RingSetup} {base addr : Nat} {beats : List Beat}
    (hk : ReportsKept u₀ c₀ s.report c₁) :
    ReportsKept u₀ c₀ (forwardEncoderWrite size r base addr beats s).1.report c₁ := by
  simp only [forwardEncoderWrite]
  refine evaluateLevel_reports (drainIfDue_reports ?_)
  split <;> simp [hk]

@[simp] theorem encoderWrite_reports {w : WindowRecord} {addr : Nat} {beats : List Beat}
    (hk : ReportsKept u₀ c₀ s.report c₁) :
    ReportsKept u₀ c₀ (encoderWrite w addr beats s).1.report c₁ := by
  simp only [encoderWrite]
  repeat' split
  all_goals simp [hk]

@[simp] theorem cardRead_reports {addr len : Nat} (hk : ReportsKept u₀ c₀ s.report c₁) :
    ReportsKept u₀ c₀ (cardRead addr len s).report c₁ := by
  have hl : ∀ x, ReportsKept u₀ c₀ (evaluateLevel { s with record := x }).report c₁ := fun x => by simp [hk]
  simp only [cardRead]
  repeat' split
  · exact evaluateLevel_reports (removeOldest_reports (hl _))
  · exact hl _
  all_goals exact hk

@[simp] theorem addClip_reports {st : ClipState} {n : Option Nat} {q : Option Half} (hk : ReportsKept u₀ c₀ s.report c₁) :
    ReportsKept u₀ c₀ (addClip st n q s).report c₁ := by
  simp only [addClip]
  repeat' split
  all_goals simp [hk]

@[simp] theorem recStartWith_reports {n : Option Nat} (hk : ReportsKept u₀ c₀ s.report c₁) :
    ReportsKept u₀ c₀ (recStartWith n s).1.report c₁ := by
  unfold recStartWith
  repeat' split
  all_goals simp [hk, completes, refuses]
  all_goals (split <;> simp [hk])

@[simp] theorem recStopNow_reports (hk : ReportsKept u₀ c₀ s.report c₁) :
    ReportsKept u₀ c₀ (recStopNow s).1.report c₁ := by
  unfold recStopNow
  repeat' split
  all_goals simp [hk, completes, refuses]

@[simp] theorem recordButton_reports (hk : ReportsKept u₀ c₀ s.report c₁) :
    ReportsKept u₀ c₀ (recordButton s).report c₁ := by
  simp only [recordButton]
  repeat' split
  all_goals simp [hk]

@[simp] theorem resetRecord_reports (hk : ReportsKept u₀ c₀ s.report c₁) :
    ReportsKept u₀ c₀ (resetRecord s).report c₁ := by
  simp only [resetRecord]
  repeat' split
  all_goals simp [hk]

/-! ### Lens link -/

@[simp] theorem raiseLensState_reports {b : Bool} (hk : ReportsKept u₀ c₀ s.report c₁) :
    ReportsKept u₀ c₀ (raiseLensState b s).report c₁ := by
  simp [hk, raiseLensState]

@[simp] theorem missCycle_reports (hk : ReportsKept u₀ c₀ s.report c₁) :
    ReportsKept u₀ c₀ (missCycle s).report c₁ := by
  simp only [missCycle]
  repeat' split
  all_goals simp [hk]

@[simp] theorem endHeldWindow_reports {n : Nat} (hk : ReportsKept u₀ c₀ s.report c₁) :
    ReportsKept u₀ c₀ (endHeldWindow n s).report c₁ := by
  simp only [endHeldWindow]
  repeat' split
  all_goals simp [hk]

@[simp] theorem abandonFrame_reports {a : Assembly} (hk : ReportsKept u₀ c₀ s.report c₁) :
    ReportsKept u₀ c₀ (abandonFrame a s).report c₁ := by
  simp only [abandonFrame]
  repeat' split
  all_goals simp [hk]

@[simp] theorem abandonOnGap_reports (hk : ReportsKept u₀ c₀ s.report c₁) :
    ReportsKept u₀ c₀ (abandonOnGap s).report c₁ := by
  simp only [abandonOnGap]
  repeat' split
  all_goals simp [hk]

@[simp] theorem takePosition_reports {p : Position} (hk : ReportsKept u₀ c₀ s.report c₁) :
    ReportsKept u₀ c₀ (takePosition p s).report c₁ := by
  simp only [takePosition]
  repeat' split
  all_goals simp [hk]

@[simp] theorem completeReply_reports {i : Identity} {p : Position} (hk : ReportsKept u₀ c₀ s.report c₁) :
    ReportsKept u₀ c₀ (completeReply i p s).report c₁ := by
  simp only [completeReply]
  repeat' split
  all_goals simp [hk]

@[simp] theorem positionArrives_reports {n : Nat} {p : Position} (hk : ReportsKept u₀ c₀ s.report c₁) :
    ReportsKept u₀ c₀ (positionArrives n p s).report c₁ := by
  simp only [positionArrives]
  repeat' split
  all_goals simp [hk]

@[simp] theorem identityArrives_reports {n : Nat} {i : Identity} (hk : ReportsKept u₀ c₀ s.report c₁) :
    ReportsKept u₀ c₀ (identityArrives n i s).report c₁ := by
  simp only [identityArrives]
  repeat' split
  all_goals simp [hk]

@[simp] theorem noticeArrives_reports {n : Nat} {k : Notice} (hk : ReportsKept u₀ c₀ s.report c₁) :
    ReportsKept u₀ c₀ (noticeArrives n k s).report c₁ := by
  simp only [noticeArrives]
  split
  · exact hk
  · refine endHeldWindow_reports ?_
    split <;> simp [hk]

@[simp] theorem nothingTaken_reports {n : Nat} (hk : ReportsKept u₀ c₀ s.report c₁) :
    ReportsKept u₀ c₀ (nothingTaken n s).report c₁ := by
  simp [hk, nothingTaken]

@[simp] theorem frameTaken_reports {n : Nat} {r : Received} (hk : ReportsKept u₀ c₀ s.report c₁) :
    ReportsKept u₀ c₀ (frameTaken n r s).report c₁ := by
  simp only [frameTaken]
  repeat' split
  all_goals simp [hk]

@[simp] theorem applyReception_reports {n : Nat} {r : Reception} (hk : ReportsKept u₀ c₀ s.report c₁) :
    ReportsKept u₀ c₀ (applyReception n r s).report c₁ := by
  simp only [applyReception]
  repeat' split
  all_goals simp [hk]

@[simp] theorem readOwn_reports {b : Byte} (hk : ReportsKept u₀ c₀ s.report c₁) :
    ReportsKept u₀ c₀ (readOwn s b).report c₁ := by
  simp [hk, readOwn]

@[simp] theorem readOwns_reports {bs : List Byte} (hk : ReportsKept u₀ c₀ s.report c₁) :
    ReportsKept u₀ c₀ (bs.foldl readOwn s).report c₁ := by
  induction bs generalizing s with
  | nil => exact hk
  | cons b bs ih => exact ih (readOwn_reports hk)

@[simp] theorem readBackUntil_reports {t : Nat} (hk : ReportsKept u₀ c₀ s.report c₁) :
    ReportsKept u₀ c₀ (readBackUntil t s).report c₁ := by
  simp only [readBackUntil]
  repeat' split
  all_goals simp [hk]

@[simp] theorem stopDriving_reports (hk : ReportsKept u₀ c₀ s.report c₁) :
    ReportsKept u₀ c₀ (stopDriving s).report c₁ := by
  simp only [stopDriving]
  repeat' split
  all_goals simp [hk]

@[simp] theorem startBitFalls_reports (hk : ReportsKept u₀ c₀ s.report c₁) :
    ReportsKept u₀ c₀ (startBitFalls s).report c₁ := by
  simp only [startBitFalls]
  repeat' split
  all_goals simp [hk]

@[simp] theorem startFrame_reports (hk : ReportsKept u₀ c₀ s.report c₁) :
    ReportsKept u₀ c₀ (startFrame s).report c₁ := by
  simp only [startFrame]
  repeat' split
  all_goals simp [hk]

@[simp] theorem cancelFrame_reports {x : TxFrame} (hk : ReportsKept u₀ c₀ s.report c₁) :
    ReportsKept u₀ c₀ (cancelFrame x s).report c₁ := by
  simp only [cancelFrame]
  repeat' split
  all_goals simp [hk]

@[simp] theorem settleCycle_reports (hk : ReportsKept u₀ c₀ s.report c₁) :
    ReportsKept u₀ c₀ (settleCycle s).report c₁ := by
  simp only [settleCycle]
  repeat' split
  all_goals simp [hk]

@[simp] theorem resetLens_reports (hk : ReportsKept u₀ c₀ s.report c₁) :
    ReportsKept u₀ c₀ (resetLens s).report c₁ := by
  simp only [resetLens]
  repeat' split
  all_goals simp [hk]

/-! ### Overlay, audio and metadata -/

@[simp] theorem swapOverlay_reports (hk : ReportsKept u₀ c₀ s.report c₁) :
    ReportsKept u₀ c₀ (swapOverlay s).report c₁ := by
  simp only [swapOverlay]
  repeat' split
  all_goals simp [hk]

@[simp] theorem frameStart_reports (hk : ReportsKept u₀ c₀ s.report c₁) :
    ReportsKept u₀ c₀ (frameStart s).report c₁ := by
  simp [hk, frameStart]

@[simp] theorem overlayRead_reports {w : WindowRecord} {addr len back : Nat} {beats : List BeatData}
    (hk : ReportsKept u₀ c₀ s.report c₁) :
    ReportsKept u₀ c₀ (overlayRead w addr len back beats s).1.report c₁ := by
  simp only [overlayRead]
  repeat' split
  all_goals simp [hk]

@[simp] theorem handClip_reports {c : Channel} {e : Option ClipEnd} {b : Bool} (hk : ReportsKept u₀ c₀ s.report c₁) :
    ReportsKept u₀ c₀ (handClip c e b s).report c₁ := by
  simp only [handClip]
  repeat' split
  all_goals simp [hk]

@[simp] theorem processFrame_reports {m : FlagByteMode} {a b : BeatData} (hk : ReportsKept u₀ c₀ s.report c₁) :
    ReportsKept u₀ c₀ (processFrame m a b s).1.report c₁ :=
  handClip_reports (handClip_reports (handClip_reports (handClip_reports hk)))

@[simp] theorem processFrames_reports {m : FlagByteMode} {beats : List Beat} (hk : ReportsKept u₀ c₀ s.report c₁) :
    ReportsKept u₀ c₀ (processFrames m beats s).1.report c₁ := by
  fun_induction processFrames m beats s with
  | case1 a b rest s r t ih => exact ih (processFrame_reports hk)
  | case2 => exact hk

@[simp] theorem audioWrite_reports {w : WindowRecord} {addr : Nat} {beats : List Beat} (hk : ReportsKept u₀ c₀ s.report c₁) :
    ReportsKept u₀ c₀ (audioWrite w addr beats s).1.report c₁ := by
  simp only [audioWrite]
  repeat' split
  all_goals simp [hk]

@[simp] theorem settleCadence_reports (hk : ReportsKept u₀ c₀ s.report c₁) :
    ReportsKept u₀ c₀ (settleCadence s).report c₁ := by
  simp only [settleCadence]
  repeat' split
  all_goals simp [hk]

@[simp] theorem audioMark_reports (hk : ReportsKept u₀ c₀ s.report c₁) :
    ReportsKept u₀ c₀ (audioMark s).report c₁ := by
  simp [hk, audioMark]

/-! ### Frame marks -/

@[simp] theorem markDemands_reports {m : Option (Nat × Nat)} (hk : ReportsKept u₀ c₀ s.report c₁) :
    ReportsKept u₀ c₀ (markDemands m s).1.report c₁ := by
  simp [hk, markDemands]

@[simp] theorem markRest_reports {b : State} {r : Option CaptureRecord} {c : Correction}
    (hk : ReportsKept u₀ c₀ s.report c₁) :
    ReportsKept u₀ c₀ (markRest b r c s).report c₁ := by
  simp [hk, markRest]

@[simp] theorem abandonCapture_reports (hk : ReportsKept u₀ c₀ s.report c₁) :
    ReportsKept u₀ c₀ (abandonCapture s).report c₁ := by
  simp only [abandonCapture]
  repeat' split
  all_goals simp [hk]

@[simp] theorem captureBeat_reports (hk : ReportsKept u₀ c₀ s.report c₁) :
    ReportsKept u₀ c₀ (captureBeat s).report c₁ := by
  simp only [captureBeat]
  repeat' split
  all_goals simp [hk]

@[simp] theorem captureStart_reports {g : Geometry} {b : Nat} (hk : ReportsKept u₀ c₀ s.report c₁) :
    ReportsKept u₀ c₀ (captureStart g b s).report c₁ := by
  simp only [captureStart]
  refine markRest_reports (latchLimited_reports ?_)
  simp only [appendCapture_frame]
  exact markDemands_reports (captureBeat_reports (abandonCapture_reports hk))

@[simp] theorem sensorWrite_reports {w : WindowRecord} {addr len : Nat} (hk : ReportsKept u₀ c₀ s.report c₁) :
    ReportsKept u₀ c₀ (sensorWrite w addr len s).report c₁ := by
  simp only [sensorWrite]
  repeat' split
  all_goals simp [hk]

@[simp] theorem substituteBeat_reports (hk : ReportsKept u₀ c₀ s.report c₁) :
    ReportsKept u₀ c₀ (substituteBeat s).report c₁ := by
  simp only [substituteBeat]
  repeat' split
  all_goals simp [hk]

@[simp] theorem timerExpiry_reports (hk : ReportsKept u₀ c₀ s.report c₁) :
    ReportsKept u₀ c₀ (timerExpiry s).report c₁ :=
  markRest_reports (markDemands_reports (substituteBeat_reports hk))

/-! ### Path unit -/

@[simp] theorem raiseStraddle_reports {i : Nat} {tag : BitVec 4} {addr : Nat} (hk : ReportsKept u₀ c₀ s.report c₁) :
    ReportsKept u₀ c₀ (raiseStraddle i tag addr s).report c₁ := by
  simp [hk, raiseStraddle]

@[simp] theorem offerCommand_reports {r : CommandRecord} (hk : ReportsKept u₀ c₀ s.report s.command) :
    ReportsKept u₀ c₀ (offerCommand r s).report (offerCommand r s).command := by
  simp only [offerCommand]
  split
  · rename_i hl
    exact hk.trans ⟨id, fun ⟨hq, _, he, hs, hd⟩ => ⟨hq, by simp; omega, he, hs, hd⟩, id⟩
  · simp [hk]

@[simp] theorem takePosition32_reports {addr : Nat} {beats : List Beat} {p : Nat}
    (hk : ReportsKept u₀ c₀ s.report s.command) :
    ReportsKept u₀ c₀ (takePosition32 addr beats p s).report (takePosition32 addr beats p s).command := by
  simp only [takePosition32]
  repeat' split
  all_goals simp [hk]

@[simp] theorem commandWrite_reports {addr : Nat} {beats : List Beat} (hk : ReportsKept u₀ c₀ s.report s.command) :
    ReportsKept u₀ c₀ (commandWrite addr beats s).report (commandWrite addr beats s).command := by
  simp only [commandWrite]
  generalize touchedPositions addr beats.length = ps
  induction ps generalizing s with
  | nil => exact hk
  | cons p ps ih => exact ih (takePosition32_reports hk)

@[simp] theorem acceptRead_reports {b : ReadBurst} (hk : ReportsKept u₀ c₀ s.report c₁) :
    ReportsKept u₀ c₀ (acceptRead b s).report c₁ := by
  simp only [acceptRead]
  repeat' split
  all_goals simp [hk]

@[simp] theorem freeSlots_reports {addr len : Nat} (hk : ReportsKept u₀ c₀ s.report c₁) :
    ReportsKept u₀ c₀ (freeSlots addr len s).report c₁ := by
  unfold freeSlots
  split
  · exact hk.trans ⟨id, fun ⟨hq, hc, he, hs, hd⟩ => ⟨hq, hc, he, filter_sorted _ hs, hd⟩, id⟩
  · exact hk

@[simp] theorem substituteBeats_reports {c : Option ReadClass} {addr len back : Nat} {beats : List BeatData}
    (hk : ReportsKept u₀ c₀ s.report c₁) :
    ReportsKept u₀ c₀ (substituteBeats c addr len back beats s).1.report c₁ := by
  simp only [substituteBeats]
  repeat' split
  all_goals simp [hk]

@[simp] theorem observeRead_reports {c : Option ReadClass} {addr len : Nat} (hk : ReportsKept u₀ c₀ s.report c₁) :
    ReportsKept u₀ c₀ (observeRead c addr len s).report c₁ := by
  unfold observeRead
  repeat' split
  all_goals simp [hk]

@[simp] theorem beatsReturn_reports {b : PassBurst} {len : Nat} {c : Option ReadClass} {beats : List BeatData}
    (hk : ReportsKept u₀ c₀ s.report c₁) :
    ReportsKept u₀ c₀ (beatsReturn b len c beats s).report c₁ := by
  simp only [beatsReturn]
  repeat' split
  all_goals simp [hk]

/-! ### Commands -/

end
end Sys2Proof.Machine
end

section
/-! SUPPORT. The record timecode: only a stamped header advances it (R156), so every other operation of the record tracker
leaves it alone. -/

namespace Sys2Proof.Machine

@[simp] theorem evaluateLevel_timecode (s : State) : (evaluateLevel s).record.timecode = s.record.timecode := by
  simp only [evaluateLevel]
  repeat' split
  all_goals simp

@[simp] theorem newRing_timecode (s : State) : (newRing s).record.timecode = s.record.timecode := by
  simp [newRing]

@[simp] theorem defineDrain_timecode (n : Nat) (s : State) :
    (defineDrain n s).record.timecode = s.record.timecode := by
  simp only [defineDrain]
  repeat' split
  all_goals simp

@[simp] theorem removeOldest_timecode (st : ClipState) (s : State) :
    (removeOldest st s).record.timecode = s.record.timecode := by
  simp only [removeOldest]
  repeat' split
  all_goals simp

@[simp] theorem drainIfDue_timecode (s : State) : (drainIfDue s).record.timecode = s.record.timecode := by
  simp only [drainIfDue]
  repeat' split
  all_goals simp

@[simp] theorem holdBackWrite_timecode (off : Nat) (h : Option HeaderFields) (s : State) :
    (holdBackWrite off h s).record.timecode = s.record.timecode := by
  simp only [holdBackWrite]
  repeat' split
  all_goals simp

@[simp] theorem closeAt_timecode (off : Nat) (q : Option Half) (s : State) :
    (closeAt off q s).record.timecode = s.record.timecode := by
  simp only [closeAt]
  repeat' split
  all_goals simp

@[simp] theorem openAt_timecode (off : Nat) (q : Option Half) (ra : Bool) (s : State) :
    (openAt off q ra s).1.record.timecode = s.record.timecode := by
  simp only [openAt]
  repeat' split
  all_goals simp

@[simp] theorem moveWriteEnd_timecode (size off len : Nat) (s : State) :
    (moveWriteEnd size off len s).record.timecode = s.record.timecode := by
  simp [moveWriteEnd]

@[simp] theorem cardRead_timecode (addr len : Nat) (s : State) :
    (cardRead addr len s).record.timecode = s.record.timecode := by
  simp only [cardRead]
  repeat' split
  all_goals simp

@[simp] theorem addClip_timecode (st : ClipState) (n : Option Nat) (q : Option Half) (s : State) :
    (addClip st n q s).record.timecode = s.record.timecode := by
  simp only [addClip]
  repeat' split
  all_goals simp

@[simp] theorem recStartWith_timecode (n : Option Nat) (s : State) :
    (recStartWith n s).1.record.timecode = s.record.timecode := by
  unfold recStartWith
  repeat' split
  all_goals simp [completes, refuses]
  all_goals (split <;> simp)

@[simp] theorem recStopNow_timecode (s : State) : (recStopNow s).1.record.timecode = s.record.timecode := by
  unfold recStopNow
  repeat' split
  all_goals simp [completes, refuses]

@[simp] theorem recordButton_timecode (s : State) : (recordButton s).record.timecode = s.record.timecode := by
  simp only [recordButton]
  repeat' split
  all_goals simp

@[simp] theorem resetRecord_timecode (s : State) : (resetRecord s).record.timecode = s.record.timecode := by
  simp only [resetRecord]
  repeat' split
  all_goals simp

@[simp] theorem noticeArrives_timecode (n : Nat) (k : Notice) (s : State) :
    (noticeArrives n k s).record.timecode = s.record.timecode := by
  simp only [noticeArrives]
  repeat' split
  all_goals simp

@[simp] theorem frameTaken_timecode (n : Nat) (r : Received) (s : State) :
    (frameTaken n r s).record.timecode = s.record.timecode := by
  simp only [frameTaken]
  repeat' split
  all_goals simp

@[simp] theorem applyReception_timecode (n : Nat) (r : Reception) (s : State) :
    (applyReception n r s).record.timecode = s.record.timecode := by
  simp only [applyReception]
  repeat' split
  all_goals simp

@[simp] theorem readOwn_timecode (b : Byte) (s : State) : (readOwn s b).record.timecode = s.record.timecode := by
  simp [readOwn]

@[simp] theorem readOwns_timecode (bs : List Byte) (s : State) :
    (bs.foldl readOwn s).record.timecode = s.record.timecode := by
  induction bs generalizing s with
  | nil => simp
  | cons b bs ih => simp [ih]

@[simp] theorem readBackUntil_timecode (t : Nat) (s : State) :
    (readBackUntil t s).record.timecode = s.record.timecode := by
  simp only [readBackUntil]
  repeat' split
  all_goals simp

@[simp] theorem stopDriving_timecode (s : State) : (stopDriving s).record.timecode = s.record.timecode := by
  simp only [stopDriving]
  repeat' split
  all_goals simp

@[simp] theorem cancelFrame_timecode (x : TxFrame) (s : State) :
    (cancelFrame x s).record.timecode = s.record.timecode := by
  simp only [cancelFrame]
  repeat' split
  all_goals simp

@[simp] theorem resetLens_timecode (s : State) : (resetLens s).record.timecode = s.record.timecode := by
  simp only [resetLens]
  repeat' split
  all_goals simp

@[simp] theorem observeRead_timecode (c : Option ReadClass) (addr len : Nat) (s : State) :
    (observeRead c addr len s).record.timecode = s.record.timecode := by
  simp only [observeRead]
  repeat' split
  all_goals simp

@[simp] theorem beatsReturn_timecode (b : PassBurst) (len : Nat) (c : Option ReadClass) (beats : List BeatData) (s : State) :
    (beatsReturn b len c beats s).record.timecode = s.record.timecode := by
  simp only [beatsReturn]
  repeat' split
  all_goals simp

end Sys2Proof.Machine
end

section
/-! SUPPORT. What a command's meaning leaves alone (R190): for every command that touches neither the window table, nor the frame
tracker, nor the record timecode. -/

namespace Sys2Proof.Machine

/-- The execution `x` of a command on `s` leaves the path unit, the frame tracker and the record timecode alone, moves no
window, and keeps the report unit in order. -/
def Quiet (s : State) (x : State × Completion) : Prop :=
  x.1.path = s.path ∧ x.1.frame = s.frame ∧ x.1.record.timecode = s.record.timecode ∧ x.2.moves = none
    ∧ ReportsKept s.report s.command x.1.report x.1.command

@[simp] theorem quiet_completes {st : Status} {s t : State} : Quiet s (completes st t) ↔
    t.path = s.path ∧ t.frame = s.frame ∧ t.record.timecode = s.record.timecode
      ∧ ReportsKept s.report s.command t.report t.command := by
  simp [Quiet, completes]

@[simp] theorem quiet_refuses {st : Status} {s t : State} : Quiet s (refuses st t) ↔
    t.path = s.path ∧ t.frame = s.frame ∧ t.record.timecode = s.record.timecode
      ∧ ReportsKept s.report s.command t.report t.command := by
  simp [Quiet, refuses]

theorem unknownCommand_quiet (r : CommandRecord) (s : State) : Quiet s (unknownCommand r s) := by
  simp [unknownCommand]

theorem setEventMask_quiet (r : CommandRecord) (s : State) : Quiet s (setEventMask r s) := by
  simp only [setEventMask, quiet_completes]
  refine ⟨by simp, by simp, by simp, ?_⟩
  exact ⟨fun _ => rfl, fun ⟨hq, hc, he, hs, hd⟩ => ⟨hq, hc, by simp [evaluateAttn, maskEvents_eq, he], hs, hd⟩, id⟩

theorem ackEvent_quiet (r : CommandRecord) (s : State) : Quiet s (ackEvent r s) := by
  unfold ackEvent
  split
  · simp
  · dsimp only
    split
    · exact ⟨rfl, rfl, rfl, rfl, fun _ => rfl,
        fun ⟨hq, hc, he, hs, hd⟩ => ⟨hq, hc, by simp [evaluateAttn, he], hs, hd⟩, id⟩
    · exact ⟨rfl, rfl, rfl, rfl, evaluateAttn_reports (.refl ..)⟩

theorem serviceDone_quiet (r : CommandRecord) (s : State) : Quiet s (serviceDone r s) :=
  quiet_completes.2 ⟨rfl, rfl, rfl, fun _ => rfl, id, id⟩

theorem raiseCommand_quiet (r : CommandRecord) (s : State) : Quiet s (raiseCommand r s) := by
  simp only [raiseCommand]
  repeat' split
  all_goals simp

@[simp] theorem offerStatus_reports {b n p : Nat} {tag : Half} {l : List (List Byte)} {s : State} {u₀ : ReportUnit}
    {c₀ : CommandInterface} (hk : ReportsKept u₀ c₀ s.report s.command) :
    ReportsKept u₀ c₀ (offerStatus b n tag p l s).report (offerStatus b n tag p l s).command := by
  fun_induction offerStatus b n tag p l s with
  | case1 => exact hk
  | case2 p s items rest ih => exact ih (offer_status_reports hk)

@[simp] theorem offerStatus_path (b n p : Nat) (tag : Half) (l : List (List Byte)) (s : State) :
    (offerStatus b n tag p l s).path = s.path := by
  fun_induction offerStatus b n tag p l s with
  | case1 => rfl
  | case2 p s items rest ih => exact ih.trans (by simp)

theorem statusRequest_quiet (r : CommandRecord) (s : State) : Quiet s (statusRequest r s) := by
  unfold statusRequest
  split
  · simp
  · simp [Quiet]

theorem resetJobLens_quiet (r : CommandRecord) (s : State) : Quiet s (resetJobLens r s) := by
  simp only [resetJobLens]
  repeat' split
  all_goals simp

theorem resetJobStab_quiet (r : CommandRecord) (s : State) : Quiet s (resetJobStab r s) := by
  simp [resetJobStab]

theorem resetJobAudio_quiet (r : CommandRecord) (s : State) : Quiet s (resetJobAudio r s) := by
  simp [resetJobAudio]

theorem resetJobOverlay_quiet (r : CommandRecord) (s : State) : Quiet s (resetJobOverlay r s) := by
  simp [resetJobOverlay]

theorem resetJobRecord_quiet (r : CommandRecord) (s : State) : Quiet s (resetJobRecord r s) := by
  simp [resetJobRecord]

theorem lensEnable_quiet (r : CommandRecord) (s : State) : Quiet s (lensEnable r s) := by
  simp only [lensEnable]
  repeat' split
  all_goals simp

theorem lensDisable_quiet (r : CommandRecord) (s : State) : Quiet s (lensDisable r s) := by
  simp only [lensDisable]
  repeat' split
  all_goals simp

theorem lensReSeek_quiet (r : CommandRecord) (s : State) : Quiet s (lensReSeek r s) := by
  simp only [lensReSeek]
  repeat' split
  all_goals simp

theorem setAxisSource_quiet (r : CommandRecord) (s : State) : Quiet s (setAxisSource r s) := by
  simp only [setAxisSource]
  repeat' split
  all_goals simp

theorem setDirectDemand_quiet (r : CommandRecord) (s : State) : Quiet s (setDirectDemand r s) := by
  simp only [setDirectDemand]
  repeat' split
  all_goals simp

theorem setRocker_quiet (r : CommandRecord) (s : State) : Quiet s (setRocker r s) := by
  simp [setRocker]

theorem setOverride_quiet (r : CommandRecord) (s : State) : Quiet s (setOverride r s) := by
  simp only [setOverride]
  repeat' split
  all_goals simp

theorem engineAppend_quiet (r : CommandRecord) (s : State) : Quiet s (engineAppend r s) := by
  simp only [engineAppend]
  repeat' split
  all_goals simp

theorem setEngineMode_quiet (m : EngineMode) (r : CommandRecord) (s : State) : Quiet s (setEngineMode m r s) := by
  simp only [setEngineMode]
  repeat' split
  all_goals simp

theorem engineModeRun_quiet (r : CommandRecord) (s : State) : Quiet s (engineModeRun r s) := by
  unfold engineModeRun
  split
  · simp
  · exact setEngineMode_quiet .run r s

theorem engineModeStep_quiet (r : CommandRecord) (s : State) : Quiet s (engineModeStep r s) :=
  setEngineMode_quiet .step r s

theorem engineModeHold_quiet (r : CommandRecord) (s : State) : Quiet s (engineModeHold r s) := by
  simp only [engineModeHold]
  repeat' split
  all_goals simp

theorem engineFlush_quiet (r : CommandRecord) (s : State) : Quiet s (engineFlush r s) := by
  simp only [engineFlush]
  repeat' split
  all_goals simp

theorem gyroSetup_quiet (r : CommandRecord) (s : State) : Quiet s (gyroSetup r s) := by
  simp only [gyroSetup]
  repeat' split
  all_goals simp

theorem stabSetup_quiet (r : CommandRecord) (s : State) : Quiet s (stabSetup r s) := by
  simp only [stabSetup]
  repeat' split
  all_goals simp

theorem stabMode_quiet (r : CommandRecord) (s : State) : Quiet s (stabMode r s) := by
  simp only [stabMode]
  repeat' split
  all_goals simp

theorem stabRecentre_quiet (r : CommandRecord) (s : State) : Quiet s (stabRecentre r s) := by
  simp [stabRecentre]

theorem overlayBegin_quiet (r : CommandRecord) (s : State) : Quiet s (overlayBegin r s) := by
  simp [overlayBegin]

theorem overlayElement_quiet (r : CommandRecord) (s : State) : Quiet s (overlayElement r s) := by
  simp only [overlayElement]
  repeat' split
  all_goals simp

theorem overlayCommit_quiet (r : CommandRecord) (s : State) : Quiet s (overlayCommit r s) := by
  simp [overlayCommit]

theorem setPalette_quiet (r : CommandRecord) (s : State) : Quiet s (setPalette r s) := by
  simp only [setPalette]
  repeat' split
  all_goals simp

theorem setZebra_quiet (r : CommandRecord) (s : State) : Quiet s (setZebra r s) := by
  simp only [setZebra]
  repeat' split
  all_goals simp

theorem audioRoute_quiet (r : CommandRecord) (s : State) : Quiet s (audioRoute r s) := by
  simp only [audioRoute]
  repeat' split
  all_goals simp

theorem audioLimiter_quiet (r : CommandRecord) (s : State) : Quiet s (audioLimiter r s) := by
  simp [audioLimiter]

theorem audioMeter_quiet (r : CommandRecord) (s : State) : Quiet s (audioMeter r s) := by
  simp [audioMeter]

theorem audioSyncReset_quiet (r : CommandRecord) (s : State) : Quiet s (audioSyncReset r s) := by
  simp [audioSyncReset]

theorem recStart_quiet (r : CommandRecord) (s : State) : Quiet s (recStart r s) := by
  have hm : ∀ n, (recStartWith n s).2.moves = none := fun n => by
    unfold recStartWith
    repeat' split
    all_goals rfl
  simp [Quiet, recStart, hm]

theorem recStop_quiet (r : CommandRecord) (s : State) : Quiet s (recStop r s) := by
  have hm : (recStopNow s).2.moves = none := by
    unfold recStopNow
    repeat' split
    all_goals rfl
  simp [Quiet, recStop, hm]

theorem clipDiscard_quiet (r : CommandRecord) (s : State) : Quiet s (clipDiscard r s) := by
  simp only [clipDiscard]
  repeat' split
  all_goals simp

end Sys2Proof.Machine
end

section
/-! SUPPORT. The window table as a list of entries: which entry is a role's window (R3), and what keeps the table's checks (R18)
when an entry is replaced. -/

namespace Sys2Proof.Machine

/-! ### Entries and the window of a role -/

/-- The record at an index of a table. -/
def entryAt (ws : List (Option WindowRecord)) (i : Nat) : Option WindowRecord := (ws[i]?).join

theorem entry_eq_entryAt (s : State) (i : Nat) : s.entry i = entryAt s.path.windows i := rfl

@[simp] theorem entryAt_nil (i : Nat) : entryAt [] i = none := rfl
@[simp] theorem entryAt_cons_zero (e : Option WindowRecord) (ws : List (Option WindowRecord)) :
    entryAt (e :: ws) 0 = e := rfl
@[simp] theorem entryAt_cons_succ (e : Option WindowRecord) (ws : List (Option WindowRecord)) (i : Nat) :
    entryAt (e :: ws) (i + 1) = entryAt ws i := by simp [entryAt]

theorem entryAt_eq_some {ws : List (Option WindowRecord)} {i : Nat} {w : WindowRecord} :
    entryAt ws i = some w ↔ ws[i]? = some (some w) := by
  simp [entryAt, Option.join_eq_some_iff]

theorem lt_length_of_entryAt {ws : List (Option WindowRecord)} {i : Nat} {w : WindowRecord} (h : entryAt ws i = some w) :
    i < ws.length := (List.getElem?_eq_some_iff.1 (entryAt_eq_some.1 h)).1

theorem entryAt_set_self {ws : List (Option WindowRecord)} {i : Nat} (hi : i < ws.length) (new : Option WindowRecord) :
    entryAt (ws.set i new) i = new := by
  simp [entryAt, hi]

theorem entryAt_set_of_ne {ws : List (Option WindowRecord)} {i j : Nat} (h : j ≠ i) (new : Option WindowRecord) :
    entryAt (ws.set i new) j = entryAt ws j := by
  simp [entryAt, List.getElem?_set_ne h.symm]

/-- The entry of lowest index whose record has a property, with its index counted from `n`. -/
def firstEntry (p : WindowRecord → Bool) : List (Option WindowRecord) → Nat → Option (Nat × WindowRecord)
  | [], _ => none
  | none :: ws, n => firstEntry p ws (n + 1)
  | some w :: ws, n => if p w then some (n, w) else firstEntry p ws (n + 1)

theorem roleWindow_eq_firstEntry (role : Role) (ws : List (Option WindowRecord)) (n : Nat) :
    roleWindow role ws n = firstEntry (fun w => w.enabled && w.role == role) ws n := by
  induction ws generalizing n with
  | nil => rfl
  | cons e ws ih => cases e <;> simp only [roleWindow, firstEntry, ih]

theorem decidingWindow_eq_firstEntry (addr : Nat) (ws : List (Option WindowRecord)) (n : Nat) :
    decidingWindow addr ws n = firstEntry (fun w => w.enabled && w.holds addr) ws n := by
  induction ws generalizing n with
  | nil => rfl
  | cons e ws ih => cases e <;> simp only [decidingWindow, firstEntry, ih]

theorem firstEntry_eq_some {p : WindowRecord → Bool} {ws : List (Option WindowRecord)} {n i : Nat} {w : WindowRecord} :
    firstEntry p ws n = some (i, w) ↔ ∃ k, i = n + k ∧ entryAt ws k = some w ∧ p w = true
      ∧ ∀ j v, j < k → entryAt ws j = some v → p v = false := by
  induction ws generalizing n with
  | nil => simp [firstEntry]
  | cons e ws ih =>
    -- the entry sought is the first one, or it is found behind a first one without the property
    have cut : (∃ k, i = n + k ∧ entryAt (e :: ws) k = some w ∧ p w = true
          ∧ ∀ j v, j < k → entryAt (e :: ws) j = some v → p v = false) ↔
        (i = n ∧ e = some w ∧ p w = true) ∨ firstEntry p ws (n + 1) = some (i, w) ∧ ∀ v, e = some v → p v = false := by
      rw [ih]
      constructor
      · rintro ⟨_ | k, hi, hw, hp, hl⟩
        · exact .inl ⟨hi, hw, hp⟩
        · exact .inr ⟨⟨k, by omega, by simpa using hw, hp, fun j v hj hv => hl (j + 1) v (by omega) (by simpa using hv)⟩,
            fun v hv => hl 0 v (by omega) hv⟩
      · rintro (⟨hi, hw, hp⟩ | ⟨⟨k, hi, hw, hp, hl⟩, h0⟩)
        · exact ⟨0, hi, hw, hp, by simp⟩
        · refine ⟨k + 1, by omega, by simpa using hw, hp, fun j v hj hv => ?_⟩
          cases j with
          | zero => exact h0 v hv
          | succ j => exact hl j v (by omega) (by simpa using hv)
    rw [cut]
    cases e with
    | none => simp [firstEntry]
    | some v =>
      simp only [firstEntry]
      cases hv : p v
      · simp [hv]
        rintro - rfl h
        simp [hv] at h
      · simp only [if_pos, Option.some.injEq, Prod.mk.injEq]
        constructor
        · rintro ⟨rfl, rfl⟩
          exact .inl ⟨rfl, rfl, hv⟩
        · rintro (⟨rfl, rfl, -⟩ | ⟨-, h⟩)
          · exact ⟨rfl, rfl⟩
          · simp [hv] at h

theorem firstEntry_eq_none {p : WindowRecord → Bool} {ws : List (Option WindowRecord)} {n : Nat} :
    firstEntry p ws n = none ↔ ∀ j v, entryAt ws j = some v → p v = false := by
  induction ws generalizing n with
  | nil => simp [firstEntry]
  | cons e ws ih =>
    have cut : (∀ j v, entryAt (e :: ws) j = some v → p v = false) ↔
        (∀ v, e = some v → p v = false) ∧ ∀ j v, entryAt ws j = some v → p v = false :=
      ⟨fun h => ⟨fun v hv => h 0 v hv, fun j v hv => h (j + 1) v (by simpa using hv)⟩,
        fun ⟨h0, h⟩ j v hv => by
          cases j with
          | zero => exact h0 v hv
          | succ j => exact h j v (by simpa using hv)⟩
    rw [cut]
    cases e with
    | none => simp [firstEntry, ih]
    | some v =>
      simp only [firstEntry]
      cases hv : p v <;> simp [hv, ih]

/-- The window of a role is the enabled entry of lowest index that holds it (R3). -/
theorem roleWindow_eq_some {role : Role} {ws : List (Option WindowRecord)} {n i : Nat} {w : WindowRecord} :
    roleWindow role ws n = some (i, w) ↔ ∃ k, i = n + k ∧ entryAt ws k = some w ∧ w.enabled = true ∧ w.role = role
      ∧ ∀ j v, j < k → entryAt ws j = some v → v.enabled = true → v.role ≠ role := by
  simp only [roleWindow_eq_firstEntry, firstEntry_eq_some, Bool.and_eq_true, beq_iff_eq, and_assoc,
    Bool.and_eq_false_imp, beq_eq_false_iff_ne]

/-- The deciding window of an address is the enabled entry of lowest index that holds it (R5). -/
theorem decidingWindow_eq_some {addr : Nat} {ws : List (Option WindowRecord)} {n i : Nat} {w : WindowRecord} :
    decidingWindow addr ws n = some (i, w) ↔ ∃ k, i = n + k ∧ entryAt ws k = some w ∧ w.enabled = true
      ∧ w.holds addr = true ∧ ∀ j v, j < k → entryAt ws j = some v → v.enabled = true → v.holds addr = false := by
  simp only [decidingWindow_eq_firstEntry, firstEntry_eq_some, Bool.and_eq_true, and_assoc, Bool.and_eq_false_imp]

theorem State.window_eq_some {s : State} {role : Role} {w : WindowRecord} :
    s.window role = some w ↔ ∃ i, roleWindow role s.path.windows 0 = some (i, w) := by
  simp [State.window]

/-- The window of a role is an enabled entry that holds it. -/
theorem State.entry_of_window {s : State} {role : Role} {w : WindowRecord} (h : s.window role = some w) :
    ∃ i, s.entry i = some w ∧ w.enabled = true ∧ w.role = role := by
  obtain ⟨i, hi⟩ := State.window_eq_some.1 h
  obtain ⟨k, -, hw, he, hr, -⟩ := roleWindow_eq_some.1 hi
  exact ⟨k, hw, he, hr⟩

/-- Replacing an entry by another changes nothing for a role that neither holds. -/
theorem roleWindow_set {role : Role} {ws : List (Option WindowRecord)} {i : Nat} {new : Option WindowRecord} {n : Nat}
    (ho : ∀ w, entryAt ws i = some w → w.role ≠ role) (hn : ∀ w, new = some w → w.role ≠ role) :
    roleWindow role (ws.set i new) n = roleWindow role ws n := by
  induction ws generalizing i n with
  | nil => rfl
  | cons e ws ih =>
    cases i with
    | zero =>
      have skip : ∀ e : Option WindowRecord, (∀ w, e = some w → w.role ≠ role) →
          roleWindow role (e :: ws) n = roleWindow role ws (n + 1) := by
        intro e he
        cases e with
        | none => rfl
        | some w => simp [roleWindow, he w rfl]
      rw [List.set_cons_zero, skip new hn, skip e ho]
    | succ i =>
      have ih := ih (i := i) (n := n + 1) (by simpa using ho)
      rw [List.set_cons_succ]
      cases e <;> simp only [roleWindow, ih]

/-! ### The checks of the table (R18) -/

/-- The table passes R18's checks: TableInv without the held reports. -/
def TableOk (ws : List (Option WindowRecord)) : Prop :=
  ws.length = 16 ∧ (∃ w, entryAt ws 0 = some w ∧ commandEntry w = true) ∧ (∀ i w, entryAt ws i = some w → w.wf = true)
    ∧ ∀ i j w v, entryAt ws i = some w → entryAt ws j = some v → w.role = v.role → w.role ≠ .pass → i = j

theorem tableInv_iff {s : State} : TableInv s ↔ TableOk s.path.windows ∧ HeldMovable s.command := by
  simp only [TableInv, TableOk, HeldMovable, entry_eq_entryAt, and_assoc]

/-- A replaced entry keeps the table's checks when the new record passes them, holds no role that another entry holds, and is
a command window at index 0. -/
theorem TableOk.set {ws : List (Option WindowRecord)} {i : Nat} {new : Option WindowRecord} (h : TableOk ws)
    (h0 : i = 0 → ∃ w, new = some w ∧ commandEntry w = true) (hw : ∀ w, new = some w → w.wf = true)
    (hr : ∀ w j v, new = some w → w.role ≠ .pass → j ≠ i → entryAt ws j = some v → v.role ≠ w.role) :
    TableOk (ws.set i new) := by
  obtain ⟨hl, hc, hwf, hu⟩ := h
  have at_set : ∀ j w, entryAt (ws.set i new) j = some w → j = i ∧ new = some w ∨ j ≠ i ∧ entryAt ws j = some w := by
    intro j w hj
    by_cases hji : j = i
    · subst hji
      have := lt_length_of_entryAt hj
      rw [entryAt_set_self (by simpa using this)] at hj
      exact .inl ⟨rfl, hj⟩
    · exact .inr ⟨hji, by rwa [entryAt_set_of_ne hji] at hj⟩
  refine ⟨by simpa using hl, ?_, ?_, ?_⟩
  · by_cases hi : i = 0
    · subst hi
      obtain ⟨w, hn, hcw⟩ := h0 rfl
      exact ⟨w, by rw [entryAt_set_self (by omega), hn], hcw⟩
    · rwa [entryAt_set_of_ne (Ne.symm hi)]
  · intro j w hj
    rcases at_set j w hj with ⟨-, h⟩ | ⟨-, h⟩
    · exact hw w h
    · exact hwf j w h
  · intro j k w v hj hk hrole hp
    rcases at_set j w hj with ⟨rfl, h⟩ | ⟨hji, h⟩ <;> rcases at_set k v hk with ⟨rfl, h'⟩ | ⟨hki, h'⟩
    · rfl
    · exact absurd hrole.symm (hr w k v h hp hki h')
    · exact absurd hrole (hr v j w h' (hrole ▸ hp) hji h)
    · exact hu j k w v h h' hrole hp

/-- Entry 0 replaced by a command window that passes the checks (R20). -/
theorem TableOk.set_command {ws : List (Option WindowRecord)} {w : WindowRecord} (h : TableOk ws)
    (hm : movable (some w) = true) : TableOk (ws.set 0 (some w)) := by
  simp only [movable, Bool.and_eq_true] at hm
  have role : ∀ v, commandEntry v = true → v.role = .command := fun v hv => by
    simp only [commandEntry, Bool.and_eq_true, beq_iff_eq] at hv
    exact hv.1.1
  refine h.set (fun _ => ⟨w, rfl, hm.1⟩) (fun v hv => by cases hv; exact hm.2) fun v j x hv hp hj hx => ?_
  cases hv
  obtain ⟨-, ⟨c, hc, hcc⟩, -, hu⟩ := h
  intro hrole
  rw [role w hm.1] at hrole
  exact hj (hu j 0 x c hx hc (by rw [hrole, role c hcc]) (by rw [hrole]; decide))

/-- With a table that passes its checks, an enabled entry of a role other than PASS is the window of that role (R3, R18). -/
theorem TableOk.window_unique {s : State} (h : TableOk s.path.windows) {role : Role} {w : WindowRecord} {i : Nat}
    (hp : role ≠ .pass) (hi : s.entry i = some w) (hr : w.role = role) (he : w.enabled = true) :
    s.window role = some w := by
  obtain ⟨-, -, -, hu⟩ := h
  refine State.window_eq_some.2 ⟨i, roleWindow_eq_some.2 ⟨i, by omega, hi, he, hr, fun j v hj hv _ hrole => ?_⟩⟩
  have := hu j i v w hv hi (hrole.trans hr.symm) (by rw [hrole]; exact hp)
  omega

end Sys2Proof.Machine
end

section
/-! SUPPORT. The invariants of the window table, the frame tracker and the report unit as one relation between a state and a
later one, so that each step is a chain of operations that keep all six. -/

namespace Sys2Proof.Machine

/-! ### The queues of the path unit -/

/-- How many beats a request at the memory-side port asks to read. -/
def MemoryRequest.asks : Option MemoryRequest → Nat
  | some (.pass b) => match b.body with
    | .read len _ => len
    | .write _ => 0
  | _ => 0

/-- The queues of the path unit are within their lengths and in their order: the path unit's part of QueueInv. -/
def PathQueues (p : PathUnit) : Prop :=
  p.passQueue.length ≤ 16 ∧ p.injected.length ≤ 8 ∧ reportsFirst p.injected = true ∧ p.arbiterCount ≤ 4
    ∧ (∀ w ∈ p.injected, w.tag = 15) ∧ (∀ w, p.atMemory = some (.injected w) → w.tag = 15)
    ∧ (p.beatsBack = [] ∨ p.beatsBack.length < MemoryRequest.asks p.atMemory)

theorem readAtMemory_eq (s : State) : readAtMemory s = MemoryRequest.asks s.path.atMemory := by
  unfold readAtMemory MemoryRequest.asks
  rcases s.path.atMemory with _ | ⟨_, _, _, _, body⟩ | w
  · rfl
  · cases body <;> rfl
  · rfl

theorem queueInv_iff {s : State} : QueueInv s ↔ PathQueues s.path ∧ ReportQueues s.report s.command := by
  simp only [QueueInv, PathQueues, ReportQueues, readAtMemory_eq]
  tauto

/-! ### The relation -/

/-- From `s` to `t` the invariants that do not hang on the windows are kept. -/
structure QueuesKept (s t : State) : Prop where
  attn : AttnInv s → AttnInv t
  queue : QueueInv s → QueueInv t
  history : HistoryInv s → HistoryInv t
  timecode : TimecodeInv s → TimecodeInv t

/-- From `s` to `t` each of the six invariants is kept. -/
structure InvKept (s t : State) : Prop extends QueuesKept s t where
  table : TableInv s → TableInv t
  crop : CropInv s → CropInv t

theorem QueuesKept.refl (s : State) : QueuesKept s s := ⟨id, id, id, id⟩

theorem QueuesKept.trans {s t u : State} (h : QueuesKept s t) (k : QueuesKept t u) : QueuesKept s u :=
  ⟨k.attn ∘ h.attn, k.queue ∘ h.queue, k.history ∘ h.history, k.timecode ∘ h.timecode⟩

theorem InvKept.refl (s : State) : InvKept s s := ⟨.refl s, id, id⟩

theorem InvKept.trans {s t u : State} (h : InvKept s t) (k : InvKept t u) : InvKept s u :=
  ⟨h.toQueuesKept.trans k.toQueuesKept, k.table ∘ h.table, k.crop ∘ h.crop⟩

/-- What a held report moves is known sound in a state with a well-formed table alone. -/
theorem InvKept.of_table {s t : State} (h : QueuesKept s t) (k : TableInv s → InvKept s t) : InvKept s t :=
  ⟨h, fun ht => (k ht).table ht, fun hc => (k hc.1).crop hc⟩

/-- With the same windows, the geometry in use is the same. -/
theorem geometry_congr {s t : State} (h : t.path.windows = s.path.windows) : t.geometry = s.geometry := by
  simp only [State.geometry, State.window, h]

/-- The windows and the frame tracker being left alone, the six invariants hang on the queues and the record timecode. -/
theorem InvKept.of_frame {s t : State} (hw : t.path.windows = s.path.windows) (hq : PathQueues s.path → PathQueues t.path)
    (hf : t.frame = s.frame) (ht : t.record.timecode = s.record.timecode)
    (hk : ReportsKept s.report s.command t.report t.command) : InvKept s t := by
  have table : TableInv s → TableInv t := fun h => by
    rw [tableInv_iff] at h ⊢
    exact ⟨hw ▸ h.1, hk.2.2 h.2⟩
  exact {
    attn := hk.1
    queue := fun h => by
      rw [queueInv_iff] at h ⊢
      exact ⟨hq h.1, hk.2.1 h.2⟩
    table := table
    crop := fun h => ⟨table h.1, by rw [geometry_congr hw, hf]; exact h.2⟩
    history := by simp only [HistoryInv, hf]; exact id
    timecode := by simp only [TimecodeInv, hf, ht]; exact id }

/-- The path unit and the frame tracker being left alone, the six invariants are kept. -/
theorem InvKept.of_quiet {s t : State} (hp : t.path = s.path) (hf : t.frame = s.frame)
    (ht : t.record.timecode = s.record.timecode) (hk : ReportsKept s.report s.command t.report t.command) : InvKept s t :=
  .of_frame (by rw [hp]) (by rw [hp]; exact id) hf ht hk

theorem Quiet.invKept {s : State} {x : State × Completion} (h : Quiet s x) : InvKept s x.1 :=
  .of_quiet h.1 h.2.1 h.2.2.1 h.2.2.2.2

/-- A change of the path unit's queues alone keeps the six invariants. -/
theorem InvKept.of_path {s : State} {p : PathUnit} (hw : p.windows = s.path.windows)
    (hq : PathQueues s.path → PathQueues p) : InvKept s { s with path := p } :=
  .of_frame hw hq rfl rfl (.refl ..)

/-- A change of the path unit's queues alone, and then an operation that keeps the six invariants. -/
theorem InvKept.after_path {s t : State} {p : PathUnit} (hw : p.windows = s.path.windows)
    (hq : PathQueues s.path → PathQueues p) (h : InvKept { s with path := p } t) : InvKept s t :=
  (InvKept.of_path hw hq).trans h

/-! ### The command window's move, and the offer of any report -/

/-- A new record for an entry keeps the crop when neither it nor the old one is a FRAME window. -/
theorem geometry_set {s t : State} {i : Nat} {new : Option WindowRecord}
    (ht : t.path.windows = s.path.windows.set i new) (ho : ∀ w, s.entry i = some w → w.role ≠ .frame)
    (hn : ∀ w, new = some w → w.role ≠ .frame) : t.geometry = s.geometry := by
  simp only [State.geometry, State.window, ht, roleWindow_set (fun w hw => ho w hw) hn]

theorem role_of_commandEntry {w : WindowRecord} (h : commandEntry w = true) : w.role = .command := by
  simp only [commandEntry, Bool.and_eq_true, beq_iff_eq] at h
  exact h.1.1

/-- The command window's move to a record that may stand in entry 0 (R20). -/
theorem moveCommandWindow_invKept {w : WindowRecord} (hm : movable (some w) = true) (s : State) :
    InvKept s (moveCommandWindow w s) := by
  have table : TableInv s → TableInv (moveCommandWindow w s) := fun h => by
    rw [tableInv_iff] at h ⊢
    exact ⟨h.1.set_command hm, h.2⟩
  refine ⟨⟨id, id, id, id⟩, table, fun h => ⟨table h.1, ?_⟩⟩
  obtain ⟨-, ⟨c, hc, hcc⟩, -⟩ := h.1
  have hg : (moveCommandWindow w s).geometry = s.geometry :=
    geometry_set rfl (fun v hv => by
      rw [hc] at hv; cases hv
      rw [role_of_commandEntry hcc]; decide) fun v hv => by
        cases hv
        simp only [movable, Bool.and_eq_true] at hm
        rw [role_of_commandEntry hm.1]; decide
  rw [hg]
  exact h.2

theorem applyMove_invKept {r : Report} (hm : movable r.moves = true) (s : State) : InvKept s (applyMove r s) := by
  unfold applyMove
  split
  · exact moveCommandWindow_invKept hm s
  · exact .refl s

/-- Whatever a report moves, the invariants that do not hang on the windows are kept. -/
theorem applyMove_queuesKept (r : Report) (s : State) : QueuesKept s (applyMove r s) := by
  unfold applyMove
  split <;> exact ⟨id, id, id, id⟩

theorem applyMove_pathQueues (r : Report) {s : State} (h : PathQueues s.path) : PathQueues (applyMove r s).path := by
  unfold applyMove
  split <;> exact h

/-- A report joins a queue that has room (R196), before its move is made. -/
theorem queueReport_invKept (r : Report) {s : State} (hl : s.report.queue.length < 16) :
    InvKept s { s with report := { s.report with queue := s.report.queue ++ [r] } } :=
  .of_quiet rfl rfl rfl ⟨id, fun h => h.enqueue hl r, id⟩

theorem enqueueReport_queuesKept (r : Report) {s : State} (hl : s.report.queue.length < 16) :
    QueuesKept s (enqueueReport r s) :=
  (queueReport_invKept r hl).toQueuesKept.trans (applyMove_queuesKept r _)

theorem enqueueReport_invKept {r : Report} (hm : movable r.moves = true) {s : State} (hl : s.report.queue.length < 16) :
    InvKept s (enqueueReport r s) :=
  (queueReport_invKept r hl).trans (applyMove_invKept hm _)

/-- The offer of a report keeps the six invariants when what it may move entry 0 to may stand there. -/
theorem offer_invKept {r : Report} (hm : movable r.moves = true) (s : State) : InvKept s (offer r s) := by
  have hk : ReportsKept s.report s.command (offer r s).report (offer r s).command :=
    offer_reports_of_movable hm (.refl ..)
  rcases offer_cases r s with ⟨-, h⟩ | ⟨hl, h⟩ | ⟨_, _, _, _, -, -, h⟩ | h <;> rw [h] at hk ⊢
  · exact applyMove_invKept hm s
  · exact enqueueReport_invKept hm hl
  · exact .of_quiet (by simp) (by simp) (by simp) hk
  · exact .of_quiet rfl rfl rfl hk

/-! ### The execution of a command (R190) -/

theorem popCommand_invKept (s : State) : InvKept s (popCommand s) :=
  .of_quiet rfl rfl rfl ⟨id, fun ⟨hq, hc, he, hs, hd⟩ => ⟨hq, by simp [popCommand]; omega, he, hs, hd⟩, id⟩

/-- A command is executed with no report held (R190). -/
theorem held_of_nextCommand {s : State} {r : CommandRecord} (h : nextCommand s = some r) : s.command.held = [] := by
  unfold nextCommand at h
  split at h
  · simpa using ‹s.command.held.isEmpty = true›
  · cases h

/-- The execution of a command keeps the six invariants when its meaning does, on a state that holds no report, and what its
completion moves entry 0 to may stand there. -/
theorem runCommand_invKept {accepts : CommandRecord → Bool} {body : CommandRecord → State → State × Completion}
    (h : ∀ r s, s.command.held = [] → InvKept s (body r s).1 ∧ movable (body r s).2.moves = true) (s : State) :
    InvKept s (runCommand accepts body s) := by
  unfold runCommand
  split
  · rename_i r hr
    split
    · have held : s.command.held = [] := held_of_nextCommand hr
      obtain ⟨hb, hm⟩ := h r (popCommand s) held
      exact ((popCommand_invKept s).trans hb).trans
        (offer_invKept (r := completionReport r (body r (popCommand s)).2) hm _)
    · exact .refl s
  · exact .refl s

theorem runCommand_invKept_of_quiet {accepts : CommandRecord → Bool} {body : CommandRecord → State → State × Completion}
    (h : ∀ r s, Quiet s (body r s)) (s : State) : InvKept s (runCommand accepts body s) :=
  runCommand_invKept (fun r s _ => ⟨(h r s).invKept, by rw [(h r s).2.2.2.1]; rfl⟩) s

end Sys2Proof.Machine
end

section
/-! SUPPORT. The path unit's own steps and the commands on its windows keep the window table, the queues and the frame tracker
in order. -/

namespace Sys2Proof.Machine

/-! ### The injected-write queue (R14, R15) -/

theorem reportsFirst_append_metadata {ws : List InjectedWrite} (h : reportsFirst ws = true) {w : InjectedWrite}
    (hw : w.kind = .metadata) : reportsFirst (ws ++ [w]) = true := by
  induction ws with
  | nil => simp [reportsFirst, hw]
  | cons v ws ih =>
    simp only [reportsFirst, List.cons_append] at h ⊢
    split
    · simp_all
    · exact ih (by simp_all)

theorem reportsFirst_tail {w : InjectedWrite} {ws : List InjectedWrite} (h : reportsFirst (w :: ws) = true) :
    reportsFirst ws = true := by
  have all : (∀ v ∈ ws, v.kind = .metadata) → reportsFirst ws = true := by
    intro hv
    cases ws with
    | nil => rfl
    | cons v ws => simp_all [reportsFirst]
  simp only [reportsFirst] at h
  split at h
  · exact all (by simpa using h)
  · exact h

theorem reportsFirst_map_slot (ws : List InjectedWrite) :
    reportsFirst (ws.map fun w => { w with slot := none }) = reportsFirst ws := by
  induction ws with
  | nil => rfl
  | cons w ws ih => simp [reportsFirst, ih, Function.comp_def]

theorem reportsFirst_insertReportWrite {w : InjectedWrite} (hw : w.kind ≠ .metadata) {ws : List InjectedWrite}
    (h : reportsFirst ws = true) : reportsFirst (insertReportWrite w ws) = true := by
  induction ws with
  | nil => simp [insertReportWrite, reportsFirst]
  | cons v ws ih =>
    simp only [insertReportWrite]
    split
    · simpa [reportsFirst, hw] using h
    · rename_i hv
      simp only [reportsFirst, if_neg hv] at h ⊢
      exact ih h

theorem length_insertReportWrite (w : InjectedWrite) (ws : List InjectedWrite) :
    (insertReportWrite w ws).length = ws.length + 1 := by
  induction ws with
  | nil => rfl
  | cons v ws ih => simp only [insertReportWrite]; split <;> simp [ih]

theorem mem_insertReportWrite {w v : InjectedWrite} {ws : List InjectedWrite} (h : v ∈ insertReportWrite w ws) :
    v = w ∨ v ∈ ws := by
  induction ws with
  | nil => simpa [insertReportWrite] using h
  | cons x ws ih =>
    simp only [insertReportWrite] at h
    split at h
    · simpa using h
    · rcases List.mem_cons.1 h with h | h
      · exact .inr (by simp [h])
      · exact (ih h).imp id fun h => List.mem_cons_of_mem _ h

/-- A metadata write joins at the end of an injected-write queue with a place (R15, R183). -/
theorem PathQueues.join {p : PathUnit} (h : PathQueues p) (hl : p.injected.length < 8) {w : InjectedWrite}
    (hw : w.kind = .metadata) (ht : w.tag = 15) : PathQueues { p with injected := p.injected ++ [w] } := by
  obtain ⟨hp, hi, hr, ha, hg, hm, hb⟩ := h
  refine ⟨hp, by simp; omega, reportsFirst_append_metadata hr hw, ha, fun v hv => ?_, hm, hb⟩
  rcases List.mem_append.1 hv with hv | hv
  · exact hg v hv
  · rw [List.mem_singleton.1 hv, ht]

/-- A report write joins an injected-write queue with a place, ahead of the metadata writes (R15). -/
theorem PathQueues.insert {p : PathUnit} (h : PathQueues p) (hl : p.injected.length < 8) {w : InjectedWrite}
    (hw : w.kind ≠ .metadata) (ht : w.tag = 15) : PathQueues { p with injected := insertReportWrite w p.injected } := by
  obtain ⟨hp, hi, hr, ha, hg, hm, hb⟩ := h
  refine ⟨hp, by simp [length_insertReportWrite]; omega, reportsFirst_insertReportWrite hw hr, ha, fun v hv => ?_, hm, hb⟩
  rcases mem_insertReportWrite hv with rfl | hv
  · exact ht
  · exact hg v hv

/-- The report writes lose their slot when a ring starts or ends (R194). -/
theorem PathQueues.clearSlots {p : PathUnit} (h : PathQueues p) :
    PathQueues { p with injected := p.injected.map fun w => { w with slot := none } } := by
  obtain ⟨hp, hi, hr, ha, hg, hm, hb⟩ := h
  exact ⟨hp, by simpa using hi, by simpa [reportsFirst_map_slot] using hr, ha, by simpa using hg, hm, hb⟩

/-- A burst joins a pass-through queue with a place (R1). -/
theorem PathQueues.forward {s : State} (h : PathQueues s.path) (hl : s.path.passQueue.length < 16) (tag : BitVec 4)
    (issued addr : Nat) (body : PassBody) : PathQueues (forwardBurst tag issued addr body s).path := by
  obtain ⟨-, h⟩ := h
  exact ⟨by simp [forwardBurst]; omega, h⟩

/-! ### The metadata writer (R178, R183) -/

theorem joinMetadata_invKept (w : WindowRecord) (bs : List Byte) {s : State} (hl : s.path.injected.length < 8) :
    InvKept s (joinMetadata w bs s) :=
  .of_frame rfl (fun h => h.join hl rfl rfl) rfl rfl (.refl ..)

/-- A mark's record joins a queue with a place, or waits: the windows stay and the queues stay in order. -/
theorem metadataMark_path (d : MarkData) (s : State) : (metadataMark d s).path.windows = s.path.windows
    ∧ (PathQueues s.path → PathQueues (metadataMark d s).path) := by
  simp only [metadataMark, queueMetadata]
  split
  · split
    · rename_i hl
      simp only [Bool.and_eq_true, decide_eq_true_eq] at hl
      exact ⟨rfl, fun h => h.join hl.2 rfl rfl⟩
    · exact ⟨rfl, id⟩
  · exact ⟨rfl, id⟩

/-- A mark's record changes no queue of the path unit but that of the injected writes. -/
theorem metadataMark_injected (d : MarkData) (s : State) : ∃ q, (metadataMark d s).path = { s.path with injected := q } := by
  simp only [metadataMark, queueMetadata]
  repeat' split
  · exact ⟨_, rfl⟩
  all_goals exact ⟨s.path.injected, rfl⟩

theorem waitingMetadataJoins_invKept (s : State) : InvKept s (waitingMetadataJoins s) := by
  unfold waitingMetadataJoins
  split
  · split
    · rename_i hl
      simp only [Bool.and_eq_true, decide_eq_true_eq] at hl
      exact .of_frame rfl (fun h => h.join hl.1 rfl rfl) rfl rfl (.refl ..)
    · exact .refl s
  · exact .refl s

/-! ### The report ring and the report queue (R194 to R198) -/

theorem startReportRing_invKept (s : State) : InvKept s (startReportRing s) :=
  .of_frame rfl PathQueues.clearSlots rfl rfl
    ⟨id, fun ⟨hq, hc, he, _, hd⟩ => ⟨hq, hc, he, by simp [startReportRing, slotsSorted], hd⟩, id⟩

/-- The held reports' moves are made one after another (R20). -/
theorem foldl_applyMove_invKept {rs : List Report} (s : State) (hm : ∀ r ∈ rs, movable r.moves = true) :
    InvKept s (rs.foldl (fun s r => applyMove r s) s) := by
  induction rs generalizing s with
  | nil => exact .refl s
  | cons r rs ih =>
    exact (applyMove_invKept (hm r List.mem_cons_self) s).trans
      (ih (applyMove r s) fun q hq => hm q (List.mem_cons_of_mem r hq))

theorem foldl_applyMove_queuesKept (rs : List Report) (s : State) :
    QueuesKept s (rs.foldl (fun s r => applyMove r s) s) := by
  induction rs generalizing s with
  | nil => exact .refl s
  | cons r rs ih => exact (applyMove_queuesKept r s).trans (ih _)

/-- The REPORT window's end discards every report, a held completion moving the command window then (R198, R20). -/
theorem discardReports_invKept (s : State) : InvKept s (discardReports s) := by
  let t : State := { s with
    report := { s.report with queue := [], drop := none, lost := false, slots := [] }
    command := { s.command with held := [] }
    path := { s.path with injected := s.path.injected.map fun w => { w with slot := none } } }
  have ht : InvKept s t := .of_frame rfl PathQueues.clearSlots rfl rfl
    ⟨id, fun ⟨_, hc, he, _, _⟩ => ⟨by simp [t], hc, he, by simp [t, slotsSorted], by simp [t]⟩, by simp [HeldMovable, t]⟩
  exact .of_table (ht.toQueuesKept.trans (foldl_applyMove_queuesKept s.command.held t))
    fun h => ht.trans (foldl_applyMove_invKept t (tableInv_iff.1 h).2)

/-- The first report takes the next slot: one report fewer, one report write more (R194, R196). -/
theorem takeSlot_path (w : WindowRecord) (r : Report) (rest : List Report) (s : State) :
    (takeSlot w r rest s).path.windows = s.path.windows
      ∧ (s.path.injected.length < 8 → PathQueues s.path → PathQueues (takeSlot w r rest s).path) :=
  ⟨rfl, fun hl h => h.insert hl (by cases r <;> simp [Report.recordKind]) rfl⟩

theorem takeSlot_report (w : WindowRecord) (r : Report) (rest : List Report) (s : State) :
    (takeSlot w r rest s).report.queue = rest ∧ (takeSlot w r rest s).report.drop = s.report.drop
      ∧ (takeSlot w r rest s).report.events = s.report.events ∧ (takeSlot w r rest s).report.attn = s.report.attn
      ∧ (takeSlot w r rest s).report.quietEnd = s.report.quietEnd
      ∧ (takeSlot w r rest s).report.slots = setSlot s.report.slots s.report.nextSlot .queued := by
  simp only [takeSlot, advanceSlot]
  split <;> simp

/-- A place is given to the drop report, else to the oldest held report, as far as the report queue has one (R197). -/
theorem placeGiven_cases (s : State) : placeGiven s = s
    ∨ s.report.queue.length < 16 ∧ ((∃ d, s.report.drop = some d ∧ placeGiven s = dropReportJoins d s)
      ∨ ∃ r rest, s.report.drop = none ∧ s.command.held = r :: rest
        ∧ placeGiven s = enqueueReport r { s with command := { s.command with held := rest } }) := by
  unfold placeGiven
  split
  · rename_i h
    simp only [Bool.and_eq_true, decide_eq_true_eq] at h
    split
    · exact .inr ⟨h.2, .inl ⟨_, by assumption, rfl⟩⟩
    · exact .inr ⟨h.2, .inr ⟨_, _, by assumption, by assumption, rfl⟩⟩
    · exact .inl rfl
  · exact .inl rfl

/-- With the report queue full, a place given changes nothing; otherwise it goes to a drop report or to a held one. -/
theorem placeGiven_invKept (s : State) : InvKept s (placeGiven s) := by
  rcases placeGiven_cases s with h | ⟨hl, ⟨d, -, h⟩ | ⟨r, rest, -, hr, h⟩⟩ <;> rw [h]
  · exact .refl s
  · have hd : InvKept s { s with report := { s.report with drop := none } } := .of_quiet rfl rfl rfl
      ⟨id, fun ⟨hq, hc, he, hs, hd⟩ => ⟨hq, hc, he, hs, fun hw => hd (.inr (by simpa using hw))⟩, id⟩
    exact hd.trans (enqueueReport_invKept rfl hl)
  · have hh : InvKept s { s with command := { s.command with held := rest } } := .of_quiet rfl rfl rfl
      ⟨id, fun ⟨hq, hc, he, hs, hd⟩ => ⟨hq, hc, he, hs, fun hw => hd (.inr (by simp [hr]))⟩,
        fun hm q hq => hm q (by simp [hr, show q ∈ rest from hq])⟩
    exact .of_table (hh.toQueuesKept.trans (enqueueReport_queuesKept r hl))
      fun ht => hh.trans (enqueueReport_invKept ((tableInv_iff.1 ht).2 r (by simp [hr])) hl)

theorem placeGiven_pathQueues {s : State} (h : PathQueues s.path) : PathQueues (placeGiven s).path := by
  rcases placeGiven_cases s with hp | ⟨-, ⟨d, -, hp⟩ | ⟨r, rest, -, -, hp⟩⟩ <;> rw [hp]
  · exact h
  · exact applyMove_pathQueues _ h
  · exact applyMove_pathQueues _ h

/-- A place that stands open beside a waiting report, one short of full, is given (R197). -/
theorem placeGiven_reportQueues {s : State} (hw : (s.window .report).isSome = true) (hq : s.report.queue.length ≤ 16)
    (hc : s.command.queue.length ≤ 8) (he : s.report.events.length = 25) (hs : slotsSorted s.report.slots)
    (hd : s.report.drop.isSome = true ∨ s.command.held ≠ [] → 15 ≤ s.report.queue.length) :
    ReportQueues (placeGiven s).report (placeGiven s).command := by
  unfold placeGiven
  by_cases hl : s.report.queue.length < 16
  · rw [if_pos (by simp [hw, hl])]
    split
    · rename_i d hdr
      have := hd (.inl (by simp [hdr]))
      rw [dropReportJoins, enqueueReport_report]
      exact ⟨by simp; omega, by simpa using hc, he, hs, fun _ => by simp; omega⟩
    · rename_i r rest hdr hh
      have := hd (.inr (by simp [hh]))
      rw [enqueueReport_report]
      exact ⟨by simp; omega, by simpa using hc, he, hs, fun _ => by simp; omega⟩
    · rename_i hdr hh
      exact ⟨by omega, hc, he, hs, by simp [hdr, hh]⟩
  · rw [if_neg (by simp [hl])]
    exact ⟨hq, hc, he, hs, fun _ => by omega⟩

/-- The first report's departure keeps all: the place it opens is given within it (R196, R197). -/
theorem reportLeaves_invKept (s : State) : InvKept s (reportLeaves s) := by
  unfold reportLeaves
  split
  · rename_i w r rest hw hr
    split
    · rename_i hl
      simp only [reportCanLeave, Bool.and_eq_true, decide_eq_true_eq] at hl
      obtain ⟨hwin, hpath⟩ := takeSlot_path w r rest s
      obtain ⟨hq, hdr, he, ha, hqe, hs⟩ := takeSlot_report w r rest s
      have hg := placeGiven_invKept (takeSlot w r rest s)
      have table : TableInv s → TableInv (takeSlot w r rest s) := fun h => by
        rw [tableInv_iff] at h ⊢
        exact h
      exact {
        attn := fun h => hg.attn (by simpa [AttnInv, attnCondition, ha, he, hqe] using h)
        queue := fun h => by
          rw [queueInv_iff] at h ⊢
          obtain ⟨hp, hrq, hcq, hev, hsl, hd⟩ := h
          rw [hr, List.length_cons] at hrq hd
          refine ⟨placeGiven_pathQueues (hpath hl.2 hp), placeGiven_reportQueues ?_ ?_ ?_ ?_ ?_ ?_⟩
          · exact hl.1.1.1
          · rw [hq]; omega
          · exact hcq
          · rw [he]; exact hev
          · rw [hs]; exact setSlot_sorted _ _ hsl
          · intro hw
            have := hd (by rwa [hdr] at hw)
            rw [hq]; omega
        table := fun h => hg.table (table h)
        crop := fun h => hg.crop ⟨table h.1, h.2⟩
        history := hg.history
        timecode := hg.timecode }
    · exact .refl s
  · exact .refl s

end Sys2Proof.Machine
end

section
/-! SUPPORT. The commands on the window table (R18 to R21, R152) and on the timecode (R32, R37, R38) keep the table's checks and
the labels. -/

namespace Sys2Proof.Machine

/-- A list of checks refuses nothing exactly when none of them fails (R190). -/
theorem firstRefusal_eq_none {l : List (Bool × Status)} : firstRefusal l = none ↔ ∀ p ∈ l, p.1 = false := by
  induction l with
  | nil => simp [firstRefusal]
  | cons p l ih =>
    obtain ⟨failed, st⟩ := p
    cases failed <;> simp [firstRefusal, ih]

/-! ### A replaced entry (R21) -/

theorem newRing_invKept (s : State) : InvKept s (newRing s) := .of_quiet rfl rfl rfl (.refl ..)

theorem restartMetadata_invKept (s : State) : InvKept s (restartMetadata s) := .of_quiet rfl rfl rfl (.refl ..)

theorem emptyHistory_history (s : State) : HistoryInv (emptyHistory s) := ⟨by simp [emptyHistory], rfl, by simp [emptyHistory]⟩

theorem emptyHistory_invKept (s : State) : InvKept s (emptyHistory s) :=
  ⟨⟨id, id, fun _ => emptyHistory_history s, id⟩, id, fun h => ⟨h.1, by simp [emptyHistory]⟩⟩

/-- What a change of an entry does beyond the FRAME window's history. -/
theorem windowChanged_eq (old new : Option WindowRecord) (s : State) : ∃ t, InvKept t (windowChanged old new s)
    ∧ t = if entryIs .frame old || entryIs .frame new then emptyHistory s else s := by
  have opt : ∀ (c : Bool) (f : State → State) (s : State), InvKept s (f s) → InvKept s (if c then f s else s) :=
    fun c f s h => by cases c <;> simp [h, InvKept.refl]
  have ring : ∀ s, InvKept s (if (s.window .report).isSome then startReportRing s else discardReports s) := fun s => by
    split
    · exact startReportRing_invKept s
    · exact discardReports_invKept s
  refine ⟨_, ?_, rfl⟩
  simp only [windowChanged]
  exact ((opt _ newRing _ (newRing_invKept _)).trans (opt _
    (fun s => if (s.window .report).isSome then startReportRing s else discardReports s) _ (ring _))).trans
    (opt _ restartMetadata _ (restartMetadata_invKept _))

theorem entryIs_iff {role : Role} {e : Option WindowRecord} : entryIs role e = true ↔ ∃ w, e = some w ∧ w.role = role := by
  cases e <;> simp [entryIs]

/-- An entry is replaced by a record that may stand there (R20, R21). -/
theorem replaceEntry_invKept {i : Nat} {new : Option WindowRecord} {s : State} (hi : i ≠ 0)
    (hw : ∀ w, new = some w → w.wf = true)
    (hr : ∀ w j v, new = some w → w.role ≠ .pass → j ≠ i → s.entry j = some v → v.role ≠ w.role) :
    InvKept s (replaceEntry i new s) := by
  let u : State := { s with path := { s.path with windows := s.path.windows.set i new } }
  obtain ⟨t, ht, htu⟩ := windowChanged_eq (s.entry i) new u
  refine InvKept.trans ?_ ht
  have table : TableInv s → TableInv u := fun h => by
    rw [tableInv_iff] at h ⊢
    exact ⟨h.1.set (fun h => absurd h hi) hw hr, h.2⟩
  have queues : QueuesKept s u := ⟨id, id, id, id⟩
  by_cases hf : (entryIs .frame (s.entry i) || entryIs .frame new) = true
  · rw [htu, if_pos hf]
    have he := emptyHistory_invKept u
    exact ⟨queues.trans he.toQueuesKept, fun h => he.table (table h), fun h => ⟨he.table (table h.1), by simp [emptyHistory]⟩⟩
  · rw [htu, if_neg hf]
    simp only [Bool.or_eq_true, entryIs_iff, not_or, not_exists, not_and] at hf
    have hg : u.geometry = s.geometry := geometry_set (i := i) (new := new) rfl (fun w hw => hf.1 w hw) fun w hw => hf.2 w hw
    exact ⟨queues, table, fun h => ⟨table h.1, by rw [hg]; exact h.2⟩⟩

/-! ### SET WINDOW and CLEAR WINDOW (R18, R19) -/

theorem masksShare_take {masks : List Half} (h : masksShare masks = false) (k : Nat) : masksShare (masks.take k) = false := by
  induction masks generalizing k with
  | nil => simp [masksShare]
  | cons m ms ih =>
    cases k with
    | zero => rfl
    | succ k =>
      simp only [masksShare, Bool.or_eq_false_iff, List.any_eq_false] at h
      simp only [List.take_succ_cons, masksShare, Bool.or_eq_false_iff, List.any_eq_false]
      exact ⟨fun n hn => h.1 n (List.mem_of_mem_take hn), ih h.2 k⟩

/-- No other entry holds the role (R18). -/
theorem roleElsewhere_eq_false {role : Role} {i : Nat} {ws : List (Option WindowRecord)} :
    roleElsewhere role i ws = false ↔ ∀ j v, j ≠ i → entryAt ws j = some v → v.role ≠ role := by
  simp only [roleElsewhere, List.any_eq_false, entryAt_eq_some]
  constructor
  · intro h j v hj hv hr
    exact h (some v, j) (by rw [List.mem_zipIdx_iff_getElem?]; exact hv) (by simp [hj, hr])
  · rintro h ⟨e, j⟩ hm
    rw [List.mem_zipIdx_iff_getElem?] at hm
    cases e with
    | none => simp
    | some v =>
      simp only [Bool.and_eq_true, bne_iff_ne, beq_iff_eq, not_and]
      exact fun hj => h j v hj hm

/-- A record with accepted role parameters (R22, R131, R151), a placed base and accepted sets is well formed. -/
theorem WindowRecord.wf_of_params {w : WindowRecord} {r : CommandRecord} (h : windowParams w.role w.size r = some w.params)
    (hplace : placeOk w.base w.sizeExp = true) (hl : w.sets.length = w.role.setCount)
    (hm : (w.sets.all fun m => m != 0 && !m.getLsbD 15) = true) (hs : masksShare w.sets = false) : w.wf = true := by
  obtain ⟨role, base, e, en, sets, p⟩ := w
  simp only at h hplace hl hm hs
  simp only [WindowRecord.wf, hplace, hl, hm, hs, beq_self_eq_true, Bool.not_false, Bool.and_true, Bool.true_and]
  cases role <;> simp only [windowParams] at h
  case frame =>
    split at h
    · cases h; assumption
    · cases h
  case record =>
    repeat' split at h
    · obtain ⟨hsz, hh, hh', hd, hdh, hp⟩ := ‹_ ∧ _›
      cases h
      simp [RingSetup.wf, hsz, hd, hdh, hh', hp]
    · cases h
    · cases h
  case audio =>
    obtain ⟨m, -, rfl⟩ := Option.map_eq_some_iff.1 h
    rfl
  all_goals cases h; rfl

/-- The record that a SET WINDOW names. -/
def namedWindow (r : CommandRecord) (role : Role) (enabled : Bool) (params : RoleParams) : WindowRecord :=
  { role := role, base := r.word 8, sizeExp := r.byte 7, enabled := enabled
    sets := (windowMasks r).take role.setCount, params := params }

/-- A record whose checks pass is a well-formed one (R18). -/
theorem namedWindow_wf {r : CommandRecord} {role : Role} {enabled : Bool} {p : RoleParams}
    (hplace : placeOk (r.word 8) (r.byte 7) = true) (hm : masksOk role (windowMasks r) = true)
    (hs : masksShare (windowMasks r) = false) (hp : windowParams role (2 ^ r.byte 7) r = some p) :
    (namedWindow r role enabled p).wf = true := by
  simp only [masksOk, Bool.and_eq_true] at hm
  exact WindowRecord.wf_of_params hp hplace (by cases role <;> rfl) hm.1 (masksShare_take hs _)

/-- SET WINDOW refuses, carries a record for entry 0, or replaces another entry; in both cases the record passes the checks
(R18, R20). -/
theorem setWindow_cases (r : CommandRecord) (s : State) : (∃ st, setWindow r s = refuses st s)
    ∨ ∃ w, w.wf = true ∧ (w.role ≠ .pass → ∀ j v, j ≠ r.byte 4 → s.entry j = some v → v.role ≠ w.role)
      ∧ (r.byte 4 = 0 ∧ commandEntry w = true ∧ setWindow r s = (s, { status := .done, moves := some w })
        ∨ r.byte 4 ≠ 0 ∧ setWindow r s = completes .done (replaceEntry (r.byte 4) (some w) s)) := by
  unfold setWindow
  split
  · rename_i role enabled hrole hen
    dsimp only
    split
    · exact .inl ⟨_, rfl⟩
    · rename_i hc
      simp only [firstRefusal_eq_none, setWindowChecks, List.forall_mem_cons, List.not_mem_nil, false_implies,
        implies_true, and_true, Bool.not_eq_false', Bool.and_eq_false_iff, bne_eq_false_iff_eq] at hc
      obtain ⟨-, h0, hr, hplace, hm, hs, hp, -⟩ := hc
      obtain ⟨p, hp⟩ := Option.isSome_iff_exists.1 (Option.isNone_eq_false_iff.1 hp)
      rw [hp]
      have hwf := namedWindow_wf (enabled := enabled) hplace hm hs hp
      refine .inr ⟨namedWindow r role enabled p, hwf, fun hpass j v hj hv => ?_, ?_⟩
      · rcases hr with hr | hr
        · exact absurd hr hpass
        · exact roleElsewhere_eq_false.1 hr j v hj hv
      · split
        · rename_i hz
          refine .inl ⟨hz, ?_, rfl⟩
          have : role = .command ∧ enabled = true := by simpa [hz] using h0
          simp [commandEntry, namedWindow, this, hplace]
        · exact .inr ⟨by assumption, rfl⟩
  · exact .inl ⟨_, rfl⟩

theorem setWindow_invKept (r : CommandRecord) (s : State) :
    InvKept s (setWindow r s).1 ∧ movable (setWindow r s).2.moves = true := by
  rcases setWindow_cases r s with ⟨st, h⟩ | ⟨w, hwf, hr, ⟨-, hc, h⟩ | ⟨hz, h⟩⟩ <;> rw [h]
  · exact ⟨.refl s, rfl⟩
  · exact ⟨.refl s, by simp [movable, hc, hwf]⟩
  · exact ⟨replaceEntry_invKept hz (fun v hv => by cases hv; exact hwf) fun v j x hv hp => by cases hv; exact hr hp j x, rfl⟩

theorem clearWindow_invKept (r : CommandRecord) (s : State) :
    InvKept s (clearWindow r s).1 ∧ movable (clearWindow r s).2.moves = true := by
  unfold clearWindow
  split
  · exact ⟨.refl s, rfl⟩
  · rename_i hc
    simp only [firstRefusal_eq_none, clearWindowChecks, List.forall_mem_cons] at hc
    split
    · exact ⟨replaceEntry_invKept (by simpa using hc.2.1) (by simp) (by simp), rfl⟩
    · exact ⟨.refl s, rfl⟩

/-! ### RECORD SETUP (R152) -/

/-- The RECORD window's record with a new ring setup in range is well formed. -/
theorem WindowRecord.wf_record {w : WindowRecord} (h : w.wf = true) (hr : w.role = .record) {x : RingSetup} (hx : x.wf = true) :
    WindowRecord.wf { w with params := .record x } = true := by
  obtain ⟨role, base, e, en, sets, p⟩ := w
  cases hr
  simp only [WindowRecord.wf, Bool.and_eq_true] at h ⊢
  refine ⟨h.1, ?_, hx⟩
  have := h.2
  cases p <;> simp_all [WindowRecord.size]

/-- The RECORD window's setup is replaced by one in range. -/
theorem replaceRing_invKept {i : Nat} {w : WindowRecord} {x : RingSetup} {s : State}
    (hi : roleWindow .record s.path.windows 0 = some (i, w)) (hx : x.wf = true) :
    InvKept s { s with path := { s.path with windows := s.path.windows.set i (some { w with params := .record x }) } } := by
  obtain ⟨k, hk, hw, -, hrole, -⟩ := roleWindow_eq_some.1 hi
  obtain rfl : i = k := by omega
  have table : TableOk s.path.windows →
      TableOk (s.path.windows.set i (some { w with params := .record x })) := fun h => by
    have ⟨_, ⟨c, hc, hcc⟩, hwf, hu⟩ := h
    refine h.set (fun hz => ?_) (fun v hv => ?_) fun v j y hv hp hj hy => ?_
    · subst hz
      rw [hc] at hw; cases hw
      rw [role_of_commandEntry hcc] at hrole; cases hrole
    · cases hv
      exact WindowRecord.wf_record (hwf i w hw) hrole hx
    · cases hv
      exact fun he => hj (hu j i y w hy hw he (by rw [he]; exact hp))
  have hne : w.role ≠ .frame := by rw [hrole]; decide
  have hg : State.geometry { s with path := { s.path with
      windows := s.path.windows.set i (some { w with params := .record x }) } } = s.geometry :=
    geometry_set rfl (fun v hv => by rw [entry_eq_entryAt, hw] at hv; cases hv; exact hne) fun v hv => by cases hv; exact hne
  have inv : TableInv s → TableInv { s with path := { s.path with
      windows := s.path.windows.set i (some { w with params := .record x }) } } := fun h =>
    tableInv_iff.2 ((tableInv_iff.1 h).imp table id)
  exact ⟨⟨id, id, id, id⟩, inv, fun h => ⟨inv h.1, by rw [hg]; exact h.2⟩⟩

theorem recordSetup_invKept (r : CommandRecord) (s : State) :
    InvKept s (recordSetup r s).1 ∧ movable (recordSetup r s).2.moves = true := by
  unfold recordSetup
  split
  · exact ⟨.refl s, rfl⟩
  · rename_i i w hi
    split
    · exact ⟨.refl s, rfl⟩
    · dsimp only
      split
      · exact ⟨.refl s, rfl⟩
      · rename_i button _ hlt
        have hx : RingSetup.wf ⟨beatOfBytes (r.bytes 4 8), clampNat 1 63 (r.byte 12), clampNat 1 63 (r.byte 13), button,
            min 240 (r.byte 15)⟩ = true := by
          simp only [clampNat] at hlt
          refine decide_eq_true ?_
          simp only [clampNat]
          omega
        exact ⟨(replaceRing_invKept hi hx).trans (.of_quiet (by simp [completes]) (by simp [completes])
          (by simp [completes]) (by simp [completes])), rfl⟩

/-! ### Timecode (R32, R35 to R38) -/

theorem FrameRate.dropCount_lt (rate : FrameRate) : rate.dropCount < rate.framesPerSecond := by cases rate <;> decide

/-- A label in range names one that is not dropped once it is moved forward (R36, R37). -/
theorem Timecode.valid_skipDropped {rate : FrameRate} {drop : Bool} {t : Timecode} (hh : t.hours ≤ 23) (hm : t.minutes ≤ 59)
    (hs : t.seconds ≤ 59) (hf : t.frames < rate.framesPerSecond) : (t.skipDropped rate drop).valid rate drop := by
  unfold Timecode.skipDropped
  split
  · exact ⟨hh, hm, hs, rate.dropCount_lt, by simp [Timecode.isDropped]⟩
  · exact ⟨hh, hm, hs, hf, by simpa using ‹¬ t.isDropped rate drop = true›⟩

/-- An advance from a valid label names a valid label (R35, R36). -/
theorem Timecode.valid_advance {rate : FrameRate} {drop : Bool} {t : Timecode} (h : t.valid rate drop) :
    (t.advance rate drop).valid rate drop := by
  obtain ⟨hh, hm, hs, hf, -⟩ := h
  have hc : (t.carry rate).hours ≤ 23 ∧ (t.carry rate).minutes ≤ 59 ∧ (t.carry rate).seconds ≤ 59
      ∧ (t.carry rate).frames < rate.framesPerSecond := by
    have := rate.dropCount_lt
    unfold Timecode.carry
    repeat' split
    all_goals refine ⟨?_, ?_, ?_, ?_⟩ <;> simp only [Timecode.zero] <;> omega
  exact Timecode.valid_skipDropped hc.1 hc.2.1 hc.2.2.1 hc.2.2.2

theorem Timecode.valid_adjust {rate old : FrameRate} {drop was : Bool} {t : Timecode} (h : t.valid old was) :
    (t.adjust rate drop).valid rate drop := by
  obtain ⟨hh, hm, hs, -, -⟩ := h
  have := rate.dropCount_lt
  exact Timecode.valid_skipDropped hh hm hs (by simp only; omega)

theorem setFrameRate_invKept (r : CommandRecord) (s : State) :
    InvKept s (setFrameRate r s).1 ∧ movable (setFrameRate r s).2.moves = true := by
  unfold setFrameRate
  split
  · exact ⟨.refl s, rfl⟩
  · refine ⟨⟨⟨id, id, id, fun ⟨_, hf, hr⟩ => ⟨?_, Timecode.valid_adjust hf, Timecode.valid_adjust hr⟩⟩, id, id⟩, rfl⟩
    intro hd
    simp only [completes, Bool.and_eq_true] at hd
    exact hd.2

theorem setTimecode_invKept (r : CommandRecord) (s : State) :
    InvKept s (setTimecode r s).1 ∧ movable (setTimecode r s).2.moves = true := by
  unfold setTimecode
  split
  · exact ⟨.refl s, rfl⟩
  · rename_i asked hb
    have := s.frame.rate.dropCount_lt
    refine ⟨⟨⟨id, id, id, fun ⟨hd, hf, hr⟩ => ⟨?_, ?_, ?_⟩⟩, id, id⟩, rfl⟩
    · intro hd
      simp only [completes, Bool.and_eq_true] at hd
      exact hd.2
    · exact Timecode.valid_skipDropped (by simp only; omega) (by simp only; omega) (by simp only; omega)
        (show min _ _ < s.frame.rate.framesPerSecond by omega)
    · simp only [completes]
      split
      · exact Timecode.valid_skipDropped hr.1 hr.2.1 hr.2.2.1 hr.2.2.2.1
      · rename_i hne
        simp only [bne_iff_ne, ne_eq, not_not] at hne
        rw [hne]
        exact hr

theorem setTimecodeMode_invKept (r : CommandRecord) (s : State) :
    InvKept s (setTimecodeMode r s).1 ∧ movable (setTimecodeMode r s).2.moves = true := by
  unfold setTimecodeMode
  split
  · exact ⟨.refl s, rfl⟩
  · exact ⟨⟨⟨id, id, id, id⟩, id, id⟩, rfl⟩

end Sys2Proof.Machine
end

section
/-! SUPPORT. A frame mark keeps the history's order, the crop's margins and the timecode's labels (R25, R27, R29, R33, R102). -/

namespace Sys2Proof.Machine

/-! ### Rounding and the correction's margins (3.3, R101, R102) -/

/-- A rounded quotient is at most `m` in size when the dividend is at most `m` times the divisor. -/
theorem natAbs_roundDiv_le {a : Int} {b m : Nat} (hb : 0 < b) (h : a.natAbs ≤ b * m) : (roundDiv a b).natAbs ≤ m := by
  have key : (2 * a.natAbs + b) / (2 * b) ≤ m := by
    rw [Nat.div_le_iff_le_mul_add_pred (by omega)]
    have : 2 * b * m = 2 * (b * m) := by ring
    omega
  unfold roundDiv
  split
  · simpa only [Int.natAbs_neg, Int.natAbs_natCast] using key
  · simpa only [Int.natAbs_natCast] using key

theorem natAbs_clampInt_le (lim : Nat) (v : Int) : (clampInt (-lim) lim v).natAbs ≤ lim := by
  unfold clampInt
  omega

theorem natAbs_electronicShare_le (mode : StabMode) (corr a16 : Int) (margin : Nat) :
    (electronicShare mode corr a16 margin).1.natAbs ≤ 16 * margin := by
  unfold electronicShare
  split
  · simp
  · simpa using natAbs_clampInt_le (16 * margin) (corr - a16)

/-- A quarter pixel count within the margin makes a displacement within it, a multiple of 4 (R102). -/
theorem natAbs_four_mul_roundDiv_le {e : Int} {m : Nat} (hm : m % 4 = 0) (h : e.natAbs ≤ 16 * m) :
    (4 * roundDiv e 64).natAbs ≤ m := by
  have := natAbs_roundDiv_le (m := m / 4) (show 0 < 64 by decide) (h.trans (by omega))
  omega

/-- The stabiliser's correction lies within the margins, dx a multiple of 4 (R101, R102). -/
theorem stabMark_fits {mx my : Nat} (hx : mx % 4 = 0) (s : State) :
    (stabMark (some (mx, my)) s).2.dx.natAbs ≤ mx ∧ (stabMark (some (mx, my)) s).2.dy.natAbs ≤ my
      ∧ (4 : Int) ∣ (stabMark (some (mx, my)) s).2.dx :=
  ⟨natAbs_four_mul_roundDiv_le hx (natAbs_electronicShare_le ..),
    natAbs_roundDiv_le (by decide) (natAbs_electronicShare_le ..), Int.dvd_mul_right ..⟩

/-! ### The history (R25, R27) -/

theorem consecutive_append {n : Half} {h : List CaptureRecord} (hc : consecutive n h = true) {r : CaptureRecord}
    (hr : r.seq = n) : consecutive (r.seq + 1) (h ++ [r]) = true := by
  fun_induction consecutive n h with
  | case1 => simp [consecutive]
  | case2 q => simpa [consecutive, hr] using hc
  | case3 q p rest ih =>
    simp only [Bool.and_eq_true] at hc
    simp only [List.cons_append, consecutive, Bool.and_eq_true]
    exact ⟨hc.1, ih hc.2⟩

theorem consecutive_drop_one {n : Half} {h : List CaptureRecord} (hc : consecutive n h = true) :
    consecutive n (h.drop 1) = true := by
  cases h with
  | nil => exact hc
  | cons r h =>
    cases h with
    | nil => rfl
    | cons q h =>
      simp only [consecutive, Bool.and_eq_true] at hc
      exact hc.2

/-- A change of the records that keeps their sequences keeps their order. -/
theorem consecutive_map {n : Half} {f : CaptureRecord → CaptureRecord} (hf : ∀ r, (f r).seq = r.seq)
    (h : List CaptureRecord) : consecutive n (h.map f) = consecutive n h := by
  fun_induction consecutive n h with
  | case1 => rfl
  | case2 r => simp [consecutive, hf]
  | case3 r q rest ih =>
    simp only [List.map_cons, consecutive, hf] at ih ⊢
    rw [ih]

/-- No record of the history is FILLING. -/
def NoFilling (h : List CaptureRecord) : Prop := ∀ r ∈ h, r.state ≠ .filling

theorem NoFilling.filter_eq_nil {h : List CaptureRecord} (hn : NoFilling h) :
    (h.filter fun r => r.state == .filling) = [] := by
  simpa [NoFilling, List.filter_eq_nil_iff] using hn

/-- Changing some records' state to one other than FILLING keeps the history's promises. -/
theorem historyInv_map {s t : State} {f : CaptureRecord → CaptureRecord} (hseq : ∀ r, (f r).seq = r.seq)
    (hst : ∀ r, (f r).state = .filling → r.state = .filling) (hh : t.frame.history = s.frame.history.map f)
    (hn : t.frame.nextSeq = s.frame.nextSeq) (h : HistoryInv s) : HistoryInv t := by
  obtain ⟨hl, hc, hf⟩ := h
  refine ⟨by simpa [hh] using hl, by rw [hh, hn, consecutive_map hseq]; exact hc, ?_⟩
  rw [hh, List.filter_map, List.length_map]
  refine (List.Sublist.length_le ?_).trans hf
  exact List.monotone_filter_right _ fun r hr => by simpa using hst r (by simpa using hr)

/-- Each record's correction being kept, so is the crop. -/
theorem crop_map {s t : State} {f : CaptureRecord → CaptureRecord} (hdx : ∀ r, (f r).dx = r.dx) (hdy : ∀ r, (f r).dy = r.dy)
    (hh : t.frame.history = s.frame.history.map f) (hp : t.path.windows = s.path.windows)
    (ht : TableInv s → TableInv t) (h : CropInv s) : CropInv t := by
  refine ⟨ht h.1, fun base g hg r hr => ?_⟩
  rw [geometry_congr hp] at hg
  rw [hh] at hr
  obtain ⟨q, hq, rfl⟩ := List.mem_map.1 hr
  have := h.2 base g hg q hq
  simpa only [CaptureRecord.fits, hdx, hdy] using this

/-- A change of records that keeps their sequences and corrections, and makes none FILLING, keeps the six invariants. -/
theorem InvKept.of_history_map {s t : State} {f : CaptureRecord → CaptureRecord} (hseq : ∀ r, (f r).seq = r.seq)
    (hst : ∀ r, (f r).state = .filling → r.state = .filling) (hdx : ∀ r, (f r).dx = r.dx) (hdy : ∀ r, (f r).dy = r.dy)
    (hf : t.frame = { s.frame with history := s.frame.history.map f }) (hp : t.path = s.path) (hr : t.record = s.record)
    (hc : t.command = s.command) (hk : ReportsKept s.report s.command t.report s.command) : InvKept s t := by
  have table : TableInv s → TableInv t := fun h => by
    rw [tableInv_iff] at h ⊢
    rwa [hp, hc]
  exact ⟨⟨hk.1, fun h => by rw [queueInv_iff] at h ⊢; rw [hp, hc]; exact ⟨h.1, hk.2.1 h.2⟩,
    historyInv_map hseq hst (by rw [hf]) (by rw [hf]), by simp only [TimecodeInv, hf, hr]; exact id⟩, table,
    crop_map hdx hdy (by rw [hf]) (by rw [hp]) table⟩

/-! ### The operations of a mark (R25, R29 to R31) -/

/-- The frame tracker's marks of time changed, the six invariants are kept. -/
theorem InvKept.of_tracker {s t : State} (hp : t.path = s.path) (hh : t.frame.history = s.frame.history)
    (hn : t.frame.nextSeq = s.frame.nextSeq) (hr : t.frame.rate = s.frame.rate) (hd : t.frame.dropFrame = s.frame.dropFrame)
    (htc : t.frame.timecode = s.frame.timecode) (hrt : t.record.timecode = s.record.timecode)
    (hk : ReportsKept s.report s.command t.report t.command) : InvKept s t := by
  have table : TableInv s → TableInv t := fun h => by
    rw [tableInv_iff] at h ⊢
    exact ⟨hp ▸ h.1, hk.2.2 h.2⟩
  exact ⟨⟨hk.1, fun h => by rw [queueInv_iff] at h ⊢; exact ⟨hp ▸ h.1, hk.2.1 h.2⟩,
    by simp only [HistoryInv, hh, hn]; exact id, by simp only [TimecodeInv, hr, hd, htc, hrt]; exact id⟩, table,
    fun h => ⟨table h.1, by rw [geometry_congr (show t.path.windows = s.path.windows by rw [hp]), hh]; exact h.2⟩⟩

theorem captureBeat_tracker (s : State) : (captureBeat s).frame.history = s.frame.history
    ∧ (captureBeat s).frame.nextSeq = s.frame.nextSeq ∧ (captureBeat s).frame.rate = s.frame.rate
    ∧ (captureBeat s).frame.dropFrame = s.frame.dropFrame ∧ (captureBeat s).frame.timecode = s.frame.timecode := by
  simp only [captureBeat]
  split <;> simp

theorem captureBeat_invKept (s : State) : InvKept s (captureBeat s) := by
  obtain ⟨hh, hn, hr, hd, ht⟩ := captureBeat_tracker s
  exact .of_tracker (by simp) hh hn hr hd ht (by simp) (by simp)

theorem substituteBeat_invKept (s : State) : InvKept s (substituteBeat s) := by
  have hb : (substituteBeat s).frame.history = s.frame.history ∧ (substituteBeat s).frame.nextSeq = s.frame.nextSeq
      ∧ (substituteBeat s).frame.rate = s.frame.rate ∧ (substituteBeat s).frame.dropFrame = s.frame.dropFrame
      ∧ (substituteBeat s).frame.timecode = s.frame.timecode := by
    simp only [substituteBeat]
    split <;> simp
  obtain ⟨hh, hn, hr, hd, ht⟩ := hb
  exact .of_tracker (by simp) hh hn hr hd ht (by simp) (by simp)

theorem resetFrame_invKept (s : State) : InvKept s (resetFrame s) := by
  have hr : InvKept (emptyHistory s) (resetFrame s) := by
    have hb : (resetFrame s).frame.history = [] ∧ (resetFrame s).frame.nextSeq = s.frame.nextSeq
        ∧ (resetFrame s).frame.rate = s.frame.rate ∧ (resetFrame s).frame.dropFrame = s.frame.dropFrame
        ∧ (resetFrame s).frame.timecode = s.frame.timecode := by
      simp only [resetFrame, emptyHistory]
      split <;> simp
    obtain ⟨hh, hn, hr, hd, ht⟩ := hb
    exact .of_tracker (by simp) hh hn hr hd ht (by simp) (by simp)
  exact (emptyHistory_invKept s).trans hr

theorem markDemands_invKept (m : Option (Nat × Nat)) (s : State) : InvKept s (markDemands m s).1 :=
  .of_quiet (by simp) (by simp) (by simp) (by simp)

/-- The last part of a mark advances the counter and queues the metadata record (R29, R179). -/
theorem markRest_invKept (b : State) (r : Option CaptureRecord) (c : Correction) (s : State) : InvKept s (markRest b r c s) := by
  let u := holdsAtMark (audioMark (openCycle c s))
  have hu : InvKept s u := .of_quiet (by simp [u]) (by simp [u]) (by simp [u]) (by simp [u])
  have ha : InvKept u (advanceTimecode u) := ⟨⟨id, id, id, fun ⟨hd, hf, hr⟩ => ⟨hd, Timecode.valid_advance hf, hr⟩⟩, id, id⟩
  obtain ⟨hw, hq⟩ := metadataMark_path (markData b r c s) (advanceTimecode u)
  show InvKept s (metadataMark (markData b r c s) (advanceTimecode u))
  exact (hu.trans ha).trans (.of_frame hw hq (by simp) (by simp) (by simp))

theorem timerExpiry_invKept (s : State) : InvKept s (timerExpiry s) := by
  have ht : InvKept s (reachTime s.frame.expiry s) := .of_quiet rfl rfl rfl (.refl ..)
  exact ((ht.trans (substituteBeat_invKept _)).trans (markDemands_invKept none _)).trans (markRest_invKept ..)

/-! ### A capture start (R25) -/

/-- A FILLING record as it becomes ABANDONED; any other as it is (R25). -/
def CaptureRecord.abandon (r : CaptureRecord) : CaptureRecord :=
  if r.state = .filling then { r with state := .abandoned } else r

theorem CaptureRecord.abandon_fields (r : CaptureRecord) : r.abandon.state ≠ .filling ∧ r.abandon.seq = r.seq
    ∧ r.abandon.dx = r.dx ∧ r.abandon.dy = r.dy := by
  unfold CaptureRecord.abandon
  split
  · simp
  · exact ⟨by assumption, rfl, rfl, rfl⟩

/-- An abandoned capture leaves no FILLING record, and changes nothing else of the history. -/
theorem abandonCapture_history (s : State) : NoFilling (abandonCapture s).frame.history
    ∧ (abandonCapture s).frame = { s.frame with history := s.frame.history.map CaptureRecord.abandon } := by
  unfold abandonCapture
  split
  · refine ⟨fun r hr => ?_, by simp [CaptureRecord.abandon]⟩
    simp only [raiseEvent_frame, List.mem_map] at hr
    obtain ⟨q, -, rfl⟩ := hr
    exact q.abandon_fields.1
  · rename_i hn
    have hn : NoFilling s.frame.history := by simpa [List.find?_eq_none, NoFilling] using hn
    refine ⟨hn, ?_⟩
    have hm : s.frame.history.map CaptureRecord.abandon = s.frame.history :=
      (List.map_congr_left fun r hr => if_neg (hn r hr)).trans (List.map_id _)
    rw [hm]

theorem abandonCapture_invKept (s : State) : InvKept s (abandonCapture s) :=
  .of_history_map (f := CaptureRecord.abandon) (fun r => r.abandon_fields.2.1)
    (fun r h => absurd h r.abandon_fields.1) (fun r => r.abandon_fields.2.2.1) (fun r => r.abandon_fields.2.2.2)
    (abandonCapture_history s).2 (by simp) (by simp) (by simp) (by simp)

/-- A new record joins a history without a FILLING one: it has the next sequence and a correction that fits the crop. -/
theorem appendCapture_invKept {r : CaptureRecord} {s : State} (hn : NoFilling s.frame.history) (hr : r.seq = s.frame.nextSeq)
    (hf : TableInv s → ∀ base g, s.geometry = some (base, g) → r.fits g) : InvKept s (appendCapture r s) := by
  let old := if s.frame.history.length ≥ 16 then s.frame.history.drop 1 else s.frame.history
  have hold : ∀ q ∈ old, q ∈ s.frame.history := fun q hq => by
    simp only [old] at hq
    split at hq
    · exact List.mem_of_mem_drop hq
    · exact hq
  refine ⟨⟨id, id, fun ⟨hl, hc, _⟩ => ⟨?_, ?_, ?_⟩, id⟩, id, fun h => ⟨h.1, fun base g hg q hq => ?_⟩⟩
  · simp only [appendCapture]
    split <;> simp <;> omega
  · refine consecutive_append ?_ hr
    split
    · exact consecutive_drop_one hc
    · exact hc
  · have : (old.filter fun r => r.state == .filling) = [] := NoFilling.filter_eq_nil fun q hq => hn q (hold q hq)
    show ((old ++ [r]).filter fun r => r.state == .filling).length ≤ 1
    rw [List.filter_append, this, List.nil_append]
    exact List.length_filter_le ..
  · rcases List.mem_append.1 (show q ∈ old ++ [r] from hq) with hq | hq
    · exact h.2 base g hg q (hold q hq)
    · rw [List.mem_singleton.1 hq]
      exact hf h.1 base g hg

theorem WindowRecord.ok_of_wf {w : WindowRecord} (h : w.wf = true) (hr : w.role = .frame) {g : Geometry}
    (hp : w.params = .frame g) : g.ok w.size = true := by
  obtain ⟨role, base, e, en, sets, p⟩ := w
  cases hr
  cases hp
  simp only [WindowRecord.wf, Bool.and_eq_true] at h
  exact h.2

theorem Geometry.marginX_of_ok {g : Geometry} {size : Nat} (h : g.ok size = true) : g.marginX % 4 = 0 := by
  simp only [Geometry.ok, Bool.and_eq_true, beq_iff_eq] at h
  exact h.1.1.1.1.2.2

/-- The correction of a capture mark fits the margins it is computed with (R101, R102). -/
theorem markDemands_fits {mx my : Nat} (hx : mx % 4 = 0) (s : State) :
    (markDemands (some (mx, my)) s).2.dx.natAbs ≤ mx ∧ (markDemands (some (mx, my)) s).2.dy.natAbs ≤ my
      ∧ (4 : Int) ∣ (markDemands (some (mx, my)) s).2.dx := by
  unfold markDemands
  exact stabMark_fits hx _

theorem newCapture_fits {g : Geometry} {s : State} {b : Nat} {c : Correction} :
    (newCapture s b c).fits g ↔ c.dx.natAbs ≤ g.marginX ∧ c.dy.natAbs ≤ g.marginY ∧ (4 : Int) ∣ c.dx := Iff.rfl

/-- A capture start with the geometry in use keeps the six invariants. -/
theorem captureStart_invKept {g : Geometry} {s : State}
    (hg : TableOk s.path.windows → ∃ base, s.geometry = some (base, g) ∧ g.marginX % 4 = 0) (b : Nat) :
    InvKept s (captureStart g b s) := by
  let a := captureBeat (abandonCapture s)
  let r := markDemands (some (g.marginX, g.marginY)) a
  have hr : InvKept s r.1 :=
    ((abandonCapture_invKept s).trans (captureBeat_invKept _)).trans (markDemands_invKept (some (g.marginX, g.marginY)) _)
  have hframe : r.1.frame = a.frame := by simp [r]
  have hwin : r.1.path.windows = s.path.windows := by simp [r, a]
  obtain ⟨hh, hn, -⟩ := captureBeat_tracker (abandonCapture s)
  obtain ⟨hfill, heq⟩ := abandonCapture_history s
  have happ : InvKept r.1 (appendCapture (newCapture s b r.2) r.1) :=
    appendCapture_invKept (by rw [hframe, hh]; exact hfill) (by rw [hframe, hn, heq]; rfl) fun ht base g' hg' => by
      obtain ⟨base', hgs, hx⟩ := hg (hwin ▸ (tableInv_iff.1 ht).1)
      rw [geometry_congr hwin, hgs] at hg'
      cases hg'
      exact newCapture_fits.2 (markDemands_fits hx a)
  have hl : InvKept (appendCapture (newCapture s b r.2) r.1)
      (latchLimited s.frame.nextSeq r.2 (appendCapture (newCapture s b r.2) r.1)) :=
    .of_quiet (by simp) (by simp) (by simp) (by simp)
  show InvKept s (markRest s (some (newCapture s b r.2)) r.2
    (latchLimited s.frame.nextSeq r.2 (appendCapture (newCapture s b r.2) r.1)))
  exact ((hr.trans happ).trans hl).trans (markRest_invKept ..)

end Sys2Proof.Machine
end

section
/-! SUPPORT. Acceptance, the arbiter and DRAM's answers keep the queues, the window table and the frame tracker in order (R1, R8,
R13, R14, R16). -/

namespace Sys2Proof.Machine

/-! ### Classification (R5) -/

/-- A burst that belongs to a window belongs to an enabled entry of the table, by one of its sets. -/
theorem entry_of_classify {s : State} {addr len : Nat} {tag : BitVec 4} {cls : ReadClass}
    (h : classify s addr len tag = .belongs cls) :
    (∃ i, s.entry i = some cls.window) ∧ cls.window.enabled = true ∧ memberSet cls.window tag = some cls.setIndex := by
  unfold classify at h
  repeat' split at h
  all_goals cases h
  rename_i hd _ _ hm _
  obtain ⟨k, -, hw, he, -⟩ := decidingWindow_eq_some.1 hd
  exact ⟨⟨k, hw⟩, he, hm⟩

/-- With a table that passes its checks, the FRAME window a burst belongs to is the one in force. -/
theorem geometry_of_classify {s : State} {addr len : Nat} {tag : BitVec 4} {cls : ReadClass}
    (h : classify s addr len tag = .belongs cls) (hr : cls.window.role = .frame) {g : Geometry}
    (hp : cls.window.params = .frame g) (ht : TableOk s.path.windows) :
    s.geometry = some (cls.window.base, g) ∧ g.marginX % 4 = 0 := by
  obtain ⟨⟨i, hi⟩, he, -⟩ := entry_of_classify h
  have hw := ht.window_unique (by decide) hi hr he
  have hwf := ht.2.2.1 i _ hi
  exact ⟨by simp [State.geometry, hw, hp], Geometry.marginX_of_ok (WindowRecord.ok_of_wf hwf hr hp)⟩

/-! ### The owners of a write (R8) -/

/-- A FILLING record as a write that covers its buffer's last image beat makes it COMPLETE; any other as it is (R26). -/
def CaptureRecord.completeBy (g : Geometry) (base addr len : Nat) (r : CaptureRecord) : CaptureRecord :=
  if r.state = .filling && r.buffer < g.buffers && coversBeat addr len (g.lastImageBeat base r.buffer)
  then { r with state := .complete } else r

theorem CaptureRecord.completeBy_fields (g : Geometry) (base addr len : Nat) (r : CaptureRecord) :
    ((r.completeBy g base addr len).state = .filling → r.state = .filling) ∧ (r.completeBy g base addr len).seq = r.seq
      ∧ (r.completeBy g base addr len).dx = r.dx ∧ (r.completeBy g base addr len).dy = r.dy := by
  unfold CaptureRecord.completeBy
  split <;> simp

theorem captureCompletes_invKept (g : Geometry) (base addr len : Nat) (s : State) :
    InvKept s (captureCompletes g base addr len s) :=
  .of_history_map (f := CaptureRecord.completeBy g base addr len) (fun r => (r.completeBy_fields ..).2.1)
    (fun r => (r.completeBy_fields ..).1) (fun r => (r.completeBy_fields ..).2.2.1) (fun r => (r.completeBy_fields ..).2.2.2)
    rfl rfl rfl rfl (.refl ..)

/-- A sensor write to the FRAME window in force keeps the six invariants (R24 to R26). -/
theorem sensorWrite_invKept {w : WindowRecord} {s : State}
    (hg : ∀ g, w.params = .frame g → TableOk s.path.windows → s.geometry = some (w.base, g) ∧ g.marginX % 4 = 0)
    (addr len : Nat) : InvKept s (sensorWrite w addr len s) := by
  unfold sensorWrite
  split
  · rename_i g hp
    split
    · exact captureStart_invKept (fun ht => ⟨_, hg g hp ht⟩) _
    · exact captureCompletes_invKept ..
  · exact .refl s

/-- An encoder write leaves the record timecode or advances it, by a stamped header (R156). -/
theorem encoderWrite_timecode (w : WindowRecord) (addr : Nat) (beats : List Beat) (s : State) :
    (encoderWrite w addr beats s).1.record.timecode = s.record.timecode
      ∨ (encoderWrite w addr beats s).1.record.timecode = s.record.timecode.advance s.frame.rate s.frame.dropFrame := by
  have hh : ∀ off h beats (t : State), t.frame = s.frame → t.record.timecode = s.record.timecode →
      (forwardHeader off h beats t).1.record.timecode = s.record.timecode
        ∨ (forwardHeader off h beats t).1.record.timecode = s.record.timecode.advance s.frame.rate s.frame.dropFrame := by
    intro off h beats t hf ht
    simp only [forwardHeader]
    split
    · exact .inr (by simp [hf, ht])
    · exact .inl (by simp [ht])
  unfold encoderWrite
  split
  · dsimp only
    split
    · left
      split <;> simp
    · simp only [forwardEncoderWrite, evaluateLevel_timecode, drainIfDue_timecode, moveWriteEnd_timecode]
      split
      · refine hh _ _ _ _ ?_ ?_ <;> split <;> simp
      · left
        split <;> simp
  · exact .inl rfl

theorem encoderWrite_invKept (w : WindowRecord) (addr : Nat) (beats : List Beat) (s : State) :
    InvKept s (encoderWrite w addr beats s).1 := by
  have hq : InvKept s { (encoderWrite w addr beats s).1 with record := s.record } :=
    .of_quiet (by simp) (by simp) rfl (by simp)
  refine ⟨⟨hq.attn, hq.queue, hq.history, fun h => ?_⟩, hq.table, hq.crop⟩
  obtain ⟨hd, hf, hr⟩ := h
  simp only [TimecodeInv, encoderWrite_frame]
  refine ⟨hd, hf, ?_⟩
  rcases encoderWrite_timecode w addr beats s with ht | ht <;> rw [ht]
  · exact hr
  · exact Timecode.valid_advance hr

theorem ownerWrite_invKept {cls : ReadClass} {addr len : Nat} {tag : BitVec 4} {s : State}
    (h : classify s addr len tag = .belongs cls) (beats : List Beat) : InvKept s (ownerWrite cls addr beats s).1 := by
  unfold ownerWrite
  split
  · exact .of_quiet (by simp) (by simp) (by simp) (by simp)
  · rename_i hr _
    exact sensorWrite_invKept (fun g hp ht => geometry_of_classify h hr hp ht) _ _
  · exact encoderWrite_invKept ..
  · exact .of_quiet (by simp) (by simp) (by simp) (by simp)
  · exact .refl s

/-- A mark touches no queue of the path unit but that of the injected writes. -/
theorem markRest_path (b : State) (r : Option CaptureRecord) (c : Correction) (s : State) :
    ∃ q, (markRest b r c s).path = { s.path with injected := q } := by
  obtain ⟨q, hq⟩ := metadataMark_injected (markData b r c s) (advanceTimecode (holdsAtMark (audioMark (openCycle c s))))
  exact ⟨q, hq.trans (by simp)⟩

/-- An owner touches no queue of the path unit but that of the injected writes, and that at a capture start alone. -/
theorem ownerWrite_path (cls : ReadClass) (addr : Nat) (beats : List Beat) (s : State) :
    ∃ q, (ownerWrite cls addr beats s).1.path = { s.path with injected := q } := by
  have same : ∀ p, p = s.path → ∃ q, p = { s.path with injected := q } := fun p hp => ⟨s.path.injected, hp⟩
  unfold ownerWrite
  split
  · exact same _ (by simp)
  · unfold sensorWrite
    repeat' split
    · obtain ⟨q, hq⟩ := markRest_path _ _ _ _
      exact ⟨q, hq.trans (by simp)⟩
    all_goals exact same _ (by simp)
  · exact same _ (by simp)
  · exact same _ (by simp)
  · exact same _ rfl

/-! ### Acceptance (R1, R8, R13) -/

theorem forwardBurst_invKept {s : State} (hl : s.path.passQueue.length < 16) (tag : BitVec 4) (issued addr : Nat)
    (body : PassBody) : InvKept s (forwardBurst tag issued addr body s) :=
  .of_frame rfl (fun h => h.forward hl ..) rfl rfl (.refl ..)

/-- A write that would be held back is one of the encoder's that the tracker holds back (R13). -/
theorem ownerWrite_of_wouldHoldBack {b : WriteBurst} {s : State} (h : wouldHoldBack b s = true) :
    ∃ cls, classify s b.addr.toNat b.beats.length b.tag = .belongs cls
      ∧ (ownerWrite cls b.addr.toNat b.beats s).2 = none := by
  unfold wouldHoldBack at h
  split at h
  · rename_i cls hc
    refine ⟨cls, hc, ?_⟩
    split at h
    · rename_i setup hr hs hp
      simp [ownerWrite, hr, hs, encoderWrite, hp, h]
    · cases h
  · cases h

/-- A write is accepted into a queue with a place, or held back (R1, R13). -/
theorem acceptWrite_invKept {b : WriteBurst} {s : State}
    (h : s.path.passQueue.length < 16 ∨ wouldHoldBack b s = true) : InvKept s (acceptWrite b s) := by
  have place : ∀ t beats, t.path.passQueue = s.path.passQueue → s.path.passQueue.length < 16 →
      InvKept s t → InvKept s (forwardWrite b beats t) :=
    fun t beats hq hl ht => ht.trans (forwardBurst_invKept (by rw [hq]; exact hl) ..)
  unfold acceptWrite
  split
  · rename_i hc
    rcases h with h | h
    · exact place s _ rfl h (.refl s)
    · obtain ⟨cls, hb, -⟩ := ownerWrite_of_wouldHoldBack h
      rw [hc] at hb; cases hb
  · rename_i i hc
    rcases h with h | h
    · exact place _ _ (by simp) h (.of_quiet (by simp) (by simp) (by simp) (by simp))
    · obtain ⟨cls, hb, -⟩ := ownerWrite_of_wouldHoldBack h
      rw [hc] at hb; cases hb
  · rename_i cls hc
    have ho := ownerWrite_invKept hc b.beats
    obtain ⟨q, hq⟩ := ownerWrite_path cls b.addr.toNat b.beats s
    split
    · rename_i t beats hw
      rw [hw] at ho hq
      rcases h with h | h
      · exact place t beats (by rw [hq]) h ho
      · obtain ⟨c, hb, hn⟩ := ownerWrite_of_wouldHoldBack h
        rw [hc] at hb; cases hb
        simp [hw] at hn
    · rename_i t hw
      rw [hw] at ho
      exact ho.trans (.of_path rfl id)

theorem acceptRead_invKept {b : ReadBurst} {s : State} (h : s.path.passQueue.length < 16) : InvKept s (acceptRead b s) := by
  unfold acceptRead
  split
  · exact forwardBurst_invKept h ..
  · refine InvKept.trans (.of_quiet (t := raiseStraddle _ b.tag b.addr.toNat s) ?_ ?_ ?_ ?_) (forwardBurst_invKept ?_ ..)
    all_goals simp [h]
  · exact forwardBurst_invKept h ..

theorem acceptRequest_invKept {r : Request} {s : State} (h : s.path.passQueue.length < 16) :
    InvKept s (acceptRequest r s) := by
  cases r with
  | write b => exact acceptWrite_invKept (.inl h)
  | read b => exact acceptRead_invKept h

/-- What overtakes is a write that would be held back (R1). -/
theorem wouldHoldBack_of_overtaking {s : State} {ahead rest a c : List Request} {b : WriteBurst}
    (h : overtaking s ahead rest = some (a, b, c)) : wouldHoldBack b s = true := by
  fun_induction overtaking s ahead rest with
  | case1 => cases h
  | case2 ahead x rest hx =>
    cases h
    simp only [Bool.and_eq_true] at hx
    exact hx.1
  | case3 ahead x rest hx ih => exact ih h
  | case4 ahead x rest ih => exact ih h

/-- Waiting requests are accepted as far as they may be: each into a place, or held back (R1). -/
theorem settle_invKept (s : State) : InvKept s (settle s) := by
  unfold settle
  generalize s.path.waiting.length = n
  fun_induction settleWaiting n s with
  | case1 => exact .refl _
  | case2 => exact .refl _
  | case3 n s r rest hr hl ih => exact .after_path (p := { s.path with waiting := rest }) rfl id (.trans (acceptRequest_invKept (by exact hl)) ih)
  | case4 n s r rest hr hl ahead b behind ho ih =>
    have hb : wouldHoldBack b s = true := wouldHoldBack_of_overtaking ho
    exact .after_path (p := { s.path with waiting := ahead ++ behind }) rfl id
      (.trans (acceptWrite_invKept (.inr (by exact hb))) ih)
  | case5 => exact .refl _

theorem presentRequest_invKept (r : Request) (s : State) : InvKept s (presentRequest r s) :=
  .after_path (p := { s.path with waiting := s.path.waiting ++ [r] }) rfl id (settle_invKept _)

/-! ### The arbiter and DRAM's answers (R14, R16) -/

theorem slotWritten_invKept (w : InjectedWrite) (s : State) : InvKept s (slotWritten w s) := by
  unfold slotWritten
  split
  · exact .of_quiet rfl rfl rfl ⟨id, fun ⟨hq, hc, he, hs, hd⟩ => ⟨hq, hc, he, setSlot_sorted _ _ hs, hd⟩, id⟩
  · exact .refl s

/-- With the memory-side port free no beats of a read wait there. -/
theorem PathQueues.beatsBack_of_free {p : PathUnit} (h : PathQueues p) (hm : p.atMemory = none) : p.beatsBack = [] := by
  obtain ⟨-, -, -, -, -, -, hb⟩ := h
  rcases hb with hb | hb
  · exact hb
  · simp [hm, MemoryRequest.asks] at hb

theorem issueNext_invKept (s : State) : InvKept s (issueNext s) := by
  unfold issueNext
  split
  · exact .refl s
  · rename_i hm
    split
    · unfold issueInjected
      split
      · rename_i w rest hi
        refine .after_path (p := { s.path with injected := rest, atMemory := some (.injected w), arbiterCount := 0 }) rfl
          (fun h => ?_) (slotWritten_invKept w _)
        have hb := h.beatsBack_of_free hm
        obtain ⟨hp, hl, hr, -, ht, -, -⟩ := h
        rw [hi] at hl hr ht
        exact ⟨hp, by simp at hl ⊢; omega, reportsFirst_tail hr, by simp, fun v hv => ht v (List.mem_cons_of_mem w hv),
          fun v hv => by cases hv; exact ht w List.mem_cons_self, .inl hb⟩
      · exact .refl s
    · unfold issuePass
      split
      · rename_i b rest hq
        refine .after_path (p := { s.path with passQueue := rest, atMemory := some (.pass b)
                                               arbiterCount := min 4 (s.path.arbiterCount + 1) }) rfl
          (fun h => ?_) (settle_invKept _)
        have hb := h.beatsBack_of_free hm
        obtain ⟨hp, hl, hr, -, ht, -, -⟩ := h
        rw [hq] at hp
        exact ⟨by simp at hp ⊢; omega, hl, hr, by simp, ht, fun v hv => (by cases hv), .inl hb⟩
      · exact .refl s

theorem answered_invKept (s : State) : InvKept s (answered s) :=
  .of_path rfl fun ⟨hp, hl, hr, ha, ht, _, _⟩ => ⟨hp, hl, hr, ha, ht, fun v hv => (by cases hv), .inl rfl⟩

theorem finishResponse_invKept (id : Nat) (a : Answer) (s : State) : InvKept s (finishResponse id a s) :=
  .of_path rfl fun h => h

theorem returnResponse_invKept (tag : BitVec 4) (s : State) : InvKept s (returnResponse tag s) := by
  unfold returnResponse
  repeat' split
  · exact .of_path rfl id
  all_goals exact .refl s

/-- Beats of the read at the port: fewer than asked for wait there, and the last ones free it (R8, R16). -/
theorem beatsReturn_invKept {b : PassBurst} {len : Nat} {cls : Option ReadClass} {beats : List BeatData} {s : State}
    (hm : s.path.atMemory = some (.pass b)) (hb : b.body = .read len cls) : InvKept s (beatsReturn b len cls beats s) := by
  have hs : InvKept s (substituteBeats cls b.issued len s.path.beatsBack.length beats s).1 :=
    .of_quiet (by simp) (by simp) (by simp) (by simp)
  simp only [beatsReturn]
  split
  · rename_i hl
    refine hs.trans (.of_path rfl fun ⟨hp, hi, hr, ha, ht, hw, _⟩ => ⟨hp, hi, hr, ha, ht, hw, .inr ?_⟩)
    simpa [hm, MemoryRequest.asks, hb] using hl
  · refine (hs.trans ?_).trans (finishResponse_invKept ..)
    refine InvKept.trans ?_ (answered_invKept _)
    exact .of_quiet (by simp) (by simp) (by simp) (by simp)

end Sys2Proof.Machine
end

section
/-! SUPPORT. The state right after pin reset meets every invariant (R17, R41, R62, R84, R106, R129, R149, R176, R205), and with
that every step keeps those of the window table, the frame tracker and the report unit. -/

namespace Sys2Proof.Machine

/-! ### Pin reset (R17) -/

theorem entryAt_reset {cws : BitVec 3} {i : Nat} {w : WindowRecord} (h : entryAt (PathUnit.reset cws).windows i = some w) :
    i = 0 ∧ w = commandWindowAtReset cws := by
  cases i with
  | zero => cases h; exact ⟨rfl, rfl⟩
  | succ i =>
    simp only [PathUnit.reset, entryAt_cons_succ, entryAt_eq_some, List.getElem?_replicate] at h
    split at h <;> simp at h

theorem commandWindowAtReset_movable (cws : BitVec 3) : movable (some (commandWindowAtReset cws)) = true := by
  have hp : placeOk (0x3FF00000 + cws.toNat * 0x10000) 16 = true := by
    simp only [placeOk, Bool.and_eq_true, beq_iff_eq, decide_eq_true_eq]
    omega
  simp only [movable, commandEntry, WindowRecord.wf, commandWindowAtReset, hp]
  decide

theorem tableOk_reset (cws : BitVec 3) : TableOk (PathUnit.reset cws).windows := by
  have hm := commandWindowAtReset_movable cws
  simp only [movable, Bool.and_eq_true] at hm
  refine ⟨rfl, ⟨_, rfl, hm.1⟩, fun i w hw => ?_, fun i j w v hw hv _ _ => ?_⟩
  · rw [(entryAt_reset hw).2]
    exact hm.2
  · rw [(entryAt_reset hw).1, (entryAt_reset hv).1]

/-- No window but the command window is placed at pin reset. -/
theorem window_reset (cws : BitVec 3) (e : Bool) {role : Role} (h : role ≠ .command) :
    (State.atPinReset cws e).window role = none := by
  by_contra hn
  obtain ⟨w, hw⟩ := Option.ne_none_iff_exists'.1 hn
  obtain ⟨i, hi, -, hr⟩ := State.entry_of_window hw
  rw [(entryAt_reset hi).2] at hr
  exact h hr.symm

theorem tableInv_reset (cws : BitVec 3) (e : Bool) : TableInv (State.atPinReset cws e) :=
  tableInv_iff.2 ⟨tableOk_reset cws, by simp [HeldMovable]⟩

theorem queueInv_reset (cws : BitVec 3) (e : Bool) : QueueInv (State.atPinReset cws e) :=
  queueInv_iff.2 ⟨⟨by simp [PathUnit.reset], by simp [PathUnit.reset], rfl, by simp [PathUnit.reset],
    by simp [PathUnit.reset], by simp [PathUnit.reset], .inl rfl⟩,
    ⟨by simp [ReportUnit.reset], by simp, by simp [ReportUnit.reset], by simp [ReportUnit.reset, slotsSorted],
      by simp [ReportUnit.reset]⟩⟩

theorem historyInv_reset (cws : BitVec 3) (e : Bool) : HistoryInv (State.atPinReset cws e) :=
  ⟨by simp [FrameTracker.reset], rfl, by simp [FrameTracker.reset]⟩

theorem timecodeInv_reset (cws : BitVec 3) (e : Bool) : TimecodeInv (State.atPinReset cws e) := by
  simp only [TimecodeInv, Timecode.valid, atPinReset_frame, atPinReset_record]
  decide

theorem cropInv_reset (cws : BitVec 3) (e : Bool) : CropInv (State.atPinReset cws e) :=
  ⟨tableInv_reset cws e, by simp [FrameTracker.reset]⟩

theorem lensInv_reset (cws : BitVec 3) (e : Bool) : LensInv (State.atPinReset cws e) := by
  cases e <;> simp [LensInv, LensLink.reset, LinkState.up]

/-- After PIN_RESET every invariant of the window table, the frame tracker and the report unit holds. -/
theorem pinReset_invKept (cws : BitVec 3) (e : Bool) (s : State) :
    InvKept s { State.atPinReset cws e with pending := s.pending } :=
  ⟨⟨fun _ => rfl, fun _ => queueInv_reset cws e, fun _ => historyInv_reset cws e, fun _ => timecodeInv_reset cws e⟩,
    fun _ => tableInv_reset cws e, fun _ => cropInv_reset cws e⟩

/-! ### The lens link's steps (R43 to R59) -/

theorem frameCompletes_invKept (s : State) : InvKept s (frameCompletes s) := by
  simp only [frameCompletes]
  repeat' split
  all_goals exact .of_quiet (by simp) (by simp) (by simp) (by simp)

theorem completeIfDone_invKept (s : State) : InvKept s (completeIfDone s) := by
  unfold completeIfDone
  repeat' split
  · exact frameCompletes_invKept s
  all_goals exact .refl s

theorem readCharacter_invKept {c : LineChar} {s t : State} {n : Nat} {r : Reception}
    (h : readCharacter c s = some (n, r, t)) : InvKept s t := by
  obtain ⟨start, -, hs⟩ := Option.map_eq_some_iff.1 h
  cases hs
  exact .of_quiet rfl rfl rfl (.refl ..)

theorem applyReception_invKept (n : Nat) (r : Reception) (s : State) : InvKept s (applyReception n r s) :=
  .of_quiet (by simp) (by simp) (by simp) (by simp)

theorem frameEnding_invKept {c : LineChar} {s t : State} {n : Nat} {r : Received}
    (h : frameEnding c s = some (n, r, t)) : InvKept s t := by
  unfold frameEnding at h
  split at h
  · rename_i hr
    cases h
    exact (readCharacter_invKept hr).trans (.of_quiet rfl rfl rfl (.refl ..))
  · cases h

theorem lensCharacterReceived_invKept {event : LineEvent} {s t : State} (h : execLensCharacterReceived event s = .next t) :
    InvKept s t := by
  unfold execLensCharacterReceived at h
  split at h <;> cases h
  · exact (completeIfDone_invKept s).trans (.of_quiet (by simp) (by simp) (by simp) (by simp))
  · unfold hearCharacter
    split
    · exact (readCharacter_invKept (by assumption)).trans (applyReception_invKept ..)
    · exact (readCharacter_invKept (by assumption)).trans (applyReception_invKept ..)
    · exact .refl s
  · exact .of_quiet (by simp) (by simp) (by simp) (by simp)

theorem lensFrameAbandoned_invKept {cause : AbandonCause} {s t : State} (h : execLensFrameAbandoned cause s = .next t) :
    InvKept s t := by
  unfold execLensFrameAbandoned at h
  split at h <;> cases h
  · unfold abandonByCharacter
    split
    · exact (readCharacter_invKept (by assumption)).trans (applyReception_invKept ..)
    · exact .refl s
  · unfold abandonByGap
    split
    · exact .refl s
    · exact .of_quiet (by simp) (by simp) (by simp) (by simp)

/-- A received frame is taken by the step that names it (R45, R46, R51, R57). -/
theorem discardFrame_invKept (check : LineChar) (s : State) : InvKept s (discardFrame check s) := by
  unfold discardFrame
  split
  · exact (frameEnding_invKept (by assumption)).trans (.of_quiet (by simp) (by simp) (by simp) (by simp))
  · exact .refl s

theorem takePositionFrame_invKept (check : LineChar) (s : State) : InvKept s (takePositionFrame check s) := by
  unfold takePositionFrame
  split
  · exact (frameEnding_invKept (by assumption)).trans (.of_quiet (by simp) (by simp) (by simp) (by simp))
  · exact .refl s

theorem takeIdentityFrame_invKept (check : LineChar) (s : State) : InvKept s (takeIdentityFrame check s) := by
  unfold takeIdentityFrame
  split
  · exact (frameEnding_invKept (by assumption)).trans (.of_quiet (by simp) (by simp) (by simp) (by simp))
  · exact .refl s

theorem takeNoticeFrame_invKept (check : LineChar) (s : State) : InvKept s (takeNoticeFrame check s) := by
  unfold takeNoticeFrame
  split
  · exact (frameEnding_invKept (by assumption)).trans (.of_quiet (by simp) (by simp) (by simp) (by simp))
  · exact .refl s

theorem identityTimeout_invKept (s : State) : InvKept s (identityTimeout s) := by
  simp only [identityTimeout]
  repeat' split
  all_goals exact .of_quiet (by simp) (by simp) (by simp) (by simp)

theorem frameStarts_invKept (s : State) : InvKept s (frameStarts s) := by
  unfold frameStarts
  split <;> exact .of_quiet (by simp) (by simp) (by simp) (by simp)

theorem frameCancelled_invKept (s : State) : InvKept s (frameCancelled s) := by
  simp only [frameCancelled]
  repeat' split
  all_goals exact .of_quiet (by simp) (by simp) (by simp) (by simp)

theorem windowEnds_invKept (s : State) : InvKept s (windowEnds s) := by
  simp only [windowEnds]
  repeat' split
  all_goals exact .of_quiet (by simp) (by simp) (by simp) (by simp)

theorem seekExpires_invKept (s : State) : InvKept s (seekExpires s) := by
  simp only [seekExpires]
  repeat' split
  all_goals exact .of_quiet (by simp) (by simp) (by simp) (by simp)

/-! ### The gyro port's steps and the quiet interval (R87, R88, R204) -/

theorem sampleTimerExpires_invKept (s : State) : InvKept s (sampleTimerExpires s) := by
  unfold sampleTimerExpires
  repeat' split
  all_goals exact .of_quiet (by simp) (by simp) (by simp) (by simp)

theorem sampleEvent_invKept (gdi : GdiLevels) (s : State) : InvKept s (sampleEvent gdi s) := by
  unfold sampleEvent
  split <;> exact .of_quiet (by simp) (by simp) (by simp) (by simp)

theorem quietEnds_invKept (s : State) : InvKept s (quietEnds s) := by
  unfold quietEnds
  split
  · exact .of_quiet rfl rfl rfl ⟨fun _ => rfl, id, id⟩
  · exact .refl s

/-! ### The resets and BIAS CAPTURE (R93, R193) -/

/-- The report unit's reset empties its queue, which no held report outlives (R206, R190). -/
theorem resetReport_invKept {s : State} (h : s.command.held = []) : InvKept s (resetReport s) :=
  .of_quiet rfl rfl rfl ⟨fun _ => rfl, fun ⟨_, hc, he, hs, _⟩ => ⟨by simp [resetReport, evaluateAttn], hc,
    by simpa [resetReport, evaluateAttn] using he, hs, by simp [resetReport, evaluateAttn, h]⟩, id⟩

theorem resetPart_invKept {s : State} (h : s.command.held = []) : InvKept s (resetPart s) := by
  let u := resetStab (resetLens (resetReport s))
  have hu : InvKept (resetReport s) u := .of_quiet (by simp [u]) (by simp [u]) (by simp [u]) (by simp [u])
  have hf : InvKept u (resetFrame u) := resetFrame_invKept u
  exact ((resetReport_invKept h).trans hu).trans (hf.trans (.of_quiet (by simp [resetPart, u]) (by simp [resetPart, u])
    (by simp [resetPart, u]) (by simp [resetPart, u])))

theorem runBiasCapture_invKept (s : State) : InvKept s (runBiasCapture s) := by
  have hb : ∀ r (u : State), (biasCapture r u).1.path = u.path ∧ (biasCapture r u).1.frame = u.frame
      ∧ (biasCapture r u).1.record = u.record ∧ (biasCapture r u).1.report = u.report
      ∧ (biasCapture r u).1.command = u.command ∧ ∀ c, (biasCapture r u).2 = some c → c.moves = none := by
    intro r u
    unfold biasCapture
    repeat' split
    all_goals simp
  have hk : ∀ r, InvKept s (biasCapture r (popCommand s)).1 := fun r => by
    obtain ⟨hp, hf, hr, hu, hc, -⟩ := hb r (popCommand s)
    exact (popCommand_invKept s).trans (.of_quiet hp hf (by rw [hr]) (by rw [hu, hc]; exact .refl ..))
  unfold runBiasCapture
  split
  · rename_i r hn
    split
    · have hm := hb r (popCommand s)
      have hk := hk r
      split
      · rename_i t c hx
        rw [hx] at hk hm
        exact hk.trans (offer_invKept (by simp [completionReport, Report.moves, hm.2.2.2.2.2 c rfl, movable]) _)
      · rename_i t hx
        rw [hx] at hk
        exact hk
    · exact .refl s
  · exact .refl s

/-! ### Every step -/

/-- Every step keeps the six invariants. -/
theorem exec_invKept {i : Instr} {s t : State} (h : exec i s = .next t) : InvKept s t := by
  cases i
  case pinReset cws e => cases h; exact pinReset_invKept cws e s
  case upstreamWriteAccepted b =>
    simp only [exec, execUpstreamWriteAccepted] at h
    split at h <;> cases h
    exact presentRequest_invKept ..
  case upstreamReadAccepted b =>
    simp only [exec, execUpstreamReadAccepted] at h
    split at h <;> cases h
    exact presentRequest_invKept ..
  case arbiterIssue => cases h; exact issueNext_invKept s
  case readReturn a =>
    simp only [exec, execReadReturn] at h
    repeat' split at h
    all_goals cases h
    · exact (answered_invKept s).trans (finishResponse_invKept ..)
    · exact beatsReturn_invKept (by assumption) (by assumption)
  case forwardedWriteResponse d =>
    simp only [exec, execForwardedWriteResponse] at h
    repeat' split at h
    all_goals cases h
    all_goals exact (answered_invKept s).trans (finishResponse_invKept ..)
  case injectedWriteResponse d =>
    simp only [exec, execInjectedWriteResponse] at h
    split at h <;> cases h
    split
    · exact answered_invKept s
    · exact (answered_invKept s).trans (.of_quiet (by simp) (by simp) (by simp) (by simp))
  case upstreamResponseReturned tag => cases h; exact returnResponse_invKept tag s
  case frameMarkTimerExpiry => cases h; exact timerExpiry_invKept s
  case metadataRecordJoins => cases h; exact waitingMetadataJoins_invKept s
  case lensFrameAbandoned => exact lensFrameAbandoned_invKept h
  case lensFrameDiscarded check => cases h; exact discardFrame_invKept check s
  case positionTaken check => cases h; exact takePositionFrame_invKept check s
  case identityTaken check => cases h; exact takeIdentityFrame_invKept check s
  case noticeTaken check => cases h; exact (takeNoticeFrame_invKept check s).trans (settle_invKept _)
  case identityReplyTimeout => cases h; exact identityTimeout_invKept s
  case lensFrameStart => cases h; exact frameStarts_invKept s
  case lensFrameComplete => cases h; exact frameCompletes_invKept s
  case lensFrameCancelled => cases h; exact frameCancelled_invKept s
  case replyWindowExpiry => cases h; exact windowEnds_invKept s
  case seekTimerExpiry => cases h; exact seekExpires_invKept s
  case lensCharacterReceived => exact lensCharacterReceived_invKept h
  case sampleTimerExpiry => cases h; exact sampleTimerExpires_invKept s
  case sampleEvent gdi => cases h; exact sampleEvent_invKept gdi s
  case quietIntervalEnd => cases h; exact quietEnds_invKept s
  case reportLeavesQueue => cases h; exact (reportLeaves_invKept s).trans (settle_invKept _)
  case heldReportJoins => cases h; exact (placeGiven_invKept s).trans (settle_invKept _)
  case setWindow => cases h; exact (runCommand_invKept (fun r s _ => setWindow_invKept r s) s).trans (settle_invKept _)
  case clearWindow => cases h; exact (runCommand_invKept (fun r s _ => clearWindow_invKept r s) s).trans (settle_invKept _)
  case recordSetup => cases h; exact (runCommand_invKept (fun r s _ => recordSetup_invKept r s) s).trans (settle_invKept _)
  case recStart => cases h; exact (runCommand_invKept_of_quiet recStart_quiet s).trans (settle_invKept _)
  case resetJobFrame => cases h; exact runCommand_invKept (fun _ s _ => ⟨resetFrame_invKept s, rfl⟩) s
  case resetJobReport => cases h; exact runCommand_invKept (fun _ _ hh => ⟨resetReport_invKept hh, rfl⟩) s
  case resetJobPart => cases h; exact runCommand_invKept (fun _ _ hh => ⟨resetPart_invKept hh, rfl⟩) s
  case setFrameRate => cases h; exact runCommand_invKept (fun r s _ => setFrameRate_invKept r s) s
  case setTimecode => cases h; exact runCommand_invKept (fun r s _ => setTimecode_invKept r s) s
  case setTimecodeMode => cases h; exact runCommand_invKept (fun r s _ => setTimecodeMode_invKept r s) s
  case biasCapture => cases h; exact runBiasCapture_invKept s
  case unknownCommand => cases h; exact runCommand_invKept_of_quiet unknownCommand_quiet s
  case setEventMask => cases h; exact runCommand_invKept_of_quiet setEventMask_quiet s
  case ackEvent => cases h; exact runCommand_invKept_of_quiet ackEvent_quiet s
  case serviceDone => cases h; exact runCommand_invKept_of_quiet serviceDone_quiet s
  case raiseEvent => cases h; exact runCommand_invKept_of_quiet raiseCommand_quiet s
  case statusRequest => cases h; exact runCommand_invKept_of_quiet statusRequest_quiet s
  case resetJobLens => cases h; exact runCommand_invKept_of_quiet resetJobLens_quiet s
  case resetJobStab => cases h; exact runCommand_invKept_of_quiet resetJobStab_quiet s
  case resetJobAudio => cases h; exact runCommand_invKept_of_quiet resetJobAudio_quiet s
  case resetJobOverlay => cases h; exact runCommand_invKept_of_quiet resetJobOverlay_quiet s
  case resetJobRecord => cases h; exact runCommand_invKept_of_quiet resetJobRecord_quiet s
  case lensLinkEnable => cases h; exact runCommand_invKept_of_quiet lensEnable_quiet s
  case lensLinkDisable => cases h; exact runCommand_invKept_of_quiet lensDisable_quiet s
  case lensLinkReSeek => cases h; exact runCommand_invKept_of_quiet lensReSeek_quiet s
  case setAxisSource => cases h; exact runCommand_invKept_of_quiet setAxisSource_quiet s
  case setDirectDemand => cases h; exact runCommand_invKept_of_quiet setDirectDemand_quiet s
  case setRocker => cases h; exact runCommand_invKept_of_quiet setRocker_quiet s
  case setOverride => cases h; exact runCommand_invKept_of_quiet setOverride_quiet s
  case engineAppend => cases h; exact runCommand_invKept_of_quiet engineAppend_quiet s
  case engineModeRun => cases h; exact runCommand_invKept_of_quiet engineModeRun_quiet s
  case engineModeStep => cases h; exact runCommand_invKept_of_quiet engineModeStep_quiet s
  case engineModeHold => cases h; exact runCommand_invKept_of_quiet engineModeHold_quiet s
  case engineFlush => cases h; exact runCommand_invKept_of_quiet engineFlush_quiet s
  case gyroSetup => cases h; exact runCommand_invKept_of_quiet gyroSetup_quiet s
  case stabSetup => cases h; exact runCommand_invKept_of_quiet stabSetup_quiet s
  case stabMode => cases h; exact runCommand_invKept_of_quiet stabMode_quiet s
  case stabRecentre => cases h; exact runCommand_invKept_of_quiet stabRecentre_quiet s
  case overlayBegin => cases h; exact runCommand_invKept_of_quiet overlayBegin_quiet s
  case overlayElement => cases h; exact runCommand_invKept_of_quiet overlayElement_quiet s
  case overlayCommit => cases h; exact runCommand_invKept_of_quiet overlayCommit_quiet s
  case setPalette => cases h; exact runCommand_invKept_of_quiet setPalette_quiet s
  case setZebra => cases h; exact runCommand_invKept_of_quiet setZebra_quiet s
  case audioRoute => cases h; exact runCommand_invKept_of_quiet audioRoute_quiet s
  case audioLimiter => cases h; exact runCommand_invKept_of_quiet audioLimiter_quiet s
  case audioMeter => cases h; exact runCommand_invKept_of_quiet audioMeter_quiet s
  case audioSyncReset => cases h; exact runCommand_invKept_of_quiet audioSyncReset_quiet s
  case recStop => cases h; exact runCommand_invKept_of_quiet recStop_quiet s
  case clipDiscard => cases h; exact runCommand_invKept_of_quiet clipDiscard_quiet s

/-- The clock moving on by itself keeps the six invariants, and so does the taking of a step off the queue. -/
theorem step_invKept {s t : State} (h : step s = .next t) : InvKept s t := by
  unfold step at h
  split at h
  · rename_i c rest _
    exact (InvKept.of_quiet (s := s) (t := { s with pending := rest }) rfl rfl rfl (.refl ..)).trans (exec_invKept h)
  · cases h
    exact .of_quiet rfl rfl rfl (.refl ..)

end Sys2Proof.Machine

namespace Sys2Proof.Proofs

open Sys2Proof Sys2Proof.Machine

/-- Settles O7: each of the four invariants is kept by every operation of a step, and so by every step. -/
theorem stepKeepsTableAndFrames : Obligations.StepKeepsTableAndFrames := by
  intro s t h
  have hk := step_invKept h
  exact ⟨hk.table, hk.crop, hk.history, hk.timecode⟩

/-- Settles O8: the report unit is touched by occurrences, offers and departures alone, which keep its queues in order. -/
theorem stepKeepsReports : Obligations.StepKeepsReports := by
  intro s t h
  have hk := step_invKept h
  exact ⟨hk.attn, hk.queue⟩

/-- Settles O10: the reset values of every block, block by block. -/
theorem pinResetMeetsInvariants : Obligations.PinResetMeetsInvariants := by
  intro cws e
  refine ⟨rfl, queueInv_reset cws e, historyInv_reset cws e, timecodeInv_reset cws e, lensInv_reset cws e, ?_, ?_, ?_, ?_, ?_,
    ?_, cropInv_reset cws e, Nat.zero_le _⟩
  · simp [AxisInv, AxisController.reset, sourceFits]
  · simp only [EngineInv, Engine.wf, atPinReset_engines]; decide
  · simp [StabInv, Stabiliser.reset]; decide
  · simp only [OverlayInv, Overlay.countIn, atPinReset_overlay]; decide
  · simp only [AudioInv, AudioOutput.wf, atPinReset_audio]; decide
  · simp [RecordInv, RecordTracker.reset]

/-- Settles O11: each block's reset value is the one its reset rule states. -/
theorem pinResetState : Obligations.PinResetState := by
  intro cws e s
  refine ⟨_, rfl, ?_⟩
  have engines : ∀ id : EngineId, MoveEngines.get ⟨Engine.reset, Engine.reset, Engine.reset⟩ id =
      { queue := [], mode := .run, state := .idle, move := none, output := 0, received := 0 } := fun id => by cases id <;> rfl
  have outputs : ∀ c, AudioUnit.reset.outputs.get c = {
      route := { source := c, gain := some 0, limiter := false }, r := 16384, peak := 0,
      clip := false, displayed := 0, decay := 0, held := 0, hold := 0 } := fun c => by cases c <;> rfl
  have expiry : FrameTracker.reset.expiry = 0 + 8 * 1080000 := by simp [FrameTracker.reset]
  cases e <;> and_intros
  all_goals first | exact expiry | exact engines | exact outputs | rfl

end Sys2Proof.Proofs
end

section
/-! SUPPORT. The arithmetic words, the byte orders and the small lookups as numbers (00_scope 3.2, 3.3, R3, R43, R44, R207). -/

namespace Sys2Proof.Machine

/-! ### Rounding (00_scope 3.3) -/

/-- The quotient rounded is a nearest one, and of two nearest the one further from zero. -/
theorem roundDiv_nearest {a : Int} {b : Nat} (hb : 0 < b) :
    2 * (a - b * roundDiv a b).natAbs ≤ b
      ∧ (2 * (a - b * roundDiv a b).natAbs = b → a.natAbs ≤ b * (roundDiv a b).natAbs) := by
  -- with q the rounded quotient of the sizes, 2|a| + b lies from 2bq to below 2bq + 2b
  obtain ⟨q, hlo, hhi, hq⟩ : ∃ q : Nat, 2 * (b * q) ≤ 2 * a.natAbs + b ∧ 2 * a.natAbs + b < 2 * (b * q) + 2 * b
      ∧ roundDiv a b = if a < 0 then -(q : Int) else q := by
    refine ⟨(2 * a.natAbs + b) / (2 * b), ?_, ?_, rfl⟩
    · rw [← mul_assoc]
      exact Nat.mul_div_le ..
    · rw [← mul_assoc]
      exact Nat.lt_mul_div_succ _ (by omega)
  rw [hq]
  split
  · rw [mul_neg, Int.natAbs_neg, Int.natAbs_natCast, ← Int.natCast_mul]
    generalize b * q = m at *
    omega
  · rw [Int.natAbs_natCast, ← Int.natCast_mul]
    generalize b * q = m at *
    omega

theorem truncDiv_eq_tdiv (a : Int) (b : Nat) : truncDiv a b = Int.tdiv a b := by
  unfold truncDiv
  split
  · rename_i h
    obtain ⟨n, rfl⟩ : ∃ n : Nat, a = -(n : Int) := ⟨a.natAbs, by omega⟩
    rw [Int.neg_tdiv, Int.natAbs_neg, Int.natAbs_natCast, Int.ofNat_tdiv]
  · obtain ⟨n, rfl⟩ : ∃ n : Nat, a = (n : Int) := ⟨a.natAbs, by omega⟩
    rw [Int.natAbs_natCast, Int.ofNat_tdiv]

/-! ### Bytes (00_scope 3.2, R44, R207) -/

theorem ofLe_take_eq_sum (bytes : List Byte) (n : Nat) :
    ofLe (bytes.take n) = ((List.range n).map fun i => (bytes.getD i 0).toNat * 256 ^ i).sum := by
  induction n generalizing bytes with
  | zero => simp [ofLe]
  | succ n ih =>
    rw [List.range_succ_eq_map, List.map_cons, List.sum_cons, List.map_map]
    cases bytes with
    | nil => simp [ofLe, Function.comp_def]
    | cons b bs =>
      rw [List.take_succ_cons, ofLe, ih bs, ← List.sum_map_mul_left]
      simp [Function.comp_def, pow_succ, mul_comm, mul_assoc]

/-- A field of n bytes is little-endian. -/
theorem field_eq_sum (bytes : List Byte) (k n : Nat) :
    field bytes k n = ((List.range n).map fun i => (bytes.getD (k + i) 0).toNat * 256 ^ i).sum := by
  rw [field, ofLe_take_eq_sum]
  simp [List.getD_eq_getElem?_getD, List.getElem?_drop]

@[simp] theorem leNat_length (n v : Nat) : (leNat n v).length = n := by
  induction n generalizing v with
  | zero => rfl
  | succ n ih => simp [leNat, ih]

/-- Byte i of a little-endian value. -/
theorem leNat_getD {n v i : Nat} (h : i < n) : ((leNat n v).getD i 0).toNat = v / 256 ^ i % 256 := by
  induction n generalizing v i with
  | zero => omega
  | succ n ih =>
    cases i with
    | zero => simp [leNat]
    | succ i => simpa [leNat, pow_succ, Nat.div_div_eq_div_mul, mul_comm] using ih (v := v / 256) (i := i) (by omega)

/-- A field of m + n bytes is one of m bytes and one of n bytes behind it. -/
theorem field_add (bytes : List Byte) (k m n : Nat) :
    field bytes k (m + n) = field bytes k m + 256 ^ m * field bytes (k + m) n := by
  simp only [field_eq_sum, List.range_add, List.map_append, List.sum_append, List.map_map, ← List.sum_map_mul_left]
  congr 3
  funext i
  simp only [Function.comp_apply, pow_add, add_assoc]
  ring

theorem byte_eq_getD (r : CommandRecord) (k : Nat) : r.byte k = (r.params.getD (k - 4) 0).toNat := by
  simp [CommandRecord.byte, field_eq_sum]

theorem half_eq_bytes (r : CommandRecord) {k : Nat} (hk : 4 ≤ k) : r.half k = r.byte k + 256 * r.byte (k + 1) := by
  rw [CommandRecord.half, field_add r.params (k - 4) 1 1, pow_one, show k - 4 + 1 = k + 1 - 4 by omega]
  rfl

theorem word_eq_halves (r : CommandRecord) {k : Nat} (hk : 4 ≤ k) : r.word k = r.half k + 65536 * r.half (k + 2) := by
  rw [CommandRecord.word, field_add r.params (k - 4) 2 2, show k - 4 + 2 = k + 2 - 4 by omega, show 256 ^ 2 = 65536 by norm_num]
  rfl

theorem sumBytes_toNat (bytes : List Byte) : (sumBytes bytes).toNat = (bytes.map fun b => b.toNat).sum % 256 := by
  have acc : ∀ (l : List Byte) (a : Byte), (l.foldl (fun a b => a + b) a).toNat = (a.toNat + (l.map fun b => b.toNat).sum) % 256 := by
    intro l
    induction l with
    | nil => intro a; simp; exact (Nat.mod_eq_of_lt a.isLt).symm
    | cons b l ih => intro a; simp [ih, BitVec.toNat_add, add_assoc]
  simpa [sumBytes] using acc bytes 0

theorem ofLe_eq_take_add_drop (bytes : List Byte) (n : Nat) :
    ofLe bytes = ofLe (bytes.take n) + 256 ^ n * ofLe (bytes.drop n) := by
  induction n generalizing bytes with
  | zero => simp [ofLe]
  | succ n ih =>
    cases bytes with
    | nil => simp [ofLe]
    | cons b bs =>
      rw [List.take_succ_cons, List.drop_succ_cons, ofLe, ofLe, ih bs]
      ring

/-- A beat is its first 8 bytes, little-endian. -/
theorem beatOfBytes_eq_field (bytes : List Byte) : beatOfBytes bytes = BitVec.ofNat 64 (field bytes 0 8) := by
  apply BitVec.eq_of_toNat_eq
  rw [beatOfBytes, field, List.drop_zero, BitVec.toNat_ofNat, BitVec.toNat_ofNat, ofLe_eq_take_add_drop bytes 8,
    show 256 ^ 8 = 2 ^ 64 by norm_num, Nat.add_mul_mod_self_left]

/-! ### Sequences, characters, windows (3.3, R3, R43) -/

theorem laterThan_iff (a b : Half) : laterThan a b = true ↔ 1 ≤ (a - b).toNat ∧ (a - b).toNat ≤ 32767 := by
  rw [laterThan, Bool.and_eq_true]
  exact and_congr decide_eq_true_iff decide_eq_true_iff

theorem lineCharBad_iff (c : LineChar) : LineCharBad c = true ↔ c.stopHigh = false
    ∨ (((List.range 8).filter fun i => c.data.getLsbD i).length + if c.parity then 1 else 0) % 2 = 0 := by
  simp [LineCharBad, onesOf, or_comm]

theorem holds_iff (w : WindowRecord) (a : Nat) : w.holds a = true ↔ w.base ≤ a ∧ a < w.base + 2 ^ w.sizeExp := by
  rw [WindowRecord.holds, Bool.and_eq_true]
  exact and_congr decide_eq_true_iff decide_eq_true_iff

theorem placeOk_iff (base e : Nat) : placeOk base e = true ↔ 12 ≤ e ∧ e ≤ 30 ∧ 2 ^ e ∣ base := by
  simp [placeOk, Nat.dvd_iff_mod_eq_zero, and_assoc]

theorem holdsRecord_iff (e : Option WindowRecord) : holdsRecord e = true ↔ ∃ w, e = some w ∧ w.role = .record := by
  cases e <;> simp [holdsRecord]

/-- The geometry in use is that of the FRAME window (R22). -/
theorem geometry_eq_some {s : State} {base : Nat} {g : Geometry} : s.geometry = some (base, g) ↔
    ∃ w, s.window .frame = some w ∧ w.params = .frame g ∧ base = w.base := by
  unfold State.geometry
  cases s.window .frame with
  | none => simp
  | some w => cases h : w.params <;> simp [h, eq_comm, and_comm]

/-- The ring in use is that of the RECORD window (R151). -/
theorem ring_eq_some {s : State} {size : Nat} {setup : RingSetup} : s.ring = some (size, setup) ↔
    ∃ w, s.window .record = some w ∧ w.params = .record setup ∧ size = w.size := by
  unfold State.ring
  cases s.window .record with
  | none => simp
  | some w => cases h : w.params <;> simp [h, eq_comm, and_comm]

theorem reportCanLeave_iff {s : State} : reportCanLeave s = true ↔ (s.window .report).isSome = true ∧ s.report.queue ≠ []
    ∧ slotState s.report.slots s.report.nextSlot = none ∧ s.path.injected.length < 8 := by
  simp [reportCanLeave, and_assoc]

/-- An occurrence: its kind pending, its count advanced, ATTN evaluated, its report offered (R199). -/
theorem raiseEvent_offer (p : EventPayload) (s : State) :
    raiseEvent p s = offer (.event p.kind ((s.report.events.modify (p.kind.number - 1) fun e =>
        { e with pending := true, count := e.count + 1 }).getD (p.kind.number - 1) ⟨false, true, 0⟩).count p false)
      { s with report := { s.report with
        events := s.report.events.modify (p.kind.number - 1) fun e => { e with pending := true, count := e.count + 1 }
        attn := ((s.report.events.modify (p.kind.number - 1) fun e =>
          { e with pending := true, count := e.count + 1 }).any fun e => e.pending && !e.masked)
            && s.report.quietEnd.isNone } } := rfl

theorem signed_of_width {n v : Nat} : signed (n + 1) v = if v < 2 ^ n then (v : Int) else (v : Int) - ((2 ^ (n + 1) : Nat) : Int) := rfl

end Sys2Proof.Machine

namespace Sys2Proof.Proofs

open Sys2Proof Sys2Proof.Machine

/-- Settles O3, each clause by the lemma that says so of its operation. -/
theorem sharedOperations : Obligations.SharedOperations := by
  refine ⟨fun a b hb => ⟨roundDiv_nearest hb, truncDiv_eq_tdiv a b⟩, field_eq_sum, fun n v i => ⟨leNat_length n v, leNat_getD⟩,
    fun n v => rfl, fun v => ⟨signed_of_width (n := 15), signed_of_width (n := 23), by simp [byteOf]⟩,
    fun r k n hk => ⟨byte_eq_getD r k, half_eq_bytes r hk, word_eq_halves r hk, rfl, rfl⟩, sumBytes_toNat, laterThan_iff,
    lineCharBad_iff, rfl, rfl, fun w a => ⟨rfl, holds_iff w a⟩, placeOk_iff, holdsRecord_iff,
    fun b => by simp [WriteBurst.wellFormed, Nat.dvd_iff_mod_eq_zero, and_assoc],
    fun b => by simp [ReadBurst.wellFormed, Nat.dvd_iff_mod_eq_zero, and_assoc], ?_,
    fun k count p sw => ⟨rfl, by cases k <;> simp [Report.isMemoryFault]⟩, ?_, ?_, ?_,
    fun link => by cases link <;> simp [LinkState.up], fun c st => rfl, ?_, ?_⟩
  · exact beatOfBytes_eq_field
  · intro m i j g
    refine ⟨?_, rfl⟩
    split
    · subst j; exact m.get_set_self i g
    · exact m.get_set_other g (by assumption)
  · intro c a d x
    refine ⟨?_, by cases a <;> rfl, rfl, rfl, rfl⟩
    split
    · subst d; exact c.get_set_self a x
    · exact c.get_set_other x (by assumption)
  · intro o i j x
    refine ⟨?_, rfl⟩
    split
    · subst j; exact o.get_set_self i x
    · exact o.get_set_other x (by assumption)
  · intro slots j k st h
    refine ⟨setSlot_sorted k st h, ?_⟩
    split
    · subst j; exact slotState_setSlot_self slots k st
    · exact slotState_setSlot_other slots st (by assumption)
  · intro s
    refine ⟨fun i w => entryAt_eq_some, fun role i w => ?_, fun role w => State.window_eq_some, fun base g => geometry_eq_some,
      ?_, fun size setup => ring_eq_some, fun tag issued addr body => rfl, fun b beats => rfl, rfl, fun id a => rfl,
      reportCanLeave_iff, ?_, fun k => rfl, fun p => raiseEvent_offer p s, fun st => ?_⟩
    · rw [roleWindow_eq_some]
      simp [entry_eq_entryAt]
    · unfold State.ringSize
      cases s.ring <;> rfl
    · rw [popCommand, List.drop_one]
    · unfold Overlay.listIn Overlay.slots
      cases List.find? _ _ <;> rfl

end Sys2Proof.Proofs
end

section
/-! SUPPORT. Requests on the upstream link, the arbiter and DRAM's answers: what each step of the path unit does (R1, R2, R5, R6,
R13, R14, R16). -/

namespace Sys2Proof.Machine

/-! ### Classification (R4 to R6) -/

/-- A tag in no set of a window belongs to none; METADATA and PASS windows have no sets (R4, R5). -/
theorem memberSet_eq_none {w : WindowRecord} {tag : BitVec 4}
    (h : w.role = .metadata ∨ w.role = .pass ∨ ∀ m ∈ w.sets, m.getLsbD tag.toNat = false) : memberSet w tag = none := by
  unfold memberSet
  split
  · rfl
  · rfl
  · rename_i hm hp
    have hs := h.resolve_left hm |>.resolve_left hp
    exact List.findIdx?_eq_none_iff.2 hs

/-- A tag belongs by the first set that holds it (R5). -/
theorem memberSet_eq_some {w : WindowRecord} {tag : BitVec 4} {before behind : List Half} {m : Half} (hm : w.role ≠ .metadata)
    (hp : w.role ≠ .pass) (hs : w.sets = before ++ m :: behind) (hb : ∀ x ∈ before, x.getLsbD tag.toNat = false)
    (ht : m.getLsbD tag.toNat = true) : memberSet w tag = some before.length := by
  have hn : before.findIdx? (fun m => m.getLsbD tag.toNat) = none := List.findIdx?_eq_none_iff.2 hb
  unfold memberSet
  split
  · contradiction
  · contradiction
  · simp [hs, List.findIdx?_append, hn, List.findIdx?_cons, ht]

/-! ### Waiting requests (R1, R13) -/

/-- Holding back hangs on the windows and the record tracker alone (R13). -/
theorem wouldHoldBack_congr {s t : State} (hw : t.path.windows = s.path.windows) (hr : t.record = s.record) (b : WriteBurst) :
    wouldHoldBack b t = wouldHoldBack b s := by
  simp only [wouldHoldBack, classify, holdsBack, hw, hr]

/-- Of these requests none overtakes: a write that would be held back follows one of its own tag (R1). -/
def NoneOvertakes (s : State) (ahead requests : List Request) : Prop :=
  ∀ before w behind, requests = before ++ .write w :: behind → wouldHoldBack w s = true → ∃ r ∈ ahead ++ before, r.tag = w.tag

theorem NoneOvertakes.behind {s : State} {ahead rest : List Request} {r : Request} (h : NoneOvertakes s ahead (r :: rest)) :
    NoneOvertakes s (ahead ++ [r]) rest := fun before w behind hr hw => by
  obtain ⟨q, hq, ht⟩ := h (r :: before) w behind (by simp [hr]) hw
  exact ⟨q, by simpa using hq, ht⟩

theorem overtaking_eq_none {s : State} {ahead requests : List Request} (h : NoneOvertakes s ahead requests) :
    overtaking s ahead requests = none := by
  induction requests generalizing ahead with
  | nil => rfl
  | cons r rest ih =>
    cases r with
    | read b => exact ih h.behind
    | write b =>
      simp only [overtaking]
      split
      · rename_i hc
        simp only [Bool.and_eq_true, Bool.not_eq_true', List.any_eq_false, beq_iff_eq] at hc
        obtain ⟨q, hq, ht⟩ := h [] b rest rfl hc.1
        exact absurd ht (hc.2 q (by simpa using hq))
      · exact ih h.behind

/-- With the queue full and none to overtake, every waiting request waits on (R1). -/
theorem settleWaiting_of_full {n : Nat} {s : State} (hl : 16 ≤ s.path.passQueue.length)
    (h : NoneOvertakes s [] s.path.waiting) : settleWaiting n s = s := by
  cases n with
  | zero => rfl
  | succ n =>
    rw [settleWaiting]
    split
    · rfl
    · rw [if_neg (by omega), overtaking_eq_none h]

theorem presentRequest_of_full {r : Request} {s : State} (hl : 16 ≤ s.path.passQueue.length)
    (h : NoneOvertakes s [] (s.path.waiting ++ [r])) :
    presentRequest r s = { s with path := { s.path with waiting := s.path.waiting ++ [r] } } :=
  settleWaiting_of_full hl fun before w behind hr hw => h before w behind hr hw

/-- A read behind the waiting requests overtakes none, nor does any write that is not held back. -/
theorem NoneOvertakes.append {s : State} {requests : List Request} (h : NoneOvertakes s [] requests) {r : Request}
    (hr : ∀ b, r = .write b → wouldHoldBack b s = true → ∃ q ∈ requests, q.tag = b.tag) :
    NoneOvertakes s [] (requests ++ [r]) := fun before w behind hq hw => by
  rcases List.eq_nil_or_concat behind with rfl | ⟨behind, x, rfl⟩
  · obtain ⟨rfl, hx⟩ := List.append_inj' hq rfl
    exact hr w (by simpa using hx) hw
  · have hq' : requests ++ [r] = (before ++ .write w :: behind) ++ [x] := by simpa using hq
    exact h before w behind (List.append_inj' hq' rfl).1 hw

/-- The request at the end overtakes reads of other tags when it is a write that would be held back (R1). -/
theorem overtaking_of_reads {s : State} {ahead reads : List Request} {b : WriteBurst} (hb : wouldHoldBack b s = true)
    (ha : ∀ r ∈ ahead, r.tag ≠ b.tag) (hr : ∀ r ∈ reads, (∃ q, r = .read q) ∧ r.tag ≠ b.tag) :
    overtaking s ahead (reads ++ [.write b]) = some (ahead ++ reads, b, []) := by
  induction reads generalizing ahead with
  | nil =>
    have : (ahead.any fun r => r.tag == b.tag) = false := by simpa [List.any_eq_false] using ha
    simp [overtaking, hb, this]
  | cons r reads ih =>
    obtain ⟨⟨q, rfl⟩, ht⟩ := hr r List.mem_cons_self
    rw [List.cons_append, overtaking, ih (fun x hx => ?_) fun x hx => hr x (List.mem_cons_of_mem _ hx)]
    · simp
    · rcases List.mem_append.1 hx with hx | hx
      · exact ha x hx
      · rw [List.mem_singleton.1 hx]; exact ht

/-- A write that would be held back is one under the encoder set of the RECORD window, and its acceptance answers it without
forwarding it (R13). -/
theorem acceptWrite_of_wouldHoldBack {b : WriteBurst} {s : State} (h : wouldHoldBack b s = true) :
    ∃ cls, classify s b.addr.toNat b.beats.length b.tag = .belongs cls ∧ cls.window.role = .record ∧ cls.setIndex = 0
      ∧ acceptWrite b s = answerHeldBack b.tag (encoderWrite cls.window b.addr.toNat b.beats s).1 := by
  unfold wouldHoldBack at h
  split at h
  · rename_i cls hc
    split at h
    · rename_i setup hr hs hp
      exact ⟨cls, hc, hr, hs, by simp [acceptWrite, hc, ownerWrite, hr, hs, encoderWrite, hp, h]⟩
    · cases h
  · cases h

/-- An acceptance leaves the requests that wait behind it. -/
theorem acceptRequest_waiting (r : Request) (s : State) : (acceptRequest r s).path.waiting = s.path.waiting := by
  cases r with
  | write b =>
    unfold acceptRequest acceptWrite
    dsimp only
    split
    · rfl
    · simp [forwardWrite, forwardBurst]
    · rename_i cls hc
      obtain ⟨q, hq⟩ := ownerWrite_path cls b.addr.toNat b.beats s
      have hkept : (ownerWrite cls b.addr.toNat b.beats s).1.path.waiting = s.path.waiting := by rw [hq]
      split <;> rename_i hw <;> rw [hw] at hkept <;> exact hkept
  | read b =>
    unfold acceptRequest acceptRead
    dsimp only
    split <;> simp [forwardBurst]

/-- The acceptance of a write that is held back leaves the path unit as it is but for the response owed. -/
theorem acceptWrite_heldBack_path {b : WriteBurst} {s : State} (h : wouldHoldBack b s = true) :
    (acceptWrite b s).path = { s.path with
      responses := s.path.responses ++ [{ id := s.path.nextId, tag := b.tag, answer := some .done }]
      nextId := s.path.nextId + 1 } := by
  obtain ⟨cls, -, -, -, hacc⟩ := acceptWrite_of_wouldHoldBack h
  simp [hacc, answerHeldBack]

/-- A write that would be held back is accepted ahead of waiting reads of other tags, though the queue is full (R1, R13). -/
theorem presentRequest_overtaking {b : WriteBurst} {s : State} (hl : 16 ≤ s.path.passQueue.length) (hb : wouldHoldBack b s = true)
    (hr : ∀ r ∈ s.path.waiting, (∃ q, r = .read q) ∧ r.tag ≠ b.tag) :
    presentRequest (.write b) s = settleWaiting s.path.waiting.length (acceptWrite b s) := by
  have hover : overtaking { s with path := { s.path with waiting := s.path.waiting ++ [.write b] } } []
      (s.path.waiting ++ [.write b]) = some (s.path.waiting, b, []) :=
    overtaking_of_reads ((wouldHoldBack_congr rfl rfl b).trans hb) (by simp) hr
  unfold presentRequest settle
  simp only [List.length_append, List.length_singleton, settleWaiting, hover, if_neg hl.not_gt, List.append_nil]
  split
  · simp_all
  · rfl

/-! ### The arbiter (R14) -/

/-- The arbiter's choice is the oldest pass-through burst (R14). -/
theorem injectedNext_eq_false {p : PathUnit} (hp : p.passQueue ≠ []) (h : p.injected = [] ∨ p.arbiterCount < 4) :
    injectedNext p = false := by
  rcases h with h | h
  · simp [injectedNext, h]
  · simp [injectedNext, hp]
    omega

theorem injectedNext_eq_true {p : PathUnit} (hp : p.injected ≠ []) (h : p.passQueue = [] ∨ 4 ≤ p.arbiterCount) :
    injectedNext p = true := by
  rcases h with h | h
  · simp [injectedNext, h, hp]
  · simp [injectedNext, hp, h]

/-! ### Responses (R2) -/

/-- The first response owed to a tag, and what remains without it. -/
theorem firstResponse_append {tag : BitVec 4} {before behind : List Response} {r : Response} (hb : ∀ x ∈ before, x.tag ≠ tag)
    (hr : r.tag = tag) : firstResponse tag (before ++ r :: behind) = some r
      ∧ (before ++ r :: behind).eraseP (fun x => x.tag == tag) = before ++ behind := by
  have hn : before.find? (fun x => x.tag == tag) = none := by simpa [List.find?_eq_none] using hb
  refine ⟨by simp [firstResponse, List.find?_append, hn, hr], ?_⟩
  rw [List.eraseP_append_right _ (by simpa using hb), List.eraseP_cons_of_pos (by simpa using hr)]

end Sys2Proof.Machine

namespace Sys2Proof.Proofs

open Sys2Proof Sys2Proof.Machine

/-- Settles O16: the arbiter's choice decides which queue gives its first burst. -/
theorem arbiterIssues : Obligations.ArbiterIssues := by
  intro s
  refine ⟨fun hm => ?_, fun hm hq => ⟨fun p rest hp hi => ?_, fun w rest hw hp => ?_, fun hp hi => ?_⟩⟩
  · obtain ⟨m, hm⟩ := Option.isSome_iff_exists.1 hm
    simp [exec, execArbiterIssue, issueNext, hm]
  · simp [exec, execArbiterIssue, issueNext, hm, injectedNext_eq_false (by simp [hp]) hi, issuePass, hp, settle, hq,
      settleWaiting]
  · simp only [exec, execArbiterIssue, issueNext, hm, injectedNext_eq_true (p := s.path) (by simp [hw]) hp, if_true,
      issueInjected, hw, slotWritten]
    cases w.slot <;> rfl
  · simp [exec, execArbiterIssue, issueNext, hm, injectedNext, issuePass, hp, hi]

/-- Settles O17: the answer at the port becomes that of the burst's response, and the first response owed is returned. -/
theorem memoryAnswersPassOn : Obligations.MemoryAnswersPassOn := by
  refine ⟨fun tag s before behind r hs hb hr => ?_, fun s p hp => ⟨fun len beats hbody h1 => ⟨fun hl => ?_, fun hl => ?_⟩,
    fun len cls hbody => ⟨fun hb => ?_, fun beats hbe => ?_⟩, fun len cls hbody hb => ?_, fun beats done hbody => ?_⟩,
    fun s w hw => ⟨?_, fun hf => ?_, fun hf => ?_⟩⟩
  · obtain ⟨hfirst, herase⟩ := firstResponse_append (behind := behind) hb hr
    exact ⟨fun a ha => by simp [exec, execUpstreamResponseReturned, returnResponse, hs, hfirst, herase, ha],
      fun ha => by simp [exec, execUpstreamResponseReturned, returnResponse, hs, hfirst, ha]⟩
  · rw [exec_beats_return hp hbody h1 hl.le]
    simp [beatsReturn, substituteBeats, observeRead, hl, finishResponse, answered]
  · rw [exec_beats_return hp hbody h1 hl.le]
    simp [beatsReturn, substituteBeats, hl]
  · simp [exec, execReadReturn, hp, hbody, hb]
  · have : ¬ (1 ≤ beats.length ∧ s.path.beatsBack.length + beats.length ≤ len) := by
      rcases hbe with rfl | h
      · simp
      · omega
    simp only [exec, execReadReturn, hp, hbody, if_neg this]
  · simp [exec, execReadReturn, hp, hbody, hb, finishResponse, answered]
  · simp [exec, execForwardedWriteResponse, hp, hbody, finishResponse, answered]
  · simp [exec, execInjectedWriteResponse, hw, answered]
  · simp [exec, execInjectedWriteResponse, hw, answered, loseRecord, hf]
  · simp [exec, execInjectedWriteResponse, hw, answered, loseRecord, hf, markPending, evaluateAttn, attnCondition,
      unmaskedPending, EventKind.number]

/-- Settles O12: no owner acts on these bursts, so that their acceptance is that of any burst. -/
theorem foreignBurstForwarded : Obligations.ForeignBurstForwarded := by
  refine ⟨fun s a i w => ?_, fun s b q hwait => ⟨fun a len tag => ⟨fun hd => ?_, fun i w hd => ⟨fun hn => ?_,
    fun before m behind hm hp hs hb ht => ?_⟩⟩, fun hwf => ?_, fun hwf hl => ⟨fun hv => ?_, fun i hv => ?_⟩⟩⟩
  · rw [decidingWindow_eq_some]
    simp [entry_eq_entryAt]
  · simp [classify, hd]
  · simp [classify, hd, memberSet_eq_none hn]
  · simp [classify, hd, memberSet_eq_some hm hp hs hb ht]
  · have waits : 16 ≤ s.path.passQueue.length → wouldHoldBack b s = false →
        exec (.upstreamWriteAccepted b) s = .next { s with path := { s.path with waiting := [.write b] } } := fun hl hh => by
      have hn : NoneOvertakes s [] (s.path.waiting ++ [.write b]) :=
        NoneOvertakes.append (by simp [NoneOvertakes, hwait]) fun c hc hcc => by cases hc; simp [hh] at hcc
      simp only [exec, execUpstreamWriteAccepted, hwf, if_true, presentRequest_of_full hl hn, hwait, List.nil_append]
    refine ⟨fun hv => ⟨fun hl => ?_, fun hl => waits hl ?_⟩, fun i hv => ⟨fun hl => ?_, fun hl => waits hl ?_⟩,
      fun c hv hc => ⟨fun hl => ?_, fun hl => waits hl ?_⟩⟩
    · rw [exec_write_accepted hwf hwait hl]
      simp [acceptWrite, hv, forwardWrite, forwardBurst]
    · simp [wouldHoldBack, hv]
    · rw [exec_write_accepted hwf hwait hl]
      simp [acceptWrite, hv, forwardWrite, forwardBurst, raiseStraddle]
    · simp [wouldHoldBack, hv]
    · rw [exec_write_accepted hwf hwait hl]
      have ho : ownerWrite c b.addr.toNat b.beats s = (s, some b.beats) := by
        unfold ownerWrite
        rcases hc with ⟨hr, hi⟩ | ⟨hr, hi⟩ | hr <;> split <;> simp_all
      simp [acceptWrite, hv, ho, forwardWrite, forwardBurst]
    · unfold wouldHoldBack
      rcases hc with ⟨hr, hi⟩ | ⟨hr, hi⟩ | hr <;> simp [hv, hr]
      split <;> simp_all
  · rw [exec_read_accepted hwf hwait hl]
    simp [acceptRead, hv, forwardBurst]
  · rw [exec_read_accepted hwf hwait hl]
    simp [acceptRead, hv, forwardBurst, raiseStraddle]

/-- Settles O13: with the queue full, what waits is left to wait unless a write that would be held back may overtake. -/
theorem waitingRequestsAccepted : Obligations.WaitingRequestsAccepted := by
  intro s
  refine ⟨fun b hb => ?_, fun hl => ⟨fun b hwf hs => ?_, fun b hwf hs => ?_⟩, fun hw hl => ⟨fun b hwf => ?_, fun b hwf => ?_⟩,
    fun p rest r later hm hp hrest hi hw hu hs => ?_, fun b hwf hl hb hr => ?_⟩
  · obtain ⟨cls, hc, hrole, hset, -⟩ := acceptWrite_of_wouldHoldBack hb
    exact ⟨cls, hc, hrole, hset⟩
  · have hn : NoneOvertakes s [] (s.path.waiting ++ [.read b]) := NoneOvertakes.append hs (by simp)
    simp only [exec, execUpstreamReadAccepted, hwf, if_true, presentRequest_of_full hl hn]
  · simp only [exec, execUpstreamWriteAccepted, hwf, if_true, presentRequest_of_full hl hs]
  · exact exec_write_accepted hwf hw hl
  · exact exec_read_accepted hwf hw hl
  · simp only [exec, execArbiterIssue, issueNext, hm, injectedNext_eq_false (p := s.path) (by simp [hp]) hi, issuePass, hp,
      settle, hw, List.length_cons, settleWaiting, hrest]
    simp only [Bool.false_eq_true, if_false, Nat.reduceLT, if_true, Host.Outcome.next.injEq]
    refine settleWaiting_of_full hu.ge ?_
    rw [acceptRequest_waiting]
    exact hs
  · have hacc := acceptWrite_heldBack_path hb
    have hn : NoneOvertakes (acceptWrite b s) [] (acceptWrite b s).path.waiting := fun before w behind hw _ => by
      rw [hacc] at hw
      obtain ⟨⟨q, hq⟩, -⟩ := hr (.write w) (by rw [show s.path.waiting = _ from hw]; simp)
      cases hq
    refine ⟨acceptWrite b s, ?_, by simp [hacc]⟩
    simp only [exec, execUpstreamWriteAccepted, hwf, if_true, presentRequest_overtaking hl hb hr]
    rw [settleWaiting_of_full (by simpa [hacc] using hl) hn]

end Sys2Proof.Proofs
end

section
/-! SUPPORT. The report queue and the injected-write queue: what an offer, an opened place and a departure do, and how a
waiting metadata record joins (R7, R15, R196 to R199). -/

namespace Sys2Proof.Machine

/-- A report of every kind but EVENT joins a queue with a place and no report held before it (R196). -/
theorem offer_joins {s : State} {r : Report} (hr : ∀ k c p b, r ≠ .event k c p b) (hw : (s.window .report).isSome = true)
    (hl : s.report.queue.length < 16) (hh : s.command.held = []) : offer r s = enqueueReport r s := by
  obtain ⟨w, hw⟩ := Option.isSome_iff_exists.1 hw
  cases r with
  | event k c p b => exact absurd rfl (hr k c p b)
  | completion => simp [offer, hw, hl, hh]
  | status => simp [offer, hw, hl, hh]

/-- Otherwise it is held behind the held reports (R197). -/
theorem offer_holds {s : State} {r : Report} (hr : ∀ k c p b, r ≠ .event k c p b) (hw : (s.window .report).isSome = true)
    (h : 16 ≤ s.report.queue.length ∨ s.command.held ≠ []) :
    offer r s = { s with command := { s.command with held := s.command.held ++ [r] } } := by
  obtain ⟨w, hw⟩ := Option.isSome_iff_exists.1 hw
  have hn : ¬ (s.report.queue.length < 16 ∧ s.command.held = []) := fun ⟨hl, hh⟩ => h.elim (by omega) fun h => h hh
  cases r with
  | event k c p b => exact absurd rfl (hr k c p b)
  | completion => simp [offer, hw, hn]
  | status => simp [offer, hw, hn]

/-- An event report joins a queue with a place and is dropped by a full one (R196, R197). -/
theorem offer_event {s : State} {k : EventKind} {c : Byte} {p : EventPayload} {b : Bool}
    (hw : (s.window .report).isSome = true) : offer (.event k c p b) s =
      if s.report.queue.length < 16 then enqueueReport (.event k c p b) s else dropEvent k s := by
  obtain ⟨w, hw⟩ := Option.isSome_iff_exists.1 hw
  simp [offer, hw]

/-- With no REPORT window every report is discarded (R198). -/
theorem offer_discards {s : State} (r : Report) (hw : s.window .report = none) : offer r s = applyMove r s := by
  simp [offer, hw]

/-- An opened place goes to the drop report if one waits (R197). -/
theorem placeGiven_drop {s : State} {d : DropReport} (hw : (s.window .report).isSome = true) (hl : s.report.queue.length < 16)
    (hd : s.report.drop = some d) : placeGiven s = dropReportJoins d s := by
  simp [placeGiven, hw, hl, hd]

/-- Otherwise it goes to the oldest held report (R197). -/
theorem placeGiven_held {s : State} {r : Report} {rest : List Report} (hw : (s.window .report).isSome = true)
    (hl : s.report.queue.length < 16) (hd : s.report.drop = none) (hh : s.command.held = r :: rest) :
    placeGiven s = enqueueReport r { s with command := { s.command with held := rest } } := by
  simp [placeGiven, hw, hl, hd, hh]

theorem placeGiven_none {s : State} (hd : s.report.drop = none) (hh : s.command.held = []) : placeGiven s = s := by
  simp [placeGiven, hd, hh]

/-- A report's move changes entry 0 alone (R20). -/
theorem applyMove_eq (r : Report) (s : State) : applyMove r s = { s with path := { s.path with windows := match r with
    | .completion _ _ _ _ (some w) => s.path.windows.set 0 (some w)
    | _ => s.path.windows } } := by
  cases r with
  | completion a b c d m => cases m <;> rfl
  | event => rfl
  | status => rfl

theorem settle_enqueueReport (r : Report) {s : State} (h : s.path.waiting = []) :
    settle (enqueueReport r s) = enqueueReport r s :=
  settle_of_waiting_nil (by rw [enqueueReport, applyMove_eq]; exact h)

/-- A report write stands behind the report writes queued and ahead of every metadata write (R15). -/
theorem insertReportWrite_between {w : InjectedWrite} {before behind : List InjectedWrite}
    (hb : ∀ x ∈ before, x.kind ≠ .metadata) (ha : ∀ x ∈ behind, x.kind = .metadata) :
    insertReportWrite w (before ++ behind) = before ++ w :: behind := by
  induction before with
  | nil =>
    cases behind with
    | nil => rfl
    | cons x rest => simp [insertReportWrite, ha x List.mem_cons_self]
  | cons x before ih =>
    rw [List.cons_append, insertReportWrite, if_neg (hb x List.mem_cons_self),
      ih fun y hy => hb y (List.mem_cons_of_mem x hy)]
    rfl

/-- All that the first report's departure for the next slot does (R194, R196, R197). -/
theorem takeSlot_eq {r : Report} {rest : List Report} {before behind : List InjectedWrite} {s : State} (w : WindowRecord)
    (hi : s.path.injected = before ++ behind) (hb : ∀ x ∈ before, x.kind ≠ .metadata) (ha : ∀ x ∈ behind, x.kind = .metadata) :
    takeSlot w r rest s =
      let last := s.report.nextSlot + 1 ≥ w.size / 32
      { s with
        report := { s.report with
          queue := rest, lost := false
          slots := setSlot s.report.slots s.report.nextSlot .queued
          nextSlot := if last then 0 else s.report.nextSlot + 1
          lap := if last then !s.report.lap else s.report.lap }
        path := { s.path with injected := before ++ {
          kind := r.recordKind, tag := 15, isMemoryFault := r.isMemoryFault
          addr := w.base + 32 * s.report.nextSlot
          bytes := r.compose s.report.lap s.report.lost, slot := some s.report.nextSlot } :: behind } } := by
  by_cases hl : s.report.nextSlot + 1 < w.size / 32
  · simp [takeSlot, hi, insertReportWrite_between hb ha, advanceSlot, reportSlots, hl, ownTag, hl.not_ge]
  · simp [takeSlot, hi, insertReportWrite_between hb ha, advanceSlot, reportSlots, hl, ownTag, Nat.le_of_not_lt hl]

end Sys2Proof.Machine

namespace Sys2Proof.Proofs

open Sys2Proof Sys2Proof.Machine

/-- Settles O27: each clause is one branch of the offer, or of an opened place. -/
theorem reportPlaces : Obligations.ReportPlaces := by
  intro s rep hr
  refine ⟨fun hw => ⟨?_, fun k c p sw => offer_discards _ hw⟩, fun hw hl hh => ?_, fun hw h => offer_holds hr hw h,
    fun k c p sw hw => ⟨fun hl => ?_, fun d hl hd => ?_, fun hl hd => ?_⟩, fun hw hl hq => ⟨fun d hd => ?_, fun rest hd hh => ?_⟩⟩
  · rw [offer_discards rep hw]
    rfl
  · rw [offer_joins hr hw hl hh]
    rfl
  · rw [offer_event hw, if_pos hl]
    rfl
  · rw [offer_event hw, if_neg hl.not_gt]
    simp [dropEvent, hd]
  · rw [offer_event hw, if_neg hl.not_gt]
    simp [dropEvent, hd, markPending, evaluateAttn, attnCondition, unmaskedPending, eventEntry, EventKind.number]
  · rw [exec, execHeldReportJoins, placeGiven_drop hw hl hd, settle_of_waiting_nil (by exact hq)]
    rfl
  · rw [exec, execHeldReportJoins, placeGiven_held hw hl hd hh, settle_enqueueReport rep (by exact hq)]
    rfl

/-- Settles O26: the first report takes its slot and the place it opens is given; a waiting record joins at the end. -/
theorem injectedWritesJoin : Obligations.InjectedWritesJoin := by
  refine ⟨fun s w r rest before behind hw hq hl hs hi hwait hij hb ha => ?_, fun s m w hm hw hl => ⟨fun hc => ?_, fun hc => ?_⟩⟩
  · have hleaves : reportLeaves s = placeGiven (takeSlot w r rest s) := by
      simp [reportLeaves, hw, hq, reportCanLeave, hs, hi]
    have htake := takeSlot_eq (r := r) (rest := rest) w hij hb ha
    have hw' : ((takeSlot w r rest s).window .report).isSome = true := by rw [htake]; exact Option.isSome_of_eq_some hw
    have hq' : (takeSlot w r rest s).report.queue = rest := (takeSlot_report w r rest s).1
    have hd' : (takeSlot w r rest s).report.drop = s.report.drop := (takeSlot_report w r rest s).2.1
    refine ⟨fun d hd => ?_, fun hd hh => ?_, fun h later hd hh => ?_⟩
    · rw [exec, execReportLeavesQueue, hleaves, placeGiven_drop hw' (by rwa [hq']) (hd'.trans hd), htake,
        settle_of_waiting_nil (by exact hwait)]
      rfl
    · rw [exec, execReportLeavesQueue, hleaves, placeGiven_none (hd'.trans hd) hh, htake, settle_of_waiting_nil (by exact hwait)]
    · rw [exec, execReportLeavesQueue, hleaves, placeGiven_held hw' (by rwa [hq']) (hd'.trans hd) hh, htake,
        settle_enqueueReport h (by exact hwait)]
      exact congrArg Host.Outcome.next (applyMove_eq h _)
  · have hj : waitingMetadataJoins s = joinMetadata w m.bytes { s with metadata := { s.metadata with waiting := none } } := by
      simp [waitingMetadataJoins, hm, hw, hl, hc]
    rw [exec, execMetadataRecordJoins, hj]
    rfl
  · simp [exec, execMetadataRecordJoins, waitingMetadataJoins, hm, hw, hc]

end Sys2Proof.Proofs
end

section
/-! SUPPORT. The record that a SET WINDOW names, its checks, and what a changed window brings (R4, R18 to R22, R131, R151,
R153, R184, R194, R198, R207). -/

namespace Sys2Proof.Machine

/-! ### The record's fields (R4, R22, R131, R151, R207) -/

theorem Geometry.ok_iff (g : Geometry) (size : Nat) : g.ok size = true ↔
    (2 ≤ g.buffers ∧ g.buffers ≤ 4) ∧ (64 ≤ g.width ∧ g.width ≤ 4096 ∧ g.width % 4 = 0) ∧ (64 ≤ g.height ∧ g.height ≤ 2304)
      ∧ (g.pitch % 64 = 0 ∧ 2 * g.width ≤ g.pitch) ∧ (g.marginX ≤ 256 ∧ g.marginX % 4 = 0) ∧ g.marginY ≤ 255
      ∧ (64 ≤ (g.width : Int) - 2 * g.marginX ∧ 64 ≤ (g.height : Int) - 2 * g.marginY)
      ∧ (g.stride % 4096 = 0 ∧ g.height * g.pitch ≤ g.stride)
      ∧ (g.buffers - 1) * g.stride + g.height * g.pitch ≤ size := by
  have hx : 2 * g.marginX + 64 ≤ g.width ↔ 64 ≤ (g.width : Int) - 2 * g.marginX := by omega
  have hy : 2 * g.marginY + 64 ≤ g.height ↔ 64 ≤ (g.height : Int) - 2 * g.marginY := by omega
  simp only [Geometry.ok, Bool.and_eq_true, decide_eq_true_iff, beq_iff_eq, and_assoc, hx, hy]

/-- A set names a tag, or it is 0. -/
theorem half_eq_zero_iff {m : Half} : m = 0 ↔ ∀ tag, ¬ m.getLsbD tag = true := by
  refine ⟨fun h tag => by simp [h], fun h => BitVec.eq_of_getLsbD_eq fun i _ => ?_⟩
  simpa using h i

theorem half_and_ne_zero_iff {m n : Half} : m &&& n ≠ 0 ↔ ∃ tag, m.getLsbD tag = true ∧ n.getLsbD tag = true := by
  rw [ne_eq, half_eq_zero_iff]
  simp

theorem forall_lt_three {p : Nat → Prop} : (∀ k, k < 3 → p k) ↔ p 0 ∧ p 1 ∧ p 2 :=
  ⟨fun h => ⟨h 0 (by omega), h 1 (by omega), h 2 (by omega)⟩, fun ⟨h0, h1, h2⟩ k hk =>
    match k, hk with
    | 0, _ => h0
    | 1, _ => h1
    | 2, _ => h2⟩

/-- The sets that a role requires name tags, none of them tag 15, and the others are 0. -/
theorem masksOk_iff (role : Role) (a b c : Half) : masksOk role [a, b, c] = true ↔ ∀ k, k < 3 →
    if k < role.setCount then (∃ tag, ([a, b, c].getD k 0).getLsbD tag = true) ∧ ¬ ([a, b, c].getD k 0).getLsbD 15 = true
    else ∀ tag, ¬ ([a, b, c].getD k 0).getLsbD tag = true := by
  have some_iff : ∀ m : Half, (∃ tag, m.getLsbD tag = true) ↔ m ≠ 0 := fun m => by rw [ne_eq, half_eq_zero_iff]; simp
  simp only [forall_lt_three, ← half_eq_zero_iff, some_iff]
  cases role <;> simp [masksOk, Role.setCount, and_assoc]

/-- Two of the three sets share a tag. -/
theorem masksShare_iff (a b c : Half) : masksShare [a, b, c] = true ↔ ∃ j k tag, j < k ∧ k < 3
    ∧ ([a, b, c].getD j 0).getLsbD tag = true ∧ ([a, b, c].getD k 0).getLsbD tag = true := by
  have share : masksShare [a, b, c] = true ↔ (a &&& b ≠ 0 ∨ a &&& c ≠ 0) ∨ b &&& c ≠ 0 := by simp [masksShare]
  rw [share]
  simp only [half_and_ne_zero_iff]
  constructor
  · rintro ((⟨t, h⟩ | ⟨t, h⟩) | ⟨t, h⟩)
    · exact ⟨0, 1, t, by omega, by omega, h⟩
    · exact ⟨0, 2, t, by omega, by omega, h⟩
    · exact ⟨1, 2, t, by omega, by omega, h⟩
  · rintro ⟨j, k, t, hjk, hk, h⟩
    have : j = 0 ∧ k = 1 ∨ j = 0 ∧ k = 2 ∨ j = 1 ∧ k = 2 := by omega
    rcases this with ⟨rfl, rfl⟩ | ⟨rfl, rfl⟩ | ⟨rfl, rfl⟩
    · exact .inl (.inl ⟨t, h⟩)
    · exact .inl (.inr ⟨t, h⟩)
    · exact .inr ⟨t, h⟩

/-- The 8 bytes of a marker are two words. -/
theorem beatOfBytes_record (r : CommandRecord) {k : Nat} (hk : 4 ≤ k) :
    beatOfBytes (r.bytes k 8) = BitVec.ofNat 64 (r.word k + 2 ^ 32 * r.word (k + 4)) := by
  have h : ofLe (r.bytes k 8) = field r.params (k - 4) (4 + 4) := rfl
  rw [beatOfBytes, h, field_add, show k - 4 + 4 = k + 4 - 4 by omega]
  rfl

/-- A RECORD window's setup and its checks (R151). -/
theorem windowParams_record (r : CommandRecord) (size : Nat) : windowParams .record size r =
    if 1048576 ≤ size ∧ (1 ≤ r.byte 26 ∧ r.byte 26 ≤ 63) ∧ (1 ≤ r.byte 27 ∧ r.byte 27 < r.byte 26) ∧ r.byte 28 ≤ 1
      ∧ r.byte 29 ≤ 240 then some (.record {
        marker := BitVec.ofNat 64 (r.word 18 + 2 ^ 32 * r.word 22), highWater := r.byte 26, drainLevel := r.byte 27
        button := r.byte 28 == 1, preRoll := r.byte 29 })
    else none := by
  by_cases hb : r.byte 28 ≤ 1
  · simp only [windowParams, flagOfCode_of_le hb, beatOfBytes_record r (show 4 ≤ 18 by decide), hb, and_assoc, true_and, ge_iff_le]
  · simp only [windowParams, flagOfCode_of_gt (Nat.lt_of_not_le hb), hb, false_and, and_false, if_false]

theorem windowParams_audio (r : CommandRecord) (size : Nat) : windowParams .audio size r =
    if r.byte 18 = 1 then some (.audio .clear) else if r.byte 18 = 2 then some (.audio .keep) else none := by
  simp only [windowParams, FlagByteMode.ofCode]
  split
  · simp [*]
  · simp [*]
  · rename_i h1 h2
    rw [if_neg h1, if_neg h2]
    rfl

/-! ### The checks in order (R18, R190) -/

/-- The first check of a list that fails decides. -/
theorem firstRefusal_eq_some {l : List (Bool × Status)} {before behind : List (Bool × Status)} {st : Status}
    (h : l = before ++ (true, st) :: behind) (hb : ∀ q ∈ before, q.1 = false) : firstRefusal l = some st := by
  subst h
  induction before with
  | nil => rfl
  | cons q before ih =>
    obtain ⟨failed, st'⟩ := q
    obtain rfl : failed = false := hb _ List.mem_cons_self
    exact ih fun x hx => hb x (List.mem_cons_of_mem _ hx)

/-- Three checks of one status that follow one another are one check. -/
theorem firstRefusal_merge (l : List (Bool × Status)) (a b c : Bool) (st : Status) :
    firstRefusal ((a, st) :: (b, st) :: (c, st) :: l) = firstRefusal ((a || b || c, st) :: l) := by
  cases a <;> cases b <;> cases c <;> rfl

end Sys2Proof.Machine

namespace Sys2Proof.Proofs

open Sys2Proof Sys2Proof.Machine

/-- Settles O49: the checks of the geometry, the sets and the parameters, each by its own lemma. -/
theorem windowRecordRead : Obligations.WindowRecordRead := by
  refine ⟨Geometry.ok_iff, fun r size => ⟨rfl, fun role => ⟨by cases role <;> rfl, ?_⟩, masksShare_iff .., rfl, fun h => ?_,
    fun h => ?_, windowParams_audio r size, ?_⟩⟩
  · have hcount := masksOk_iff role (BitVec.ofNat 16 (r.half 12)) (BitVec.ofNat 16 (r.half 14)) (BitVec.ofNat 16 (r.half 16))
    cases role <;> exact hcount
  · rw [windowParams_record, if_pos h]
  · rw [windowParams_record, if_neg h]
  · rintro role (rfl | rfl | rfl | rfl) <;> rfl

end Sys2Proof.Proofs
end

section
/-! SUPPORT. The commands on the window table, and what a changed window brings (R18 to R21, R153, R184, R194, R198). -/

namespace Sys2Proof.Machine

/-! ### What leaves the waiting requests -/

theorem dropEvent_path (k : EventKind) (s : State) : (dropEvent k s).path = s.path := by
  unfold dropEvent
  dsimp only
  split <;> rfl

/-- An offer changes no waiting request. -/
theorem offer_waiting (r : Report) (s : State) : (offer r s).path.waiting = s.path.waiting := by
  have hm : ∀ t : State, (applyMove r t).path.waiting = t.path.waiting := fun t => by rw [applyMove_eq]
  rcases offer_cases r s with ⟨-, h⟩ | ⟨-, h⟩ | ⟨k, -, -, -, -, -, h⟩ | h <;> rw [h]
  · exact hm s
  · exact hm _
  · rw [dropEvent_path]

theorem settle_offer {r : Report} {s : State} (h : s.path.waiting = []) : settle (offer r s) = offer r s :=
  settle_of_waiting_nil ((offer_waiting r s).trans h)

/-! ### A changed entry (R21) -/

theorem emptyHistory_if (c : Bool) (s : State) : (if c then emptyHistory s else s) =
    { s with frame := if c then { s.frame with history := [] } else s.frame } := by cases c <;> rfl

theorem newRing_if (c : Bool) (s : State) : (if c then newRing s else s) = { s with record := if c then
      { s.record with index := [], writeEnd := none, drain := none, guarded := 0, episode := none, level := .low }
      else s.record } := by cases c <;> rfl

theorem restartMetadata_if (c : Bool) (s : State) : (if c then restartMetadata s else s) =
    { s with metadata := if c then { s.metadata with cursor := 0, waiting := none } else s.metadata } := by cases c <;> rfl

/-- A change of the REPORT window restarts the ring, or discards every report (R194, R198), here with none held. -/
theorem reportRing_if (c : Bool) {s : State} (hh : s.command.held = []) :
    (if c then (if (s.window .report).isSome then startReportRing s else discardReports s) else s) = { s with
      report := if c then
          if (s.window .report).isSome then { s.report with nextSlot := 0, lap := true, slots := [] }
          else { s.report with queue := [], drop := none, lost := false, slots := [] }
        else s.report
      path := if c then { s.path with injected := s.path.injected.map fun x => { x with slot := none } } else s.path } := by
  have hc : { s.command with held := [] } = s.command := by rw [← hh]
  cases c with
  | false => rfl
  | true =>
    cases hw : (s.window .report).isSome with
    | true => rfl
    | false => simp only [if_true, Bool.false_eq_true, if_false, discardReports, hh, List.foldl_nil, hc]

/-- What a change of an entry brings, block by block, with no report held (R21). -/
theorem windowChanged_of_held_nil (old new : Option WindowRecord) {s : State} (hh : s.command.held = []) :
    let touches := fun role => entryIs role old || entryIs role new
    windowChanged old new s = { s with
      frame := if touches .frame then { s.frame with history := [] } else s.frame
      record := if touches .record then
        { s.record with index := [], writeEnd := none, drain := none, guarded := 0, episode := none, level := .low }
        else s.record
      report := if touches .report then
          if (s.window .report).isSome then { s.report with nextSlot := 0, lap := true, slots := [] }
          else { s.report with queue := [], drop := none, lost := false, slots := [] }
        else s.report
      path := if touches .report then
        { s.path with injected := s.path.injected.map fun x => { x with slot := none } } else s.path
      metadata := if touches .metadata then { s.metadata with cursor := 0, waiting := none } else s.metadata } := by
  simp only [windowChanged]
  rw [emptyHistory_if, newRing_if, reportRing_if _ (by exact hh), restartMetadata_if]
  rfl

/-- A held completion's move is made as the REPORT window's end discards it (R20, R198). -/
theorem discardReports_one (r : Report) {s : State} (hh : s.command.held = [r]) : discardReports s = applyMove r { s with
    report := { s.report with queue := [], drop := none, lost := false, slots := [] }
    command := { s.command with held := [] }
    path := { s.path with injected := s.path.injected.map fun x => { x with slot := none } } } := by
  simp only [discardReports, hh, List.foldl_cons, List.foldl_nil]

/-! ### The two commands (R18, R19) -/

/-- A change of an entry leaves the waiting requests. -/
theorem windowChanged_waiting (old new : Option WindowRecord) {s : State} (hh : s.command.held = []) :
    (windowChanged old new s).path.waiting = s.path.waiting := by
  rw [windowChanged_of_held_nil old new hh]
  dsimp only
  split <;> rfl

theorem replaceEntry_waiting (i : Nat) (new : Option WindowRecord) {s : State} (hh : s.command.held = []) :
    (replaceEntry i new s).path.waiting = s.path.waiting :=
  windowChanged_waiting (s.entry i) new (s := { s with path := { s.path with windows := s.path.windows.set i new } }) hh

/-- With no request waiting, SET WINDOW's step is the command's execution. -/
theorem exec_setWindow {s : State} {r : CommandRecord} (h : NextIs s r) (hc : r.code = 0x0001) (hw : s.path.waiting = []) :
    exec .setWindow s = .next (finishCommand r (setWindow r (popCommand s))) := by
  rw [exec, execSetWindow, runCommand_next h (CommandRecord.is_of_code hc (by decide)), finishCommand, settle_offer]
  rcases setWindow_cases r (popCommand s) with ⟨st, hs⟩ | ⟨w, -, -, ⟨-, -, hs⟩ | ⟨-, hs⟩⟩ <;> rw [hs]
  · exact hw
  · exact hw
  · exact (replaceEntry_waiting _ _ (s := popCommand s) h.1).trans hw

/-- With no request waiting, CLEAR WINDOW's step is the command's execution. -/
theorem exec_clearWindow {s : State} {r : CommandRecord} (h : NextIs s r) (hc : r.code = 0x0002) (hw : s.path.waiting = []) :
    exec .clearWindow s = .next (finishCommand r (clearWindow r (popCommand s))) := by
  rw [exec, execClearWindow, runCommand_next h (CommandRecord.is_of_code hc (by decide)), finishCommand, settle_offer]
  unfold clearWindow
  split
  · exact hw
  · split
    · exact (replaceEntry_waiting _ _ (s := popCommand s) h.1).trans hw
    · exact hw

/-- A change of an entry that held a record and now holds none touches the record's role alone. -/
theorem windowChanged_emptied {w : WindowRecord} {s : State} (hh : s.command.held = []) (hr : w.role ≠ .report) :
    windowChanged (some w) none s = { s with
      frame := if w.role = .frame then { s.frame with history := [] } else s.frame
      record := if w.role = .record then
        { s.record with index := [], writeEnd := none, drain := none, guarded := 0, episode := none, level := .low }
        else s.record
      metadata := if w.role = .metadata then { s.metadata with cursor := 0, waiting := none } else s.metadata } := by
  rw [windowChanged_of_held_nil _ _ hh]
  simp [entryIs, hr]

/-- The REPORT window emptied, with no other in force, every report is discarded (R198). -/
theorem windowChanged_emptied_report {w : WindowRecord} {s : State} (hr : w.role = .report) (h : s.window .report = none) :
    windowChanged (some w) none s = discardReports s := by
  simp [windowChanged, entryIs, hr, h]

/-- CLEAR WINDOW's checks decide between a refusal and an emptied entry (R19). -/
theorem clearWindow_of_refusal {r : CommandRecord} {s : State} {st : Status}
    (h : firstRefusal (clearWindowChecks (r.byte 4) s) = some st) : clearWindow r s = refuses st s := by
  simp only [clearWindow, h]

theorem clearWindow_of_passed {r : CommandRecord} {s : State} (h : firstRefusal (clearWindowChecks (r.byte 4) s) = none) :
    clearWindow r s = if (s.entry (r.byte 4)).isSome then completes .done (replaceEntry (r.byte 4) none s)
      else completes .done s := by
  simp only [clearWindow, h]
  cases s.entry (r.byte 4) <;> rfl

/-- A list of checks against a list of conditions, one by one: the first condition that holds refuses with its status, and
with none nothing is refused (R190). -/
theorem firstRefusal_of_conditions {conditions : List (Prop × Status)} {checks : List (Bool × Status)}
    (h : List.Forall₂ (fun q c => (q.1 ↔ c.1 = true) ∧ q.2 = c.2) conditions checks) :
    (∀ before p st behind, conditions = before ++ (p, st) :: behind → (∀ q ∈ before, ¬ q.1) → p →
      firstRefusal checks = some st) ∧ ((∀ q ∈ conditions, ¬ q.1) → firstRefusal checks = none) := by
  induction h with
  | nil => exact ⟨fun before p st behind h => by simp at h, fun _ => rfl⟩
  | @cons q c conditions checks hqc _ ih =>
    obtain ⟨failed, st'⟩ := c
    obtain ⟨hq, rfl⟩ := hqc
    refine ⟨fun before p st behind he hb hp => ?_, fun hn => ?_⟩
    · cases before with
      | nil =>
        obtain ⟨rfl, -⟩ := List.cons.inj he
        obtain rfl : failed = true := hq.1 hp
        rfl
      | cons x before =>
        obtain ⟨rfl, hrest⟩ := List.cons.inj he
        obtain rfl : failed = false := by simpa using mt hq.2 (hb _ List.mem_cons_self)
        exact ih.1 before p st behind hrest (fun y hy => hb y (List.mem_cons_of_mem _ hy)) hp
    · obtain rfl : failed = false := by simpa using mt hq.2 (hn _ List.mem_cons_self)
      exact ih.2 fun y hy => hn y (List.mem_cons_of_mem _ hy)

/-- The three checks of the sets and the parameters are one, so that SET WINDOW makes six. -/
def mergedChecks (r : CommandRecord) (role : Role) (enabled : Bool) (params : Option RoleParams) (s : State) :
    List (Bool × Status) :=
  [(decide (r.byte 4 > 15), .refusedRange),
   (r.byte 4 == 0 && (role != .command || !enabled), .refusedState),
   (role != .pass && roleElsewhere role (r.byte 4) s.path.windows, .refusedState),
   (!placeOk (r.word 8) (r.byte 7), .refusedRange),
   (!masksOk role (windowMasks r) || masksShare (windowMasks r) || params.isNone, .refusedRange),
   ((holdsRecord (s.entry (r.byte 4)) || role == .record) && !s.record.clips.isEmpty, .refusedState)]

theorem firstRefusal_setWindowChecks (r : CommandRecord) (role : Role) (enabled : Bool) (params : Option RoleParams) (s : State) :
    firstRefusal (setWindowChecks r role enabled params s) = firstRefusal (mergedChecks r role enabled params s) := by
  simp only [setWindowChecks, mergedChecks, firstRefusal]
  cases masksOk role (windowMasks r) <;> cases masksShare (windowMasks r) <;> cases params.isNone <;> rfl

/-- With a role and a flag that are named, SET WINDOW's checks decide between a refusal, a record carried for entry 0 and a
replaced entry (R18, R20). -/
theorem setWindow_named {r : CommandRecord} {s : State} {role : Role} (hrole : Role.ofCode (r.byte 5) = some role)
    (hflag : r.byte 6 ≤ 1) : setWindow r s =
      match firstRefusal (mergedChecks r role (r.byte 6 == 1) (windowParams role (2 ^ r.byte 7) r) s) with
      | some st => refuses st s
      | none =>
        let w := namedWindow r role (r.byte 6 == 1) ((windowParams role (2 ^ r.byte 7) r).getD .absent)
        if r.byte 4 = 0 then (s, { status := .done, moves := some w })
        else completes .done (replaceEntry (r.byte 4) (some w) s) := by
  simp only [setWindow, hrole, flagOfCode_of_le hflag, firstRefusal_setWindowChecks]
  cases firstRefusal (mergedChecks r role (r.byte 6 == 1) (windowParams role (2 ^ r.byte 7) r) s) <;> rfl

/-- A role or an enabled flag that names nothing is refused (R18, R207). -/
theorem setWindow_unnamed {r : CommandRecord} {s : State} (h : Role.ofCode (r.byte 5) = none ∨ 1 < r.byte 6) :
    setWindow r s = refuses .refusedRange s := by
  rcases h with h | h
  · simp only [setWindow, h]
  · cases hr : Role.ofCode (r.byte 5) <;> simp only [setWindow, hr, flagOfCode_of_gt h]

/-- R18's checks say what their conditions say. -/
theorem mergedChecks_conditions {r : CommandRecord} {s : State} {role : Role} {params : Option RoleParams} (hflag : r.byte 6 ≤ 1) :
    List.Forall₂ (fun q c => (q.1 ↔ c.1 = true) ∧ q.2 = c.2)
      [(15 < r.byte 4, .refusedRange), (r.byte 4 = 0 ∧ (role ≠ .command ∨ r.byte 6 = 0), .refusedState),
        (role ≠ .pass ∧ ∃ j w, j ≠ r.byte 4 ∧ s.entry j = some w ∧ w.role = role, .refusedState),
        (r.byte 7 < 12 ∨ 30 < r.byte 7 ∨ r.word 8 % 2 ^ r.byte 7 ≠ 0, .refusedRange),
        (masksOk role (windowMasks r) = false ∨ masksShare (windowMasks r) = true ∨ params = none, .refusedRange),
        ((role = .record ∨ ∃ old, s.entry (r.byte 4) = some old ∧ old.role = .record) ∧ s.record.clips ≠ [],
          Status.refusedState)] (mergedChecks r role (r.byte 6 == 1) params s) := by
  have hplace : (r.byte 7 < 12 ∨ 30 < r.byte 7 ∨ r.word 8 % 2 ^ r.byte 7 ≠ 0) ↔ (!placeOk (r.word 8) (r.byte 7)) = true := by
    simp only [placeOk, Bool.not_eq_true', Bool.and_eq_false_iff, decide_eq_false_iff_not, beq_eq_false_iff_ne, Nat.not_le, or_assoc]
  have helse : roleElsewhere role (r.byte 4) s.path.windows = true ↔
      ∃ j w, j ≠ r.byte 4 ∧ s.entry j = some w ∧ w.role = role := by
    rw [← Bool.not_eq_false, roleElsewhere_eq_false]
    simp [entry_eq_entryAt]
  have hcmd : r.byte 4 = 0 ∧ (role ≠ .command ∨ r.byte 6 = 0) ↔
      (r.byte 4 == 0 && (role != .command || !(r.byte 6 == 1))) = true := by
    have hoff : r.byte 6 = 0 ↔ r.byte 6 ≠ 1 := by omega
    simp [hoff]
  refine .cons ⟨by simp, rfl⟩ (.cons ⟨hcmd, rfl⟩ (.cons ⟨by simp [helse], rfl⟩ (.cons ⟨hplace, rfl⟩ (.cons ⟨?_, rfl⟩
    (.cons ⟨?_, rfl⟩ .nil)))))
  · simp [or_assoc]
  · simp [holdsRecord_iff, or_comm]

end Sys2Proof.Machine

namespace Sys2Proof.Proofs

open Sys2Proof Sys2Proof.Machine

/-- Settles O51: the checks in order, and the consequences of R21 for the role that the entry held. -/
theorem windowCleared : Obligations.WindowCleared := by
  intro s r hn hc hwait
  simp only [exec_clearWindow hn hc hwait]
  refine ⟨fun hi => ?_, fun hi => ?_, fun h0 hi hrec => ?_, fun h0 hi he => ?_, fun w h0 hi he hclips => ⟨?_, fun hr => ?_,
    fun hr => ?_, fun hr => ?_, fun hr => ?_, fun hr hnone => ⟨?_, fun st tag code res m => ?_⟩⟩⟩
  · rw [clearWindow_of_refusal (st := .refusedRange) (by simp [clearWindowChecks, firstRefusal, hi])]
    rfl
  · rw [clearWindow_of_refusal (st := .refusedState) (by simp [clearWindowChecks, firstRefusal, hi])]
    rfl
  · have hrec' : holdsRecord ((popCommand s).entry (r.byte 4)) = true ∧ s.record.clips ≠ [] := hrec
    rw [clearWindow_of_refusal (st := .refusedState) (by
      simp [clearWindowChecks, firstRefusal, hi.not_gt, h0.ne', hrec'.1, hrec'.2])]
    rfl
  · have he' : (popCommand s).entry (r.byte 4) = none := he
    rw [clearWindow_of_passed (by simp [clearWindowChecks, firstRefusal, hi.not_gt, h0.ne', he', holdsRecord]), he']
    rfl
  · have he' : (popCommand s).entry (r.byte 4) = some w := he
    have hclips' : w.role = .record → (popCommand s).record.clips = [] := fun h => hclips.resolve_left (· h)
    rw [clearWindow_of_passed (by simpa [clearWindowChecks, firstRefusal, hi.not_gt, h0.ne', he', holdsRecord] using hclips'), he']
    simp only [replaceEntry, he']
    rfl
  · rw [windowChanged_emptied (by exact hn.1) (by rw [hr]; decide)]
    simp [hr]
  · rw [windowChanged_emptied (by exact hn.1) (by rw [hr]; decide)]
    simp [hr]
  · rw [windowChanged_emptied (by exact hn.1) (by rw [hr]; decide)]
    simp [hr]
  · rw [windowChanged_emptied (by exact hn.1) (by rcases hr with hr | hr <;> rw [hr] <;> decide)]
    rcases hr with hr | hr <;> simp [hr]
  · rw [windowChanged_emptied_report hr (by exact hnone)]
    simp only [discardReports, show (popCommand s).command.held = [] from hn.1, List.foldl_nil]
  · rw [windowChanged_emptied_report hr (by exact hnone), discardReports_one _ rfl]
    cases m <;> rfl

/-- Settles O50: the checks in order, the record carried for entry 0, and the consequences of R21 block by block. -/
theorem windowSet : Obligations.WindowSet := by
  intro s r hn hc hwait
  simp only [exec_setWindow hn hc hwait]
  refine ⟨fun h => ?_, fun role params hrole hflag hparams => ?_⟩
  · rw [setWindow_unnamed h]
    rfl
  · subst hparams
    have hcond := firstRefusal_of_conditions (mergedChecks_conditions (s := popCommand s) (role := role)
      (params := windowParams role (2 ^ r.byte 7) r) hflag)
    refine ⟨fun before p st behind hf hb hp => ?_, fun v hpass hv => ⟨fun h0 => ?_, fun h0 => ?_⟩⟩
    · rw [setWindow_named hrole hflag, hcond.1 before p st behind hf hb hp]
      rfl
    · rw [setWindow_named hrole hflag, hcond.2 hpass, hv]
      simp only [h0, if_true]
      rfl
    · rw [setWindow_named hrole hflag, hcond.2 hpass, hv]
      simp only [h0, if_false, replaceEntry]
      rw [windowChanged_of_held_nil _ _ (by exact hn.1)]
      have touches : ∀ x : Role, (x = role ∨ ∃ old, s.entry (r.byte 4) = some old ∧ old.role = x) →
          (entryIs x (s.entry (r.byte 4)) || entryIs x (some (namedWindow r role (r.byte 6 == 1) v))) = true := fun x h => by
        rw [Bool.or_eq_true, entryIs_iff, entryIs_iff]
        exact h.symm.imp id fun h => ⟨_, rfl, h.symm⟩
      have spares : ∀ x : Role, ¬ (x = role ∨ ∃ old, s.entry (r.byte 4) = some old ∧ old.role = x) →
          ¬ (entryIs x (s.entry (r.byte 4)) || entryIs x (some (namedWindow r role (r.byte 6 == 1) v))) = true := fun x h => by
        rw [Bool.or_eq_true, entryIs_iff, entryIs_iff]
        exact mt (fun h => h.symm.imp (fun ⟨_, hw, hr⟩ => by cases hw; exact hr.symm) id) h
      refine ⟨_, rfl, rfl, fun h => if_pos (touches _ h), fun h => if_pos (touches _ h), fun h => if_pos (touches _ h),
        fun h hw => (if_pos (touches _ h)).trans (if_pos hw), fun h hw => (if_pos (touches _ h)).trans (if_neg ?_),
        fun h => if_pos (touches _ h), fun h => if_neg (spares _ h), fun h => if_neg (spares _ h), fun h => if_neg (spares _ h),
        fun h => ⟨if_neg (spares _ h), if_neg (spares _ h)⟩⟩
      exact Option.not_isSome_iff_eq_none.2 hw

end Sys2Proof.Proofs
end

section
/-! SUPPORT. A write of the command window, position by position (R9, R187 to R189). -/

namespace Sys2Proof.Machine

/-- A write that belongs to the COMMAND window is forwarded as written, its records taken (R5, R8). -/
theorem exec_command_write {b : WriteBurst} {s t : State} {cls : ReadClass} (hwf : b.wellFormed = true)
    (hq : s.path.waiting = []) (hl : s.path.passQueue.length < 16)
    (hc : classify s b.addr.toNat b.beats.length b.tag = .belongs cls) (hr : cls.window.role = .command)
    (ht : commandWrite b.addr.toNat b.beats s = t) : exec (.upstreamWriteAccepted b) s = .next (forwardWrite b b.beats t) := by
  rw [exec_write_accepted hwf hq hl, acceptWrite, hc]
  simp only [ownerWrite, hr, ht]

/-- A position not covered whole is partly written (R188). -/
theorem takePosition32_split {addr pos : Nat} {beats : List Beat} (h : pos < addr ∨ addr + 8 * beats.length < pos + 32) (s : State) :
    takePosition32 addr beats pos s = raiseEvent (.commandPartial pos .split) s := by
  have hn : ¬ (addr ≤ pos ∧ pos + 32 ≤ addr + 8 * beats.length) := by omega
  simp only [takePosition32, Bool.and_eq_true, decide_eq_true_iff, if_neg hn]

/-- The position of a part that does not cover it raises COMMAND_PARTIAL, where there are beats in the part (R188). -/
theorem foldl_part {addr pos : Nat} {beats part : List Beat}
    (h : part ≠ [] → pos < addr ∨ addr + 8 * beats.length < pos + 32) (s : State) :
    (if part.length = 0 then [] else [pos]).foldl (fun s pos => takePosition32 addr beats pos s) s
      = if part = [] then s else raiseEvent (.commandPartial pos .split) s := by
  by_cases hp : part = []
  · simp [hp]
  · simp [hp, takePosition32_split (h hp)]

/-- A whole position's four beats: partly written with an enable clear, no record with code 0, else a record (R187, R188). -/
def takeWhole (whole : List Beat) (pos : Nat) (s : State) : State :=
  if ∃ x ∈ whole, x.enables ≠ 255 then raiseEvent (.commandPartial pos .enables) s
  else if (commandRecordOf whole).code = 0 then s else offerCommand (commandRecordOf whole) s

theorem takePosition32_whole {addr pos : Nat} {beats : List Beat} (ha : addr ≤ pos) (hb : pos + 32 ≤ addr + 8 * beats.length)
    (s : State) : takePosition32 addr beats pos s = takeWhole (positionBeats addr beats pos) pos s := by
  have hf : (positionBeats addr beats pos).all beatFull = true ↔ ¬ ∃ x ∈ positionBeats addr beats pos, x.enables ≠ 255 := by
    simp [beatFull]
  have hc : addr ≤ pos ∧ pos + 32 ≤ addr + 8 * beats.length := ⟨ha, hb⟩
  simp only [takePosition32, takeWhole, Bool.and_eq_true, decide_eq_true_iff, if_pos hc, hf, ite_not]

/-- The parts of a list of parts of four. -/
theorem take_drop_flatten {wholes : List (List Beat)} (hw : ∀ x ∈ wholes, x.length = 4) (last : List Beat) {i : Nat} {x : List Beat}
    (hx : wholes[i]? = some x) : ((wholes.flatten ++ last).drop (4 * i)).take 4 = x := by
  induction wholes generalizing i with
  | nil => simp at hx
  | cons w ws ih =>
    have h4 := hw w List.mem_cons_self
    cases i with
    | zero =>
      obtain rfl : w = x := by simpa using hx
      simp [h4]
    | succ i =>
      rw [List.flatten_cons, List.append_assoc, show 4 * (i + 1) = w.length + 4 * i by omega, List.drop_append,
        List.drop_of_length_le (by omega), List.nil_append, Nat.add_sub_cancel_left]
      exact ih (fun y hy => hw y (List.mem_cons_of_mem w hy)) (by simpa using hx)

theorem length_flatten_four {wholes : List (List Beat)} (hw : ∀ x ∈ wholes, x.length = 4) :
    wholes.flatten.length = 4 * wholes.length := by
  induction wholes with
  | nil => rfl
  | cons w ws ih =>
    rw [List.flatten_cons, List.length_append, hw w List.mem_cons_self, ih fun y hy => hw y (List.mem_cons_of_mem w hy),
      List.length_cons]
    omega

/-- The beats of whole position i. -/
theorem positionBeats_whole {addr : Nat} {beats first last : List Beat} {wholes : List (List Beat)} {i : Nat} {x : List Beat}
    (hb : beats = first ++ wholes.flatten ++ last) (hw : ∀ x ∈ wholes, x.length = 4) (hx : wholes[i]? = some x) :
    positionBeats addr beats (addr + 8 * first.length + 32 * i) = x := by
  have hd : (addr + 8 * first.length + 32 * i - addr) / 8 = first.length + 4 * i := by omega
  have ht : 4 - (addr - (addr + 8 * first.length + 32 * i)) / 8 = 4 := by omega
  rw [positionBeats, hd, ht, hb, List.append_assoc, List.drop_append, List.drop_of_length_le (by omega), List.nil_append,
    Nat.add_sub_cancel_left, take_drop_flatten hw last hx]

/-- The positions that a write of a part of a position, whole positions and a part touches, rising. -/
theorem touchedPositions_parts {addr f w l : Nat} (ha : addr % 8 = 0) (hs : (addr + 8 * f) % 32 = 0) (hf : f < 4) (hl : l < 4)
    (h1 : 1 ≤ f + 4 * w + l) : touchedPositions addr (f + 4 * w + l) =
      (if f = 0 then [] else [addr + 8 * f - 32]) ++ ((List.range w).map fun i => addr + 8 * f + 32 * i)
        ++ (if l = 0 then [] else [addr + 8 * f + 32 * w]) := by
  have hn : (addr + 8 * (f + 4 * w + l) - 1) / 32 + 1 - addr / 32 = (if f = 0 then 0 else 1) + w + (if l = 0 then 0 else 1) := by
    split <;> split <;> omega
  have hq : 32 * (addr / 32 + if f = 0 then 0 else 1) = addr + 8 * f := by split <;> omega
  rw [touchedPositions, hn, List.range_add, List.range_add, List.map_append, List.map_append]
  congr 1
  · congr 1
    · split
      · rfl
      · simp
        omega
    · simp only [List.map_map]
      refine List.map_congr_left fun i _ => ?_
      simp only [Function.comp_apply]
      omega
  · by_cases hz : l = 0
    · simp [hz]
    · rw [if_neg hz, if_neg hz]
      simp
      omega

/-- The whole positions are taken one after another. -/
theorem foldl_wholes {addr : Nat} {beats first last : List Beat} {wholes : List (List Beat)}
    (hb : beats = first ++ wholes.flatten ++ last) (hw : ∀ x ∈ wholes, x.length = 4) (s : State) :
    ((List.range wholes.length).map fun i => addr + 8 * first.length + 32 * i).foldl
        (fun s pos => takePosition32 addr beats pos s) s
      = (wholes.zipIdx.map fun p => (p.1, addr + 8 * first.length + 32 * p.2)).foldl (fun t p => takeWhole p.1 p.2 t) s := by
  have hi : List.range wholes.length = wholes.zipIdx.map Prod.snd := by simp [List.range_eq_range']
  rw [hi, List.map_map, List.foldl_map, List.foldl_map]
  refine List.foldl_ext _ _ _ fun t p hp => ?_
  rw [List.mem_zipIdx_iff_getElem?] at hp
  have hlt : p.2 < wholes.length := (List.getElem?_eq_some_iff.1 hp).1
  have hlen : beats.length = first.length + 4 * wholes.length + last.length := by
    rw [hb, List.length_append, List.length_append, length_flatten_four hw]
  rw [Function.comp_apply, takePosition32_whole (by omega) (by omega), positionBeats_whole hb hw hp]

end Sys2Proof.Machine

namespace Sys2Proof.Proofs

open Sys2Proof Sys2Proof.Machine

/-- Settles O14: the positions of the three parts, one after another. -/
theorem commandWriteTaken : Obligations.CommandWriteTaken := by
  intro b s cls hwf hq hl hc hr
  have hw : b.addr.toNat % 8 = 0 ∧ 1 ≤ b.beats.length := by
    simp only [WriteBurst.wellFormed, Bool.and_eq_true, beq_iff_eq, decide_eq_true_iff] at hwf
    exact hwf.1
  obtain ⟨h8, h1⟩ := hw
  refine ⟨fun hin hlen => ?_, fun first last wholes hb hstart hfirst hwhole hlast => ?_⟩
  · refine exec_command_write hwf hq hl hc hr ?_
    have htouched : touchedPositions b.addr.toNat b.beats.length = [b.addr.toNat / 32 * 32] := by
      rw [touchedPositions, show (b.addr.toNat + 8 * b.beats.length - 1) / 32 + 1 - b.addr.toNat / 32 = 1 by omega]
      simp [mul_comm]
    rw [commandWrite, htouched, List.foldl_cons, List.foldl_nil, takePosition32_split (by omega)]
  · refine exec_command_write hwf hq hl hc hr ?_
    have hlen : b.beats.length = first.length + 4 * wholes.length + last.length := by
      rw [hb, List.length_append, List.length_append, length_flatten_four hwhole]
    rw [commandWrite, hlen, touchedPositions_parts h8 hstart hfirst hlast (by omega), List.foldl_append, List.foldl_append,
      foldl_wholes hb hwhole]
    have hpos : first ≠ [] → 0 < first.length := List.length_pos_iff.2
    rw [foldl_part fun _ => .inr (by omega), foldl_part fun h => .inl (by have := hpos h; omega)]
    rfl

end Sys2Proof.Proofs
end

section
/-! SUPPORT. Addresses in the FRAME window's geometry, the lookups in the history, and the crop remap (R11, R23, R28, R33). -/

namespace Sys2Proof.Machine

/-! ### The lookups (R28) -/

/-- Searching from the newest record on finds the one with no later record of the kind sought. -/
theorem find?_reverse_iff {p : CaptureRecord → Bool} {sought : CaptureRecord → Prop} (hp : ∀ x, p x = true ↔ sought x)
    (h : List CaptureRecord) :
    (∀ r, h.reverse.find? p = some r ↔ ∃ before after, h = before ++ r :: after ∧ sought r ∧ ∀ x ∈ after, ¬ sought x)
      ∧ (h.reverse.find? p = none ↔ ∀ x ∈ h, ¬ sought x) := by
  refine ⟨fun r => ?_, by simp [List.find?_eq_none, hp]⟩
  rw [List.find?_eq_some_iff_append]
  constructor
  · rintro ⟨hr, as, bs, hh, has⟩
    refine ⟨bs.reverse, as.reverse, ?_, (hp r).1 hr, fun x hx => ?_⟩
    · rw [← List.reverse_inj, hh]
      simp
    · have := has x (List.mem_reverse.1 hx)
      rwa [Bool.not_eq_true', ← Bool.not_eq_true, hp] at this
  · rintro ⟨before, after, rfl, hr, hafter⟩
    refine ⟨(hp r).2 hr, after.reverse, before.reverse, by simp, fun x hx => ?_⟩
    rw [Bool.not_eq_true', ← Bool.not_eq_true, hp]
    exact hafter x (List.mem_reverse.1 hx)

theorem newestRecord_eq_find (h : List CaptureRecord) : newestRecord h = h.reverse.find? fun _ => true := by
  rw [newestRecord, List.getLast?_eq_head?_reverse]
  cases h.reverse <;> rfl

/-! ### Placing an address (R23) -/

theorem Geometry.image_pos {g : Geometry} {size : Nat} (h : g.ok size = true) : 0 < g.height * g.pitch := by
  obtain ⟨-, ⟨hw, -⟩, ⟨hh, -⟩, ⟨-, hp⟩, -⟩ := (Geometry.ok_iff g size).1 h
  exact Nat.mul_pos (by omega) (by omega)

theorem Geometry.image_le_stride {g : Geometry} {size : Nat} (h : g.ok size = true) : g.height * g.pitch ≤ g.stride := by
  obtain ⟨-, -, -, -, -, -, -, ⟨-, hs⟩, -⟩ := (Geometry.ok_iff g size).1 h
  exact hs

/-- The place of an address is its buffer and the offset in it. -/
theorem Geometry.place_eq_some {g : Geometry} {size base a b o : Nat} (h : g.ok size = true) :
    g.place base a = some (b, o) ↔ b < g.buffers ∧ o < g.height * g.pitch ∧ a = base + b * g.stride + o := by
  have hle := Geometry.image_le_stride h
  have hpos : 0 < g.stride := (Geometry.image_pos h).trans_le hle
  unfold Geometry.place
  split
  · simp only [reduceCtorEq, false_iff]
    omega
  · simp only [Option.ite_none_right_eq_some, Bool.and_eq_true, decide_eq_true_iff, Option.some.injEq, Prod.mk.injEq]
    constructor
    · rintro ⟨⟨hb, ho⟩, rfl, rfl⟩
      have := Nat.div_add_mod' (a - base) g.stride
      exact ⟨hb, ho, by omega⟩
    · rintro ⟨hb, ho, rfl⟩
      have hsub : base + b * g.stride + o - base = o + b * g.stride := by omega
      have hdiv : (o + b * g.stride) / g.stride = b := by
        rw [Nat.add_mul_div_right _ _ hpos, Nat.div_eq_of_lt (by omega), Nat.zero_add]
      have hmod : (o + b * g.stride) % g.stride = o := by
        rw [Nat.add_mul_mod_self_right, Nat.mod_eq_of_lt (by omega)]
      rw [hsub, hdiv, hmod]
      exact ⟨⟨hb, ho⟩, rfl, rfl⟩

theorem Geometry.firstBeatOf_eq_some {g : Geometry} {size base a b : Nat} (h : g.ok size = true) :
    g.firstBeatOf base a = some b ↔ b < g.buffers ∧ a = base + b * g.stride := by
  have hz : g.firstBeatOf base a = some b ↔ g.place base a = some (b, 0) := by
    unfold Geometry.firstBeatOf
    split
    · rename_i hp
      simp [hp]
    · rename_i hp
      simp only [reduceCtorEq, false_iff]
      exact hp b
  rw [hz, Geometry.place_eq_some h]
  simp [Geometry.image_pos h]

/-- A beat of the output area lies within its lines and within the bytes of a line. -/
theorem Geometry.outputBeat_eq_some {g : Geometry} {size base a b : Nat} (h : g.ok size = true) :
    g.outputBeat base a = some b ↔ b < g.buffers ∧ ∃ line byte, a = base + b * g.stride + line * g.pitch + byte
      ∧ g.marginY ≤ line ∧ line + g.marginY < g.height ∧ 2 * g.marginX ≤ byte ∧ byte + 8 ≤ 2 * (g.width - g.marginX) := by
  obtain ⟨-, -, -, ⟨-, hp⟩, -⟩ := (Geometry.ok_iff g size).1 h
  constructor
  · intro ho
    unfold Geometry.outputBeat at ho
    split at ho
    · rename_i b' o hplace
      obtain ⟨hb, ho', rfl⟩ := (Geometry.place_eq_some h).1 hplace
      simp only [Option.ite_none_right_eq_some, Bool.and_eq_true, decide_eq_true_iff, Option.some.injEq] at ho
      obtain ⟨⟨⟨⟨h1, h2⟩, h3⟩, h4⟩, rfl⟩ := ho
      refine ⟨hb, o / g.pitch, o % g.pitch, ?_, h1, h2, h3, h4⟩
      have := Nat.div_add_mod' o g.pitch
      omega
    · cases ho
  · rintro ⟨hb, line, byte, rfl, h1, h2, h3, h4⟩
    have hbyte : byte < g.pitch := by omega
    have ho : line * g.pitch + byte < g.height * g.pitch :=
      calc line * g.pitch + byte < (line + 1) * g.pitch := by rw [Nat.add_one_mul]; omega
        _ ≤ g.height * g.pitch := Nat.mul_le_mul_right _ (by omega)
    have hplace : g.place base (base + b * g.stride + line * g.pitch + byte) = some (b, line * g.pitch + byte) :=
      (Geometry.place_eq_some h).2 ⟨hb, ho, by omega⟩
    have hdiv : (line * g.pitch + byte) / g.pitch = line := by
      rw [Nat.add_comm, Nat.add_mul_div_right _ _ (by omega), Nat.div_eq_of_lt hbyte, Nat.zero_add]
    have hmod : (line * g.pitch + byte) % g.pitch = byte := by
      rw [Nat.add_comm, Nat.add_mul_mod_self_right, Nat.mod_eq_of_lt hbyte]
    simp [Geometry.outputBeat, hplace, hdiv, hmod, h1, h2, h3, h4]

theorem Geometry.outputBuffer_eq_some {g : Geometry} {base addr len b : Nat} (hl : 0 < len) :
    g.outputBuffer base addr len = some b ↔ ∀ i, i < len → g.outputBeat base (addr + 8 * i) = some b := by
  unfold Geometry.outputBuffer
  split
  · rename_i b' h0
    simp only [Option.ite_none_right_eq_some, List.all_eq_true, List.mem_range, beq_iff_eq, Option.some.injEq]
    constructor
    · rintro ⟨h, rfl⟩
      exact h
    · intro h
      obtain rfl : b' = b := by simpa [h0] using h 0 hl
      exact ⟨h, rfl⟩
  · rename_i h0
    simp only [reduceCtorEq, false_iff, not_forall]
    exact ⟨0, hl, by simp [h0]⟩

/-! ### The crop remap (R33) -/

/-- A beat of the output area moved by a correction within the margins lies in the same buffer. -/
theorem Geometry.remapped_beat {g : Geometry} {size base a b : Nat} {r : CaptureRecord} (h : g.ok size = true)
    (ho : g.outputBeat base a = some b) (hr : r.fits g) : ∃ a' o, (a : Int) + (r.dy * (g.pitch : Int) + r.dx * 2) = (a' : Nat)
      ∧ g.place base a' = some (b, o) := by
  obtain ⟨-, -, -, ⟨-, hp⟩, -⟩ := (Geometry.ok_iff g size).1 h
  obtain ⟨hb, line, byte, rfl, h1, h2, h3, h4⟩ := (Geometry.outputBeat_eq_some h).1 ho
  obtain ⟨hx, hy, -⟩ := hr
  obtain ⟨l, hl⟩ : ∃ l : Nat, (line : Int) + r.dy = l := ⟨(line + r.dy).toNat, by omega⟩
  obtain ⟨y, hy'⟩ : ∃ y : Nat, (byte : Int) + r.dx * 2 = y := ⟨(byte + r.dx * 2).toNat, by omega⟩
  refine ⟨base + b * g.stride + l * g.pitch + y, l * g.pitch + y, ?_, (Geometry.place_eq_some h).2 ⟨hb, ?_, by omega⟩⟩
  · push_cast
    rw [← hl, ← hy']
    ring
  · calc l * g.pitch + y < (l + 1) * g.pitch := by rw [Nat.add_one_mul]; omega
      _ ≤ g.height * g.pitch := Nat.mul_le_mul_right _ (by omega)

theorem exec_read_belongs {b : ReadBurst} {s : State} {cls : ReadClass} (hwf : b.wellFormed = true) (hq : s.path.waiting = [])
    (hl : s.path.passQueue.length < 16) (hc : classify s b.addr.toNat b.len b.tag = .belongs cls) :
    exec (.upstreamReadAccepted b) s = .next (forwardBurst b.tag b.addr.toNat (readAddress cls b.addr.toNat b.len s)
      (.read b.len (some cls)) s) := by
  rw [exec_read_accepted hwf hq hl, acceptRead, hc]

/-- Encoder and viewfinder reads of the FRAME window are remapped. -/
theorem readAddress_frame {cls : ReadClass} {addr len : Nat} {s : State} (hr : cls.window.role = .frame)
    (hi : cls.setIndex = 1 ∨ cls.setIndex = 2) : readAddress cls addr len s = remapRead cls.window addr len s.frame.history := by
  rcases hi with hi | hi <;> simp only [readAddress, hr, hi]

theorem readAddress_other {cls : ReadClass} {addr len : Nat} {s : State}
    (h : cls.window.role ≠ .frame ∨ (cls.setIndex ≠ 1 ∧ cls.setIndex ≠ 2)) : readAddress cls addr len s = addr := by
  unfold readAddress
  split <;> simp_all

end Sys2Proof.Machine

namespace Sys2Proof.Proofs

open Sys2Proof Sys2Proof.Machine

/-- Settles O15: the acceptance, the places of the geometry, and the lookups, each by its own lemma. -/
theorem readAcceptedRemapped : Obligations.ReadAcceptedRemapped := by
  refine ⟨fun b s cls hwf hq hl hc => ⟨fun g bf r hr hi hg ho hn => ?_, fun g hr hg ho => ?_, fun h => ?_⟩,
    fun g size base hg => ⟨fun a b o => Geometry.place_eq_some hg, fun a b => Geometry.firstBeatOf_eq_some hg,
      fun addr len b hl => ?_, fun addr len b i r ho hr hi => ?_⟩,
    fun b h => ⟨find?_reverse_iff (by simp) h, find?_reverse_iff (by simp) h, ?_⟩⟩
  · rw [exec_read_belongs hwf hq hl hc, readAddress_frame hr hi]
    simp only [remapRead, hg, ho, remapOffset, hn]
  · have hremap : remapRead cls.window b.addr.toNat b.len s.frame.history = b.addr.toNat := by
      rcases ho with ho | ⟨bf, ho, hn⟩
      · simp only [remapRead, hg, ho]
      · simp [remapRead, hg, ho, remapOffset, hn]
    rw [exec_read_belongs hwf hq hl hc]
    by_cases hi : cls.setIndex = 1 ∨ cls.setIndex = 2
    · rw [readAddress_frame hr hi, hremap]
    · rw [readAddress_other (.inr (by omega))]
  · rw [exec_read_belongs hwf hq hl hc, readAddress_other (h.imp_right fun h => by omega)]
  · rw [Geometry.outputBuffer_eq_some hl]
    simp only [Geometry.outputBeat_eq_some hg]
    exact ⟨fun h => ⟨(h 0 hl).1, fun i hi => (h i hi).2⟩, fun h i hi => ⟨h.1, h.2 i hi⟩⟩
  · have hbeat := (Geometry.outputBuffer_eq_some (by omega)).1 ho
    obtain ⟨a, o, ha, -⟩ := Geometry.remapped_beat hg (hbeat 0 (by omega)) hr
    obtain ⟨ai, oi, hai, hplace⟩ := Geometry.remapped_beat hg (hbeat i hi) hr
    refine ⟨oi, ?_⟩
    rw [← hplace]
    congr 1
    omega
  · simp only [newestRecord_eq_find]
    exact find?_reverse_iff (by simp) h

end Sys2Proof.Proofs
end

section
/-! SUPPORT. One encoder write into the ring: the recognised header and the marker beats, the guarded span, the write held
back and the write forwarded (R154, R157 to R160, R167, R168, R209). -/

namespace Sys2Proof.Machine

/-! ### Headers and marker beats (R154, R209) -/

theorem headerShaped_iff {marker : BeatData} {addr : Nat} {beats : List Beat} : headerShaped marker addr beats = true ↔
    addr % 32 = 0 ∧ beats.length = 4 ∧ (∀ x ∈ beats, x.enables = 255) ∧ beats.head?.map (fun x => x.data) = some marker := by
  simp only [headerShaped, Bool.and_eq_true, beq_iff_eq, List.all_eq_true, beatFull, and_assoc]

/-- A header is recognised by its shape and its coded length. -/
theorem recognise_eq_some {size : Nat} {marker : BeatData} {addr : Nat} {beats : List Beat}
    (hs : headerShaped marker addr beats = true) (h1 : 32 ≤ field (burstBytes beats) 8 4)
    (h2 : field (burstBytes beats) 8 4 ≤ size / 2) : recognise size marker addr beats = some (headerFields beats) := by
  have hc : (headerFields beats).codedLength = field (burstBytes beats) 8 4 := rfl
  simp [recognise, hs, hc, h1, h2]

theorem recognise_eq_none {size : Nat} {marker : BeatData} {addr : Nat} {beats : List Beat}
    (h : headerShaped marker addr beats = false ∨ field (burstBytes beats) 8 4 < 32 ∨ size / 2 < field (burstBytes beats) 8 4) :
    recognise size marker addr beats = none := by
  have hc : (headerFields beats).codedLength = field (burstBytes beats) 8 4 := rfl
  rcases h with h | h
  · simp [recognise, h]
  · have hn : ¬ (32 ≤ field (burstBytes beats) 8 4 ∧ field (burstBytes beats) 8 4 ≤ size / 2) := by omega
    simp [recognise, hc, hn]

/-- Beat `i` of a write at `addr` is a marker beat: a full beat at a multiple of 32 whose bytes are the marker (R154). -/
def Marks (marker : BeatData) (addr i : Nat) (x : Beat) : Prop := (addr + 8 * i) % 32 = 0 ∧ x.enables = 255 ∧ x.data = marker

theorem marks_succ {marker : BeatData} {addr i : Nat} {x : Beat} : Marks marker (addr + 8) i x ↔ Marks marker addr (i + 1) x := by
  rw [Marks, Marks, show addr + 8 + 8 * i = addr + 8 * (i + 1) by ring]

theorem markerBeat_cons (marker : BeatData) (addr : Nat) (x : Beat) (beats : List Beat) [Decidable (Marks marker addr 0 x)] :
    markerBeat marker addr (x :: beats) = if Marks marker addr 0 x then some addr else markerBeat marker (addr + 8) beats := by
  simp only [markerBeat, Marks, Bool.and_eq_true, decide_eq_true_iff, beatFull, beq_iff_eq, mul_zero, add_zero, and_assoc]

open Classical in
theorem markerBeat_eq_none {marker : BeatData} {addr : Nat} {beats : List Beat}
    (h : ∀ i x, beats[i]? = some x → ¬ Marks marker addr i x) : markerBeat marker addr beats = none := by
  induction beats generalizing addr with
  | nil => rfl
  | cons x beats ih =>
    rw [markerBeat_cons, if_neg (h 0 x rfl)]
    exact ih fun i y hy => mt marks_succ.1 (h (i + 1) y hy)

open Classical in
theorem markerBeat_eq_some {marker : BeatData} {addr i : Nat} {beats : List Beat} {x : Beat} (hx : beats[i]? = some x)
    (hm : Marks marker addr i x) (hf : ∀ j y, j < i → beats[j]? = some y → ¬ Marks marker addr j y) :
    markerBeat marker addr beats = some (addr + 8 * i) := by
  induction beats generalizing addr i with
  | nil => simp at hx
  | cons y beats ih =>
    rw [markerBeat_cons]
    cases i with
    | zero =>
      obtain rfl : y = x := by simpa using hx
      rw [if_pos hm]
      rfl
    | succ i =>
      rw [if_neg (hf 0 y (by omega) rfl), ih (by simpa using hx) (marks_succ.2 hm) fun j z hj hz =>
        mt marks_succ.1 (hf (j + 1) z (by omega) (by simpa using hz))]
      congr 1
      ring

/-- A recognised header, and a write with no marker beat, raise no STAMP_FAULT. -/
theorem stampFault_eq_none {size : Nat} {marker : BeatData} {base addr : Nat} {beats : List Beat}
    (h : (recognise size marker addr beats).isSome = true ∨ ∀ i x, beats[i]? = some x → ¬ Marks marker addr i x) :
    stampFault size marker base addr beats = none := by
  rcases h with h | h
  · obtain ⟨f, hf⟩ := Option.isSome_iff_exists.1 h
    simp [stampFault, hf]
  · simp [stampFault, markerBeat_eq_none h]

/-- Any other raises one for its first marker beat. -/
theorem stampFault_eq_some {size : Nat} {marker : BeatData} {base addr i : Nat} {beats : List Beat} {x : Beat}
    (hn : recognise size marker addr beats = none) (hx : beats[i]? = some x) (hm : Marks marker addr i x)
    (hf : ∀ j y, j < i → beats[j]? = some y → ¬ Marks marker addr j y) : stampFault size marker base addr beats =
      some (.stampFault (addr + 8 * i - base) (if headerShaped marker addr beats then .length else .shape)) := by
  simp only [stampFault, markerBeat_eq_some hx hm hf, hn]

/-! ### The guarded span (R151, R159, R167) -/

theorem ringForward_eq {size p q : Nat} (hp : p < size) (hq : q < size) :
    ringForward size p q = if p ≤ q then q - p else q + size - p := by
  unfold ringForward
  split
  · rw [show q + size - p = q - p + size by omega, Nat.add_mod_right, Nat.mod_eq_of_lt (by omega)]
  · exact Nat.mod_eq_of_lt (by omega)

/-- A write touches the guarded span when a byte of it lies less than G behind D. -/
theorem inSpan_iff {size d g off len : Nat} (hl : 0 < len) (hd : d < size) (he : off + len ≤ size) :
    inSpan size (some d) g off len = true ↔ ∃ j, j < len ∧ ringForward size d (off + j) < g := by
  have hspan : inSpan size (some d) g off len = true ↔ 0 < g ∧ (ringForward size d off < g ∨ ringForward size off d < len) := by
    simp [inSpan]
  rw [hspan, ringForward_eq hd (by omega), ringForward_eq (by omega) hd]
  constructor
  · rintro ⟨hg, h | h⟩
    · exact ⟨0, hl, by rw [ringForward_eq hd (by omega)]; exact h⟩
    · split at h
      · exact ⟨d - off, h, by rw [ringForward_eq hd (by omega), if_pos (by omega)]; omega⟩
      · omega
  · rintro ⟨j, hj, h⟩
    rw [ringForward_eq hd (by omega)] at h
    split at h <;> split <;> split <;> omega

end Sys2Proof.Machine
end

section
/-! SUPPORT. An encoder write held back, and one forwarded: what each does to the record tracker (R13, R158, R159, R160, R167,
R168, R170). -/

namespace Sys2Proof.Machine

/-! ### Held back (R167, R168) -/

/-- With nothing waiting, a write that would be held back is accepted at once, the queue full or not (R1, R13). -/
theorem exec_write_heldBack {b : WriteBurst} {s : State} (hwf : b.wellFormed = true) (hq : s.path.waiting = [])
    (hb : wouldHoldBack b s = true) : exec (.upstreamWriteAccepted b) s = .next (acceptWrite b s) := by
  by_cases hl : s.path.passQueue.length < 16
  · exact exec_write_accepted hwf hq hl
  · have hn : presentRequest (.write b) s = acceptWrite b s := by
      rw [presentRequest_overtaking (Nat.le_of_not_lt hl) hb (by simp [hq]), hq]
      rfl
    simp only [exec, execUpstreamWriteAccepted, hwf, if_true, hn]

/-- The newest capture of the header's buffer is later than the clip's stop sequence, so that the clip is not charged. -/
def Passed (s : State) (h : HeaderFields) (c : Clip) : Prop := h.buffer ≤ 3 ∧ ∃ q stop,
  newestComplete h.buffer s.frame.history = some q ∧ c.stopSeq = some stop ∧ laterThan q.seq stop = true

theorem clipIn_eq_none {st : ClipState} {clips : List Clip} : clipIn st clips = none ↔ ∀ c ∈ clips, c.state ≠ st := by
  simp [clipIn]

theorem clipIn_eq_some_of_mem {st : ClipState} {clips : List Clip} (h : ∃ c ∈ clips, c.state = st) :
    ∃ c, clipIn st clips = some c := by
  rw [← Option.isSome_iff_exists, ← Option.ne_none_iff_isSome, ne_eq, clipIn_eq_none]
  simpa using h

theorem hasClip_eq_false {st : ClipState} {clips : List Clip} : hasClip st clips = false ↔ clipIn st clips = none := by
  simp [hasClip, clipIn]

theorem hasClip_of_clipIn {st : ClipState} {clips : List Clip} {c : Clip} (h : clipIn st clips = some c) :
    hasClip st clips = true := by
  rw [← Bool.not_eq_false, hasClip_eq_false, h]
  simp

/-- The OPEN clip is charged. -/
theorem chargedState_opened {s : State} {c : Clip} (h : clipIn .opened s.record.clips = some c) (hd : Option HeaderFields) :
    chargedState hd s = some .opened := by
  simp [chargedState, hasClip_of_clipIn h]

/-- Without one, a recognised header charges the CLOSING clip, unless its capture has passed it. -/
theorem chargedState_closing {s : State} {c : Clip} {hd : HeaderFields} (ho : clipIn .opened s.record.clips = none)
    (hc : clipIn .closing s.record.clips = some c) (hp : ¬ Passed s hd c) : chargedState (some hd) s = some .closing := by
  simp only [chargedState, hasClip_eq_false.2 ho, Bool.false_eq_true, if_false, hc]
  split
  · rename_i q stop hq hstop
    simp only [captureFor, Option.ite_none_right_eq_some] at hq
    rw [if_neg fun hl => hp ⟨hq.1, q, stop, hq.2, hstop, hl⟩]
  · rfl

theorem chargedState_none {s : State} {hd : Option HeaderFields} (ho : clipIn .opened s.record.clips = none)
    (h : hd = none ∨ clipIn .closing s.record.clips = none ∨
      ∃ f c, hd = some f ∧ clipIn .closing s.record.clips = some c ∧ Passed s f c) : chargedState hd s = none := by
  simp only [chargedState, hasClip_eq_false.2 ho, Bool.false_eq_true, if_false]
  rcases h with rfl | h | ⟨f, c, rfl, hc, hb, q, stop, hq, hstop, hl⟩
  · split
    · contradiction
    · rfl
  · simp only [h]
  · simp [hc, captureFor, hb, hq, hstop, hl]

/-- The clips after a write held back: a recognised header counts as a dropped frame of the clip charged (R160, R168). -/
def droppedClips (h : Option HeaderFields) (s : State) : List Clip :=
  match h, chargedState h s with
  | some _, some st => changeClips st Clip.countDropped s.record.clips
  | _, _ => s.record.clips

/-- The overrun hold, and the start of an episode with its RECORD_OVERRUN (R168). -/
def overrunRaised (off : Nat) (h : Option HeaderFields) (s : State) : State :=
  let u := { s with overlay := { s.overlay with overrunHold := 50 } }
  match u.record.episode with
  | some _ => u
  | none => raiseEvent (.recordOverrun off (chargedNumber h u)) { u with record := { u.record with episode := some off } }

/-- A recognised header counts as a frame dropped of the clip charged (R160, R168). -/
def dropCounted (h : Option HeaderFields) (u : State) : State :=
  match h, chargedState h u with
  | some _, some st => { u with record := { u.record with clips := changeClips st Clip.countDropped u.record.clips } }
  | _, _ => u

theorem holdBackWrite_eq_dropCounted (off : Nat) (h : Option HeaderFields) (s : State) :
    holdBackWrite off h s = dropCounted h (overrunRaised off h s) := rfl

theorem dropCounted_eq (h : Option HeaderFields) (u : State) :
    dropCounted h u = { u with record := { u.record with clips := droppedClips h u } } := by
  unfold dropCounted droppedClips
  cases h with
  | none => rfl
  | some f => cases chargedState (some f) u <;> rfl

theorem overrunRaised_eq (off : Nat) (h : Option HeaderFields) (s : State) : overrunRaised off h s = { s with
    overlay := { s.overlay with overrunHold := 50 }
    report := if s.record.episode.isSome then s.report else (raiseEvent (.recordOverrun off (chargedNumber h s)) s).report
    record := { s.record with episode := some (s.record.episode.getD off) } } := by
  unfold overrunRaised
  obtain ⟨now, straps, path, command, report, frame, lens, axis, engines, gyro, stab, overlay, audio, record, metadata,
    pending⟩ := s
  obtain ⟨writeEnd, drain, guarded, level, index, clips, nextClip, episode, timecode⟩ := record
  cases episode with
  | some e => rfl
  | none =>
    simp only [raiseEvent_eq]
    rfl

theorem droppedClips_of_some {h : HeaderFields} {s : State} {st : ClipState} (hc : chargedState (some h) s = some st) :
    droppedClips (some h) s = changeClips st Clip.countDropped s.record.clips := by
  simp [droppedClips, hc]

theorem droppedClips_of_none {h : HeaderFields} {s : State} (hc : chargedState (some h) s = none) :
    droppedClips (some h) s = s.record.clips := by
  simp [droppedClips, hc]

/-- All that a write held back does: the overrun hold, the episode with its RECORD_OVERRUN, and the dropped frame. -/
theorem holdBackWrite_eq (off : Nat) (h : Option HeaderFields) (s : State) : holdBackWrite off h s = { s with
    overlay := { s.overlay with overrunHold := 50 }
    report := if s.record.episode.isSome then s.report else (raiseEvent (.recordOverrun off (chargedNumber h s)) s).report
    record := { s.record with episode := some (s.record.episode.getD off), clips := droppedClips h s } } := by
  rw [holdBackWrite_eq_dropCounted, dropCounted_eq, overrunRaised_eq]
  rfl

theorem chargedNumber_opened {s : State} {c : Clip} (h : clipIn .opened s.record.clips = some c) (hd : Option HeaderFields) :
    chargedNumber hd s = c.number := by
  simp [chargedNumber, chargedState_opened h, h]

theorem chargedNumber_closing {s : State} {c : Clip} {hd : HeaderFields} (ho : clipIn .opened s.record.clips = none)
    (hc : clipIn .closing s.record.clips = some c) (hp : ¬ Passed s hd c) : chargedNumber (some hd) s = c.number := by
  simp [chargedNumber, chargedState_closing ho hc hp, hc]

theorem chargedNumber_none {s : State} {hd : Option HeaderFields} (ho : clipIn .opened s.record.clips = none)
    (h : hd = none ∨ clipIn .closing s.record.clips = none ∨
      ∃ f c, hd = some f ∧ clipIn .closing s.record.clips = some c ∧ Passed s f c) : chargedNumber hd s = 0 := by
  simp [chargedNumber, chargedState_none ho h]

/-- The STAMP_FAULT of a write, if any, raised first (R154). -/
def stampFaulted (w : WindowRecord) (marker : BeatData) (addr : Nat) (beats : List Beat) (s : State) : State :=
  match stampFault w.size marker w.base addr beats with
  | some p => raiseEvent p s
  | none => s

/-- It changes the report unit alone. -/
theorem stampFaulted_eq (w : WindowRecord) (marker : BeatData) (addr : Nat) (beats : List Beat) (s : State) :
    ∃ u, stampFaulted w marker addr beats s = { s with report := u } := by
  unfold stampFaulted
  split
  · exact ⟨_, raiseEvent_eq _ s⟩
  · exact ⟨s.report, rfl⟩

/-- What an encoder write does when it is held back. -/
theorem encoderWrite_of_holdsBack {w : WindowRecord} {setup : RingSetup} {addr : Nat} {beats : List Beat} {s : State}
    (hp : w.params = .record setup) (h : holdsBack w.size setup w.base addr beats s = true) :
    (encoderWrite w addr beats s).1 =
      holdBackWrite (addr - w.base) (recognise w.size setup.marker addr beats) (stampFaulted w setup.marker addr beats s) := by
  simp only [encoderWrite, hp, h, if_true]
  rfl

/-- Of a write under the encoder set, the ring's span, the episode and the header decide (R13, R167, R168). -/
theorem wouldHoldBack_iff {b : WriteBurst} {s : State} {w : WindowRecord} {setup : RingSetup}
    (hc : classify s b.addr.toNat b.beats.length b.tag = .belongs { window := w, setIndex := 0 }) (hr : w.role = .record)
    (hp : w.params = .record setup) : wouldHoldBack b s = true ↔
      inSpan w.size s.record.drain s.record.guarded (b.addr.toNat - w.base) (8 * b.beats.length) = true
        ∨ (s.record.episode.isSome = true ∧ recognise w.size setup.marker b.addr.toNat b.beats = none) := by
  have hw : wouldHoldBack b s = holdsBack w.size setup w.base b.addr.toNat b.beats s := by simp [wouldHoldBack, hc, hr, hp]
  rw [hw, holdsBack]
  cases s.record.episode <;> simp

/-- The state after a write held back is answered. -/
theorem acceptWrite_heldBack {b : WriteBurst} {s : State} {w : WindowRecord} {setup : RingSetup}
    (hc : classify s b.addr.toNat b.beats.length b.tag = .belongs { window := w, setIndex := 0 }) (hr : w.role = .record)
    (hp : w.params = .record setup) (h : wouldHoldBack b s = true) : acceptWrite b s =
      answerHeldBack b.tag (holdBackWrite (b.addr.toNat - w.base) (recognise w.size setup.marker b.addr.toNat b.beats)
        (stampFaulted w setup.marker b.addr.toNat b.beats s)) := by
  obtain ⟨cls, hcls, -, -, hacc⟩ := acceptWrite_of_wouldHoldBack h
  obtain rfl : { window := w, setIndex := 0 } = cls := by simpa [hc] using hcls
  have hw : wouldHoldBack b s = holdsBack w.size setup w.base b.addr.toNat b.beats s := by simp [wouldHoldBack, hc, hr, hp]
  rw [hacc, encoderWrite_of_holdsBack hp (hw ▸ h)]

/-- A write that belongs to a window lies in it. -/
theorem base_le_of_classify {s : State} {a len : Nat} {tag : BitVec 4} {cls : ReadClass}
    (h : classify s a len tag = .belongs cls) : cls.window.base ≤ a ∧ a < cls.window.base + cls.window.size := by
  unfold classify at h
  split at h
  · rename_i i w hd
    repeat' split at h
    · cases h
    · cases h
      obtain ⟨k, -, -, -, hh, -⟩ := decidingWindow_eq_some.1 hd
      exact (holds_iff w a).1 hh
    · cases h
  · cases h

end Sys2Proof.Machine

namespace Sys2Proof.Proofs

open Sys2Proof Sys2Proof.Machine

/-- Settles O18: the span, the write held back, and its charge, case by case. -/
theorem guardedWriteHeldBack : Obligations.GuardedWriteHeldBack := by
  refine ⟨fun size d g off len hl hd he => inSpan_iff hl hd he, fun b s w setup hwf hq hc hr hp => ?_⟩
  have hiff := wouldHoldBack_iff hc hr hp
  refine ⟨hiff, fun hheld => ?_⟩
  have hb := hiff.2 hheld
  have hpath := acceptWrite_heldBack_path hb
  have hacc := acceptWrite_heldBack hc hr hp hb
  obtain ⟨u, hu⟩ := stampFaulted_eq w setup.marker b.addr.toNat b.beats s
  refine ⟨acceptWrite b s, exec_write_heldBack hwf hq hb, by rw [hpath], by rw [hpath]; exact hq, by rw [hpath], ?_⟩
  rw [holdBackWrite_eq, hu] at hacc
  rw [hacc]
  refine ⟨rfl, rfl, rfl, rfl, rfl, rfl, ?_, fun hn => ?_, fun h hh => ⟨fun ho => ?_, fun c stopSeq ho hcl hstop => ?_, fun ho => ?_⟩⟩
  · intro clipIn passed overrun raised marks shape
    have hraised : raised (stampFaulted w setup.marker b.addr.toNat b.beats s) := by
      rw [hu]
      refine ⟨fun c ho => ?_, fun h c ho hh hcl hpass => ?_, fun ho hcase => ?_⟩
      · rw [← chargedNumber_opened ho (recognise w.size setup.marker b.addr.toNat b.beats)]
        rfl
      · rw [← chargedNumber_closing ho hcl hpass, ← hh]
        rfl
      · rw [← chargedNumber_none ho hcase]
        rfl
    have hbase := (base_le_of_classify hc).1
    refine ⟨fun hnone => ?_, fun i x hn hx hm hf => ?_⟩
    · rwa [stampFaulted, stampFault_eq_none hnone] at hraised
    · have hfault : stampFaulted w setup.marker b.addr.toNat b.beats s =
          raiseEvent (.stampFault (b.addr.toNat - w.base + 8 * i)
            (if headerShaped setup.marker b.addr.toNat b.beats then .length else .shape)) s := by
        rw [stampFaulted, stampFault_eq_some hn hx hm hf, Nat.sub_add_comm hbase]
      rw [hfault] at hraised
      refine ⟨fun hs => ?_, fun hs => ?_⟩
      · rwa [if_pos (headerShaped_iff.2 hs)] at hraised
      · rwa [if_neg (mt headerShaped_iff.1 hs)] at hraised
  · rw [hn]
    rfl
  · rw [hh]
    obtain ⟨c, hc⟩ := clipIn_eq_some_of_mem ho
    exact droppedClips_of_some (chargedState_opened (s := s) hc _)
  · rw [hh]
    have ho' : clipIn .opened s.record.clips = none := clipIn_eq_none.2 ho
    by_cases hpass : Passed s h c
    · obtain ⟨hb3, q, stop, hq, hs, hlater⟩ := hpass
      obtain rfl : stopSeq = stop := by simpa [hstop] using hs
      simp only [if_pos hb3, hq, if_pos hlater]
      exact droppedClips_of_none (chargedState_none (s := s) ho' (.inr (.inr ⟨h, c, rfl, hcl, hb3, q, stopSeq, hq, hstop, hlater⟩)))
    · refine (droppedClips_of_some (chargedState_closing (s := s) ho' hcl hpass)).trans ?_
      split
      · rename_i q hq
        simp only [Option.ite_none_right_eq_some] at hq
        rw [if_neg fun hlater => hpass ⟨hq.1, q, stopSeq, hq.2, hstop, hlater⟩]
        rfl
      · rfl
  · rw [hh]
    exact droppedClips_of_none (chargedState_none (s := s) (clipIn_eq_none.2 fun c hc => (ho c hc).1)
      (.inr (.inl (clipIn_eq_none.2 fun c hc => (ho c hc).2))))

end Sys2Proof.Proofs
end

section
/-! SUPPORT. An encoder write that is no recognised header and is forwarded (R157 to R159, R170, R172). -/

namespace Sys2Proof.Machine

/-- The oldest clip is drained when it is CLOSED and D stands at its end (R170). -/
theorem drained_iff {s : State} : drained s = true ↔
    ∃ c rest d, s.record.clips = c :: rest ∧ c.state = .closed ∧ c.stop = some d ∧ s.record.drain = some d := by
  unfold drained
  split
  · rename_i c rest d hc hd
    simp [hc, hd]
  · rename_i hn
    simp only [Bool.false_eq_true, false_iff]
    rintro ⟨c, rest, d, hc, -, -, hd⟩
    exact hn c rest d hc hd

/-- The frame index, the write end and G after a forwarded write (R157, R159). -/
def ringMoved (size off len : Nat) (s : State) : State :=
  moveWriteEnd size off len { s with record := { s.record with index := keepUncovered off len s.record.index } }

theorem ringMoved_eq (size off len : Nat) (s : State) : ringMoved size off len s = { s with record := { s.record with
    index := s.record.index.filter fun x => !(off < x.start + 32 && x.start < off + len)
    writeEnd := some ((off + len) % size)
    guarded := match s.record.drain with
      | some d => if ((off + len) % size + size - d) % size = 0 then size else ((off + len) % size + size - d) % size
      | none => 0 } } := by
  unfold ringMoved moveWriteEnd
  cases hd : s.record.drain <;> simp only [hd] <;> rfl

/-- An encoder write that is no recognised header and is not held back is forwarded as written. -/
theorem acceptWrite_forwarded {b : WriteBurst} {s : State} {w : WindowRecord} {setup : RingSetup}
    (hc : classify s b.addr.toNat b.beats.length b.tag = .belongs { window := w, setIndex := 0 }) (hr : w.role = .record)
    (hp : w.params = .record setup) (hn : recognise w.size setup.marker b.addr.toNat b.beats = none)
    (he : s.record.episode = none)
    (hs : inSpan w.size s.record.drain s.record.guarded (b.addr.toNat - w.base) (8 * b.beats.length) = false) :
    acceptWrite b s = forwardWrite b b.beats (evaluateLevel (drainIfDue (ringMoved w.size (b.addr.toNat - w.base)
      (8 * b.beats.length) (stampFaulted w setup.marker b.addr.toNat b.beats s)))) := by
  have hh : holdsBack w.size setup w.base b.addr.toNat b.beats s = false := by simp [holdsBack, he, hs]
  have ho : ownerWrite { window := w, setIndex := 0 } b.addr.toNat b.beats s = encoderWrite w b.addr.toNat b.beats s := by
    simp [ownerWrite, hr]
  have hw : encoderWrite w b.addr.toNat b.beats s = (evaluateLevel (drainIfDue (ringMoved w.size (b.addr.toNat - w.base)
      (8 * b.beats.length) (stampFaulted w setup.marker b.addr.toNat b.beats s))), some b.beats) := by
    simp only [encoderWrite, hp, hh, Bool.false_eq_true, if_false, forwardEncoderWrite, hn]
    rfl
  rw [acceptWrite, hc]
  simp only [ho, hw]

end Sys2Proof.Machine

namespace Sys2Proof.Proofs

open Sys2Proof Sys2Proof.Machine

/-- Settles O19: the recognised header, and the write that is none, forwarded with the STAMP_FAULT it raises first. -/
theorem encoderWriteForwarded : Obligations.EncoderWriteForwarded := by
  intro b s w setup hwf hq hl hc hr hp addr off coded shape header e moved forwarded marks
  have hnone : (¬ shape ∨ coded < 32 ∨ w.size / 2 < coded) → recognise w.size setup.marker addr b.beats = none := fun h =>
    recognise_eq_none (h.imp_left fun hs => by rw [← Bool.not_eq_true, headerShaped_iff]; exact hs)
  refine ⟨fun hs h1 h2 => recognise_eq_some (headerShaped_iff.2 hs) h1 h2, hnone, fun h he hspan => ?_⟩
  have hn := hnone h
  have hacc : exec (.upstreamWriteAccepted b) s = _ :=
    (exec_write_accepted hwf hq hl).trans (congrArg Host.Outcome.next (acceptWrite_forwarded hc hr hp hn he hspan))
  have hmoved : ∀ u x, x = { s with report := u } →
      ringMoved w.size (b.addr.toNat - w.base) (8 * b.beats.length) x = moved x := by
    rintro u x rfl
    exact ringMoved_eq ..
  have hforwarded : forwarded (stampFaulted w setup.marker b.addr.toNat b.beats s) := by
    obtain ⟨u, hu⟩ := stampFaulted_eq w setup.marker b.addr.toNat b.beats s
    rw [hmoved u _ hu] at hacc
    have hdrained : drained (moved (stampFaulted w setup.marker b.addr.toNat b.beats s)) = true ↔
        ∃ c rest d, s.record.clips = c :: rest ∧ c.state = .closed ∧ c.stop = some d ∧ s.record.drain = some d := by
      rw [drained_iff, hu]
    refine ⟨fun hd => ?_, fun hd => ?_⟩
    · rwa [drainIfDue, if_pos (hdrained.2 hd)] at hacc
    · rwa [drainIfDue, if_neg fun hx => ?_] at hacc
      obtain ⟨c, rest, d, hclips, hclosed, hstop, hdrain⟩ := hdrained.1 hx
      exact hd c rest d hclips hclosed hdrain hstop
  refine ⟨fun hm => ?_, fun i x hx hm hf => ?_⟩
  · rwa [stampFaulted, stampFault_eq_none (.inr hm)] at hforwarded
  · rw [stampFaulted, stampFault_eq_some hn hx hm hf] at hforwarded
    refine ⟨fun hs => ?_, fun hs => ?_⟩
    · rwa [if_pos (headerShaped_iff.2 hs)] at hforwarded
    · rwa [if_neg (mt headerShaped_iff.1 hs)] at hforwarded

end Sys2Proof.Proofs
end

section
/-! SUPPORT. The codes of 11.6 both ways, and records of bytes laid out field by field (11, R208). -/

namespace Sys2Proof.Machine

/-! ### Codes (11.6) -/

/-- The codes of these values are 1, 2 and so on, and each code names its value and no other. -/
def Named {α : Type} (names : List α) (code : α → Nat) (of : Nat → Option α) : Prop :=
  (∀ n, of n = if n = 0 then none else names[n - 1]?) ∧ (∀ x, of (code x) = some x)
    ∧ names.map code = List.range' 1 names.length

/-- Of at most eight names, the codes 0 to 8 are looked up; those above name nothing. -/
theorem lookup_of_small {α : Type} {names : List α} {of : Nat → Option α} (hl : names.length ≤ 8)
    (hin : ∀ n, n < 9 → of n = if n = 0 then none else names[n - 1]?) (hout : ∀ n, of (n + 9) = none) (n : Nat) :
    of n = if n = 0 then none else names[n - 1]? := by
  by_cases h : n < 9
  · exact hin n h
  · obtain ⟨k, rfl⟩ : ∃ k, n = k + 9 := ⟨n - 9, by omega⟩
    rw [hout, if_neg (by omega), List.getElem?_eq_none (by omega)]

theorem named_of_small {α : Type} {names : List α} {code : α → Nat} {of : Nat → Option α} (hl : names.length ≤ 8)
    (hin : ∀ n, n < 9 → of n = if n = 0 then none else names[n - 1]?) (hout : ∀ n, of (n + 9) = none)
    (hcode : ∀ x, of (code x) = some x) (hmap : names.map code = List.range' 1 names.length) : Named names code of :=
  ⟨lookup_of_small hl hin hout, hcode, hmap⟩

/-! ### Fields of a record (11, R208) -/

/-- The bytes from byte `k` of a record on hold these fields, and 0 wherever no field names them. -/
def Places (k : Nat) (bytes : List Byte) (fields : List (Nat × Nat × Int)) : Prop :=
  (∀ f ∈ fields, k ≤ f.1 ∧ (field bytes (f.1 - k) f.2.1 : Int) = f.2.2 % 256 ^ f.2.1)
    ∧ ∀ j, k ≤ j → (∀ f ∈ fields, j < f.1 ∨ f.1 + f.2.1 ≤ j) → bytes.getD (j - k) 0 = 0

theorem places_nil (k : Nat) : Places k [] [] := ⟨by simp, by simp⟩

/-- A part of `n` bytes stands ahead of the rest. -/
theorem Places.append {k n : Nat} {part bytes : List Byte} {fields : List (Nat × Nat × Int)} (hn : part.length = n)
    (h : Places (k + n) bytes fields) :
    (∀ f ∈ fields, k ≤ f.1 ∧ (field (part ++ bytes) (f.1 - k) f.2.1 : Int) = f.2.2 % 256 ^ f.2.1)
      ∧ ∀ j, k + n ≤ j → (∀ f ∈ fields, j < f.1 ∨ f.1 + f.2.1 ≤ j) → (part ++ bytes).getD (j - k) 0 = 0 := by
  refine ⟨fun f hf => ?_, fun j hj hfree => ?_⟩
  · obtain ⟨hk, hv⟩ := h.1 f hf
    refine ⟨by omega, ?_⟩
    rw [← hv, field, field, List.drop_append, List.drop_of_length_le (by omega), List.nil_append, hn,
      Nat.sub_sub]
  · have := h.2 j hj hfree
    rw [List.getD_append_right _ _ _ _ (by omega), hn, show j - k - n = j - (k + n) by omega]
    exact this

/-- A part that is a field of its own width. -/
theorem Places.field {k n : Nat} {v : Int} {part bytes : List Byte} {fields : List (Nat × Nat × Int)} (hn : part.length = n)
    (hv : (ofLe part : Int) = v % 256 ^ n) (h : Places (k + n) bytes fields) :
    Places k (part ++ bytes) ((k, n, v) :: fields) := by
  obtain ⟨hf, hz⟩ := h.append hn
  refine ⟨List.forall_mem_cons.2 ⟨⟨le_rfl, ?_⟩, hf⟩, fun j hj hfree => ?_⟩
  · have htake : (part ++ bytes).take n = part := by rw [← hn, List.take_left']; rfl
    rw [← hv, Nat.sub_self, Machine.field, List.drop_zero, htake]
  · have hhere : j < k ∨ k + n ≤ j := hfree (k, n, v) List.mem_cons_self
    exact hz j (by omega) fun f hf => hfree f (List.mem_cons_of_mem _ hf)

/-- A part of zeros that no field names. -/
theorem Places.gap {k n : Nat} {bytes : List Byte} {fields : List (Nat × Nat × Int)} (h : Places (k + n) bytes fields) :
    Places k (List.replicate n 0 ++ bytes) fields := by
  obtain ⟨hf, hz⟩ := h.append (part := List.replicate n 0) (List.length_replicate ..)
  refine ⟨hf, fun j hj hfree => ?_⟩
  by_cases hlt : k + n ≤ j
  · exact hz j hlt hfree
  · rw [List.getD_append _ _ _ _ (by simp; omega)]
    simp

theorem ofLe_leNat (n v : Nat) : ofLe (leNat n v) = v % 256 ^ n := by
  induction n generalizing v with
  | zero => simp [leNat, ofLe, Nat.mod_one]
  | succ n ih =>
    rw [leNat, ofLe, ih, BitVec.toNat_ofNat, pow_succ' 256 n, Nat.mod_mul]

theorem Places.leNat {k n v : Nat} {bytes : List Byte} {fields : List (Nat × Nat × Int)} (h : Places (k + n) bytes fields) :
    Places k (leNat n v ++ bytes) ((k, n, (v : Int)) :: fields) :=
  h.field (leNat_length n v) (by rw [ofLe_leNat]; push_cast; rfl)

theorem Places.leInt {k n : Nat} {v : Int} {bytes : List Byte} {fields : List (Nat × Nat × Int)}
    (h : Places (k + n) bytes fields) : Places k (leInt n v ++ bytes) ((k, n, v) :: fields) :=
  h.field (leNat_length ..) (by
    rw [Machine.leInt, ofLe_leNat]
    have : (0 : Int) < 256 ^ n := by positivity
    push_cast
    rw [Int.toNat_of_nonneg (Int.emod_nonneg _ (ne_of_gt this)), Int.emod_emod_of_dvd _ dvd_rfl])

/-- A byte that is a field. -/
theorem Places.byte {k : Nat} {b : Byte} {v : Int} {bytes : List Byte} {fields : List (Nat × Nat × Int)}
    (hv : (b.toNat : Int) = v % 256) (h : Places (k + 1) bytes fields) : Places k (b :: bytes) ((k, 1, v) :: fields) :=
  Places.field (part := [b]) rfl (by simpa [ofLe] using hv) h

theorem Places.byteOf {k v : Nat} {bytes : List Byte} {fields : List (Nat × Nat × Int)} (h : Places (k + 1) bytes fields) :
    Places k (byteOf v :: bytes) ((k, 1, (v : Int)) :: fields) :=
  h.byte (by simp [Machine.byteOf])

theorem Places.toNat {k : Nat} {b : Byte} {bytes : List Byte} {fields : List (Nat × Nat × Int)} (h : Places (k + 1) bytes fields) :
    Places k (b :: bytes) ((k, 1, (b.toNat : Int)) :: fields) :=
  h.byte (by have := b.isLt; omega)

theorem Places.flag {k : Nat} {c : Bool} {bytes : List Byte} {fields : List (Nat × Nat × Int)} (h : Places (k + 1) bytes fields) :
    Places k (flagByte c :: bytes) ((k, 1, if c then (1 : Int) else 0) :: fields) :=
  h.byte (by cases c <;> rfl)

theorem Places.zero {k : Nat} {bytes : List Byte} {fields : List (Nat × Nat × Int)} (h : Places (k + 1) bytes fields) :
    Places k (0 :: bytes) fields := Places.gap (n := 1) h

/-- A list of bytes, a field each. -/
theorem places_bytes (k n : Nat) {bytes : List Byte} (hl : bytes.length ≤ n) :
    Places k bytes ((List.range n).map fun i => (k + i, 1, ((bytes.getD i 0).toNat : Int))) := by
  refine ⟨fun f hf => ?_, fun j hj hfree => ?_⟩
  · obtain ⟨i, -, rfl⟩ := List.mem_map.1 hf
    refine ⟨by omega, ?_⟩
    have := (bytes.getD i 0).isLt
    simp only [Nat.add_sub_cancel_left, field_eq_sum, List.range_one, List.map_cons, List.map_nil, List.sum_cons, List.sum_nil,
      pow_zero, pow_one, add_zero, mul_one]
    omega
  · refine List.getD_eq_default _ _ ?_
    by_contra hlt
    have := hfree (k + (j - k), 1, ((bytes.getD (j - k) 0).toNat : Int))
      (List.mem_map.2 ⟨j - k, List.mem_range.2 (by omega), rfl⟩)
    simp only at this
    omega

/-- A record padded with zeros to its size is laid out as its bytes are. -/
theorem laidOut_padTo {n : Nat} {bytes : List Byte} {fields : List (Nat × Nat × Int)} (hl : bytes.length ≤ n)
    (h : Places 0 bytes fields) : LaidOut (padTo n bytes) n fields := by
  have hp : padTo n bytes = bytes ++ List.replicate (n - bytes.length) 0 := by
    rw [padTo, zeros, List.take_append, List.take_of_length_le hl, List.take_replicate, Nat.min_eq_left (by omega)]
  have hd : ∀ i, (padTo n bytes).getD i 0 = bytes.getD i 0 := fun i => by
    rw [hp]
    by_cases hi : i < bytes.length
    · rw [List.getD_append _ _ _ _ hi]
    · rw [List.getD_append_right _ _ _ _ (by omega), List.getD_eq_default bytes _ (by omega)]
      simp only [List.getD_eq_getElem?_getD, List.getElem?_replicate]
      split <;> rfl
  refine ⟨by rw [hp]; simp; omega, fun f hf => ?_, fun j _ hfree => ?_⟩
  · rw [← (h.1 f hf).2, field_eq_sum, field_eq_sum]
    simp only [hd, Nat.sub_zero]
  · rw [hd]
    exact h.2 j (Nat.zero_le j) hfree

theorem places_leNat (k n v : Nat) : Places k (leNat n v) [(k, n, (v : Int))] := by
  simpa using Places.leNat (v := v) (places_nil (k + n))

theorem places_leInt (k n : Nat) (v : Int) : Places k (leInt n v) [(k, n, v)] := by
  simpa using Places.leInt (v := v) (places_nil (k + n))

@[simp] theorem leInt_length (n : Nat) (v : Int) : (leInt n v).length = n := leNat_length ..

/-! ### Reports (R208) -/

/-- The value of a flag in a record. -/
def flagValue (b : Bool) : Int := if b then 1 else 0

@[simp] theorem flagValue_false : flagValue false = 0 := rfl

/-- Byte 0 of a report. -/
theorem Places.head {lap lost software : Bool} {kind : Nat} {bytes : List Byte}
    {fields : List (Nat × Nat × Int)} (h : Places 1 bytes fields) : Places 0 (reportHead lap lost software kind :: bytes)
      ((0, 1, flagValue lap + 2 * flagValue lost + (16 * kind + 4 * flagValue software)) :: fields) := by
  refine Places.byte ?_ h
  simp only [reportHead, Machine.byteOf, BitVec.toNat_ofNat, flagValue]
  cases lap <;> cases lost <;> cases software <;> simp <;> omega

/-- A completion report is laid out as its result is. -/
theorem completion_laidOut {lap lost : Bool} {st : Status} {tag code : Half} {res : CommandResult} {m : Option WindowRecord}
    {fields : List (Nat × Nat × Int)} (hl : res.bytes.length ≤ 26) (h : Places 6 res.bytes fields) :
    LaidOut ((Report.completion st tag code res m).compose lap lost) 32 ((0, 1, flagValue lap + 2 * flagValue lost + 16)
      :: (1, 1, (st.code : Int)) :: (2, 2, (tag.toNat : Int)) :: (4, 2, (code.toNat : Int)) :: fields) := by
  have hb : Places 0 (reportHead lap lost false 1 :: byteOf st.code :: (leNat 2 tag.toNat ++ (leNat 2 code.toNat ++ res.bytes)))
      _ := Places.head (Places.byteOf (Places.leNat (Places.leNat h)))
  have hp := laidOut_padTo (n := 32) (by simp; omega) hb
  simpa [Report.compose] using hp

theorem status_laidOut {lap lost : Bool} {block part parts : Nat} {tag : Half} {items : List Byte}
    {fields : List (Nat × Nat × Int)} (hl : items.length ≤ 28) (h : Places 4 items fields) :
    LaidOut ((Report.status block part parts tag items).compose lap lost) 32 ((0, 1, flagValue lap + 2 * flagValue lost + 48)
      :: (1, 1, ((block + 16 * (part - 1) + 64 * (parts - 1) : Nat) : Int)) :: (2, 2, (tag.toNat : Int)) :: fields) := by
  have hb : Places 0 (reportHead lap lost false 3 :: byteOf (block + 16 * (part - 1) + 64 * (parts - 1))
      :: (leNat 2 tag.toNat ++ items)) _ := Places.head (Places.byteOf (Places.leNat h))
  have hp := laidOut_padTo (n := 32) (by simp; omega) hb
  simpa [Report.compose] using hp

/-- Every payload finds room behind the first four bytes. -/
theorem EventPayload.bytes_length_le (p : EventPayload) : p.bytes.length ≤ 28 := by
  unfold EventPayload.bytes
  split <;> simp

/-- An event report is laid out as its payload is. -/
theorem event_laidOut {lap lost software : Bool} {k : EventKind} {count : Byte} {p : EventPayload}
    {fields : List (Nat × Nat × Int)} (h : Places 4 p.bytes fields) :
    LaidOut ((Report.event k count p software).compose lap lost) 32
      ((0, 1, flagValue lap + 2 * flagValue lost + (32 + 4 * flagValue software))
        :: (1, 1, (k.number : Int)) :: (2, 1, (count.toNat : Int)) :: fields) := by
  have hb : Places 0 (reportHead lap lost software 2 :: byteOf k.number :: count :: 0 :: p.bytes) _ :=
    Places.head (Places.byteOf (Places.toNat (Places.zero h)))
  have hp := laidOut_padTo (n := 32) (by have := p.bytes_length_le; simp; omega) hb
  simpa [Report.compose] using hp

/-- The payload of RAISE EVENT: sixteen bytes as given (R202). -/
theorem places_raw (bytes : List Byte) :
    Places 4 (EventPayload.raw bytes).bytes ((List.range 16).map fun i => (4 + i, 1, ((bytes.getD i 0).toNat : Int))) := by
  have htake : (List.range 16).map (fun i => (4 + i, 1, (((bytes.take 16).getD i 0).toNat : Int))) =
      (List.range 16).map fun i => (4 + i, 1, ((bytes.getD i 0).toNat : Int)) :=
    List.map_congr_left fun i hi => by
      rw [List.getD_eq_getElem?_getD, List.getElem?_take_of_lt (List.mem_range.1 hi), List.getD_eq_getElem?_getD]
  rw [← htake]
  exact places_bytes 4 16 (List.length_take_le ..)

/-- The payload of RECORD_STATE: an absent offset is 0 with its presence bit clear. -/
theorem places_recordState (number : Nat) (st : ClipState) (start stop : Option Nat) (stamped dropped : Nat) :
    Places 4 (EventPayload.recordState number st start stop stamped dropped).bytes
      [(4, 2, (number : Int)), (6, 1, (st.code : Int)), (7, 1, flagValue start.isSome + 2 * flagValue stop.isSome),
        (8, 4, ((start.getD 0 : Nat) : Int)), (12, 4, ((stop.getD 0 : Nat) : Int)), (16, 4, (stamped : Int)),
        (20, 2, (dropped : Int))] := by
  have hflags : ((byteOf ((if start.isSome then 1 else 0) + (if stop.isSome then 2 else 0))).toNat : Int) =
      (flagValue start.isSome + 2 * flagValue stop.isSome) % 256 := by
    cases start <;> cases stop <;> rfl
  simp only [EventPayload.bytes, List.append_assoc, List.cons_append, List.nil_append]
  exact Places.leNat (Places.byteOf (Places.byte hflags (Places.leNat (Places.leNat (Places.leNat (places_leNat ..))))))

end Sys2Proof.Machine

namespace Sys2Proof.Proofs

open Sys2Proof Sys2Proof.Machine

/-- Settles O28: the codes by lookup, and each report's bytes written one field after another. -/
theorem reportBytes : Obligations.ReportBytes := by
  refine ⟨⟨named_of_small (by decide) (by decide) (fun _ => rfl) (fun x => by cases x <;> rfl) rfl,
    named_of_small (by decide) (by decide) (fun _ => rfl) (fun x => by cases x <;> rfl) rfl, rfl,
    named_of_small (by decide) (by decide) (fun _ => rfl) (fun x => by cases x <;> rfl) rfl, rfl, rfl,
    named_of_small (by decide) (by decide) (fun _ => rfl) (fun x => by cases x <;> rfl) rfl,
    named_of_small (by decide) (by decide) (fun _ => rfl) (fun x => by cases x <;> rfl) rfl,
    named_of_small (by decide) (by decide) (fun _ => rfl) (by rintro (_ | _ | ⟨_ | _ | _⟩ | _ | _) <;> rfl) rfl, rfl,
    named_of_small (by decide) (by decide) (fun _ => rfl) (fun x => by cases x <;> rfl) rfl,
    named_of_small (by decide) (by decide) (fun _ => rfl) (fun x => by cases x <;> rfl) rfl, rfl, rfl, rfl,
    named_of_small (by decide) (by decide) (fun _ => rfl) (fun x => by cases x <;> rfl) rfl,
    named_of_small (by decide) (by decide) (fun _ => rfl) (fun x => by cases x <;> rfl) rfl, rfl,
    named_of_small (by decide) (by decide) (fun _ => rfl) (fun x => by cases x <;> rfl) rfl, rfl,
    lookup_of_small (by decide) (by decide) (fun _ => rfl), lookup_of_small (by decide) (by decide) (fun _ => rfl),
    named_of_small (by decide) (by decide) (fun _ => rfl) (fun x => by cases x <;> rfl) rfl, rfl,
    named_of_small (by decide) (by decide) (fun _ => rfl) (fun x => by cases x <;> rfl) rfl,
    named_of_small (by decide) (by decide) (fun _ => rfl) (fun x => by cases x <;> rfl) rfl, rfl, rfl, rfl,
    ⟨fun _ => rfl, EventKind.ofNumber_number, rfl⟩, rfl, rfl⟩, fun lap lost => ⟨fun st tag code m => ?_, ?_, fun count sw => ?_⟩⟩
  · refine ⟨completion_laidOut (by simp [CommandResult.bytes]) (places_nil 6), fun x y count => ?_, fun cleared count => ?_,
      fun n => ?_⟩
    · exact completion_laidOut (by simp [CommandResult.bytes]) (by
        simp only [CommandResult.bytes, List.append_assoc]
        exact Places.leInt (Places.leInt (places_leNat ..)))
    · exact completion_laidOut (by simp [CommandResult.bytes]) (Places.flag (Places.toNat (places_nil 8)))
    · exact completion_laidOut (by simp [CommandResult.bytes]) (Places.byteOf (places_nil 7))
  · intro block part parts tag items _ _ _ _ hl
    exact status_laidOut hl (places_bytes 4 28 hl)
  · refine ⟨fun k bytes => ⟨.inl ⟨_, rfl⟩, event_laidOut (places_raw bytes)⟩,
      fun code tag => ⟨.inr rfl, event_laidOut (Places.leNat (places_leNat ..))⟩,
      fun pos cause => ⟨.inr rfl, event_laidOut ?_⟩,
      fun k n => ⟨.inr rfl, event_laidOut (Places.byteOf (Places.byteOf (places_nil _)))⟩,
      fun lost => ⟨.inr rfl, event_laidOut ?_⟩,
      fun i tag addr => ⟨.inr rfl, event_laidOut (Places.byteOf (Places.byteOf (Places.zero (Places.zero (places_leNat ..)))))⟩,
      fun st => ⟨.inr rfl, event_laidOut (Places.byteOf (Places.zero (Places.zero (Places.zero (places_nil _)))))⟩,
      fun st seq => ⟨.inr rfl, event_laidOut (Places.byteOf (Places.byteOf (places_leNat ..)))⟩,
      fun seq b => ⟨.inr rfl, event_laidOut (Places.leNat (Places.byteOf (places_nil _)))⟩,
      fun st miss changed => ⟨.inr rfl, event_laidOut (Places.byteOf (Places.byteOf (Places.flag (places_nil _))))⟩,
      fun n => ⟨.inr rfl, event_laidOut (Places.byteOf (places_nil _))⟩,
      fun k => ⟨.inr rfl, event_laidOut ?_⟩,
      fun id st => ⟨.inr rfl, event_laidOut (Places.byteOf (Places.byteOf (places_nil _)))⟩,
      fun id axis kind => ⟨.inr rfl, event_laidOut ?_⟩,
      fun id v => ⟨.inr rfl, event_laidOut (Places.byteOf (Places.zero (places_leNat ..)))⟩,
      fun st => ⟨.inr rfl, event_laidOut (Places.byteOf (places_nil _))⟩,
      fun seq x y => ⟨.inr rfl, event_laidOut (Places.leNat (Places.flag (Places.flag (places_nil _))))⟩,
      fun axis pan => ⟨.inr rfl, event_laidOut ?_⟩,
      fun slot n frames => ⟨.inr rfl, event_laidOut (Places.byteOf (Places.byteOf (places_leNat ..)))⟩,
      fun c e => ⟨.inr rfl, event_laidOut ?_⟩,
      fun addr len n => ⟨.inr rfl, event_laidOut (Places.leNat (Places.byteOf (Places.byteOf (places_nil _))))⟩,
      fun drift n expected => ⟨.inr rfl, event_laidOut ?_⟩,
      fun number st start stop stamped dropped => ⟨.inr rfl, event_laidOut (places_recordState ..)⟩,
      fun off number => ⟨.inr rfl, event_laidOut (Places.leNat (places_leNat ..))⟩,
      fun level g => ⟨.inr rfl, event_laidOut (Places.byteOf (Places.zero (Places.zero (Places.zero (places_leNat ..)))))⟩,
      fun off cause => ⟨.inr rfl, event_laidOut ?_⟩⟩
    · cases cause <;> exact Places.leNat (Places.byteOf (places_nil _))
    · cases lost <;> exact Places.byteOf (places_nil _)
    · cases k <;> exact Places.byteOf (places_nil _)
    · cases kind with
      | none => exact Places.byteOf (Places.byteOf (Places.byte rfl (places_nil _)))
      | some k => exact Places.byteOf (Places.byteOf (Places.byteOf (places_nil _)))
    · cases axis <;> exact Places.byteOf (Places.byteOf (places_nil _))
    · cases e <;> exact Places.byteOf (Places.byte rfl (places_nil _))
    · simp only [EventPayload.bytes, List.append_assoc]
      exact Places.leInt (Places.leNat (places_leNat ..))
    · cases cause <;> exact Places.leNat (Places.byteOf (places_nil _))

end Sys2Proof.Proofs
end

section
/-! SUPPORT. What occurrences add to the report unit, and a capture start's place among those of its mark (R25, R29, R31, R40,
R199). -/

namespace Sys2Proof.Machine

/-! ### Occurrences add to the event table and to the report queue (R199) -/

/-- A kind's entry after an occurrence (R199). -/
def EventEntry.occurred (e : EventEntry) : EventEntry := { e with pending := true, count := e.count + 1 }

/-- An occurrence marks its own kind, REPORTS_DROPPED too when its report is dropped, and only adds to the queue. -/
theorem raiseEvent_report (p : EventPayload) (s : State) : s.report.queue <+: (raiseEvent p s).report.queue
    ∧ ((raiseEvent p s).report.events = s.report.events.modify (p.kind.number - 1) EventEntry.occurred
      ∨ (raiseEvent p s).report.events =
        (s.report.events.modify (p.kind.number - 1) EventEntry.occurred).modify 2 EventEntry.occurred) := by
  have hm : (markPending p.kind s).report.events = s.report.events.modify (p.kind.number - 1) EventEntry.occurred := rfl
  unfold raiseEvent occur
  dsimp only
  generalize hu : markPending p.kind s = u at hm
  have hq : u.report.queue = s.report.queue := by rw [← hu]; rfl
  rcases offer_cases (.event p.kind (eventEntry u p.kind).count p false) u with ⟨-, h⟩ | ⟨-, h⟩ | ⟨k, _, _, _, -, -, h⟩ | h <;> rw [h]
  · exact ⟨by rw [← hq]; exact List.prefix_rfl, .inl hm⟩
  · rw [enqueueReport_report, hq]
    exact ⟨List.prefix_append .., .inl hm⟩
  · unfold dropEvent
    dsimp only
    split
    · exact ⟨by rw [← hq], .inl hm⟩
    · exact ⟨by rw [← hq]; exact List.prefix_rfl, .inr (by rw [← hm]; rfl)⟩
  · exact ⟨by rw [← hq], .inl hm⟩

/-- From `u` to `v` reports only join the queue, pending kinds stay pending, and FRAME_BEAT does not occur. -/
def ReportsGrow (u v : ReportUnit) : Prop :=
  u.queue <+: v.queue
    ∧ (∀ i, (u.events.getD i ⟨false, true, 0⟩).pending = true → (v.events.getD i ⟨false, true, 0⟩).pending = true)
    ∧ v.events[5]? = u.events[5]?

@[simp] theorem ReportsGrow.refl (u : ReportUnit) : ReportsGrow u u := ⟨List.prefix_rfl, fun _ => id, rfl⟩

theorem ReportsGrow.trans {u v w : ReportUnit} (h : ReportsGrow u v) (k : ReportsGrow v w) : ReportsGrow u w :=
  ⟨h.1.trans k.1, fun i => k.2.1 i ∘ h.2.1 i, k.2.2.trans h.2.2⟩

theorem pending_of_modify {l : List EventEntry} {i : Nat} (k : Nat) (h : (l.getD i ⟨false, true, 0⟩).pending = true) :
    ((l.modify k EventEntry.occurred).getD i ⟨false, true, 0⟩).pending = true := by
  simp only [List.getD_eq_getElem?_getD, List.getElem?_modify] at h ⊢
  cases hi : l[i]? with
  | none => simp [hi] at h
  | some e =>
    simp only [hi, Option.getD_some] at h
    by_cases hk : k = i <;> simp [hk, EventEntry.occurred, h]

section
variable {u : ReportUnit} {s : State}

/-- An occurrence of any kind but FRAME_BEAT. -/
theorem raiseEvent_grows {p : EventPayload} (hp : p.kind ≠ .frameBeat) (h : ReportsGrow u s.report) :
    ReportsGrow u (raiseEvent p s).report := by
  have hn : p.kind.number - 1 ≠ 5 := by
    generalize p.kind = k at hp
    cases k <;> simp_all [EventKind.number]
  obtain ⟨hq, he | he⟩ := raiseEvent_report p s <;> refine h.trans ⟨hq, fun i hi => ?_, ?_⟩ <;> rw [he]
  · exact pending_of_modify _ hi
  · simp [hn]
  · exact pending_of_modify _ (pending_of_modify _ hi)
  · simp [hn]

theorem raiseAll_grows {ps : List EventPayload} (hp : ∀ p ∈ ps, p.kind ≠ .frameBeat) (h : ReportsGrow u s.report) :
    ReportsGrow u (raiseAll ps s).report := by
  induction ps generalizing s with
  | nil => exact h
  | cons p ps ih =>
    exact ih (fun q hq => hp q (List.mem_cons_of_mem p hq)) (raiseEvent_grows (hp p List.mem_cons_self) h)

/-! ### What a mark's other blocks raise (R29, R56, R66, R75, R103, R146) -/

/-- An engine raises ENGINE_DONE and ENGINE_MARK alone. -/
def EngineEvents (r : EngineStep) : Prop := ∀ p ∈ r.events, p.kind = .engineDone ∨ p.kind = .engineMark

theorem EngineEvents.of_nil {r : EngineStep} (h : r.events = []) : EngineEvents r := by simp [EngineEvents, h]

theorem takeRun_events (id : EngineId) (range : Option (Nat × Nat)) (g : Engine) (queue : List Move) :
    EngineEvents (takeRun id range g queue) := by
  induction queue with
  | nil => simp [takeRun, EngineEvents, EventPayload.kind]
  | cons p rest ih => cases p <;> simp_all [takeRun, EngineEvents, EventPayload.kind]

theorem completeMove_events (id : EngineId) (range : Option (Nat × Nat)) (g : Engine) :
    EngineEvents (completeMove id range g) := by
  unfold completeMove
  split
  · exact takeRun_events _ _ _ _
  · simp [EngineEvents, EventPayload.kind]

theorem advanceEngine_events (id : EngineId) (range : Option (Nat × Nat)) (g : Engine) :
    EngineEvents (advanceEngine id range g) := by
  simp only [advanceEngine]
  repeat' split
  exacts [completeMove_events _ _ _, .of_nil rfl, completeMove_events _ _ _, .of_nil rfl, .of_nil rfl]

theorem testWait_events (id : EngineId) (range : Option (Nat × Nat)) (g : Engine) : EngineEvents (testWait id range g) := by
  simp only [testWait]
  repeat' split
  exacts [completeMove_events _ _ _, .of_nil rfl, .of_nil rfl]

theorem advanceAll_events (range : EngineId → Option (Nat × Nat)) (w : EngineId → Bool) (m : MoveEngines) :
    ∀ p ∈ (advanceAll range w m).2, p.kind ≠ .frameBeat := by
  have two : ∀ id, EngineEvents (if w id then { engine := m.get id, signalled := 0, events := [] }
      else advanceEngine id (range id) (m.get id)) := fun id => by
    split
    · exact .of_nil rfl
    · exact advanceEngine_events _ _ _
  have three : ∀ id, EngineEvents (if w id then testWait id (range id) (m.get id)
      else { engine := m.get id, signalled := 0, events := [] }) := fun id => by
    split
    · exact testWait_events _ _ _
    · exact .of_nil rfl
  intro p hp
  have hk : p.kind = .engineDone ∨ p.kind = .engineMark := by
    simp only [advanceAll, List.mem_append, or_assoc] at hp
    rcases hp with hp | hp | hp | hp | hp | hp
    exacts [two _ p hp, two _ p hp, two _ p hp, three _ p hp, three _ p hp, three _ p hp]
  rcases hk with hk | hk <;> rw [hk] <;> decide

theorem takeOver_grows {a : Axis} {new : Source} (h : ReportsGrow u s.report) : ReportsGrow u (takeOver a new s).report := by
  simp only [takeOver]
  split
  · exact raiseEvent_grows (by simp [EventPayload.kind]) h
  · exact h

theorem demandOperation_grows (h : ReportsGrow u s.report) : ReportsGrow u (demandOperation s).report := by
  have hz : ReportsGrow u (zoomTakeover s).report := by
    unfold zoomTakeover
    split
    · exact takeOver_grows h
    · exact h
  have hf : ∀ {s : State}, ReportsGrow u s.report → ReportsGrow u (focusTakeover s).report := fun {s} h => by
    simp only [focusTakeover]
    repeat' split
    exacts [takeOver_grows h, h, takeOver_grows h, h]
  have he : ∀ {s : State} {w : EngineId → Bool}, ReportsGrow u s.report → ReportsGrow u (engineStages w s).report :=
    fun h => raiseAll_grows (advanceAll_events _ _ _) h
  exact he (hf hz)

theorem settleCycle_grows (h : ReportsGrow u s.report) : ReportsGrow u (settleCycle s).report := by
  have hr : ∀ {c : Bool} {s : State}, ReportsGrow u s.report → ReportsGrow u (raiseLensState c s).report :=
    fun h => raiseEvent_grows (by simp [EventPayload.kind]) h
  have hm : ∀ {s : State}, ReportsGrow u s.report → ReportsGrow u (missCycle s).report := fun {s} h => by
    simp only [missCycle]
    repeat' split
    exacts [hr h, hr h, h, h]
  simp only [settleCycle]
  repeat' split
  exacts [h, hm h, hm h, hm h, h, h]

theorem markDemands_grows {m : Option (Nat × Nat)} (h : ReportsGrow u s.report) :
    ReportsGrow u (markDemands m s).1.report := by
  have := demandOperation_grows (settleCycle_grows h)
  simpa [markDemands] using this

theorem latchLimited_grows {q : Half} {c : Correction} (h : ReportsGrow u s.report) :
    ReportsGrow u (latchLimited q c s).report := by
  simp only [latchLimited]
  split
  · exact raiseEvent_grows (by simp [EventPayload.kind]) h
  · exact h

theorem audioMark_grows (h : ReportsGrow u s.report) : ReportsGrow u (audioMark s).report := by
  have hc : ∀ {s : State}, ReportsGrow u s.report → ReportsGrow u (settleCadence s).report := fun {s} h => by
    simp only [settleCadence]
    split
    · split <;> exact h
    · split
      · exact raiseEvent_grows (by simp [EventPayload.kind]) h
      · exact h
  exact hc h

theorem markRest_grows {b : State} {r : Option CaptureRecord} {c : Correction} (h : ReportsGrow u s.report) :
    ReportsGrow u (markRest b r c s).report := by
  have ho : (openCycle c s).report = s.report := by simp
  have := audioMark_grows (s := openCycle c s) (by rwa [ho])
  simpa [markRest] using this

end

end Sys2Proof.Machine
end

section
/-! SUPPORT. A sensor write: the capture start with its record and its first events, and the completion (R24 to R26, R29 to
R31, R40). -/

namespace Sys2Proof.Machine

/-! ### The events of a capture start -/

/-- A pending kind stays pending at any occurrence. -/
theorem raiseEvent_pending (p : EventPayload) {s : State} {i : Nat} (h : (s.report.events.getD i ⟨false, true, 0⟩).pending = true) :
    ((raiseEvent p s).report.events.getD i ⟨false, true, 0⟩).pending = true := by
  obtain ⟨-, he | he⟩ := raiseEvent_report p s <;> rw [he]
  · exact pending_of_modify _ h
  · exact pending_of_modify _ (pending_of_modify _ h)

/-- A kind other than REPORTS_DROPPED has its entry marked once by an occurrence. -/
theorem raiseEvent_entry {p : EventPayload} (hp : p.kind ≠ .reportsDropped) {s : State} {e : EventEntry}
    (he : s.report.events[p.kind.number - 1]? = some e) :
    (raiseEvent p s).report.events[p.kind.number - 1]? = some e.occurred := by
  have hn : 2 ≠ p.kind.number - 1 := by
    generalize p.kind = k at hp
    cases k <;> simp_all [EventKind.number]
  obtain ⟨-, h | h⟩ := raiseEvent_report p s <;> rw [h]
  · simp [he]
  · simp [he, hn]

/-- With a REPORT window and a place, an occurrence's report joins the queue at its end. -/
theorem raiseEvent_joins (p : EventPayload) {s : State} {e : EventEntry} (hw : (s.window .report).isSome = true)
    (hl : s.report.queue.length < 16) (he : s.report.events[p.kind.number - 1]? = some e) :
    (raiseEvent p s).report.queue = s.report.queue ++ [.event p.kind (e.count + 1) p false] := by
  have hcount : (eventEntry (markPending p.kind s) p.kind).count = e.count + 1 := by
    simp [eventEntry, markPending, evaluateAttn, he]
  have hoffer : raiseEvent p s = enqueueReport (.event p.kind (e.count + 1) p false) (markPending p.kind s) := by
    rw [← hcount]
    exact (offer_event (s := markPending p.kind s) hw).trans (if_pos hl)
  rw [hoffer, enqueueReport_report]
  rfl

/-- The first FILLING record of the history is abandoned with its event (R25). -/
theorem abandonCapture_filling {s : State} {before behind : List CaptureRecord} {x : CaptureRecord}
    (hh : s.frame.history = before ++ x :: behind) (hb : ∀ y ∈ before, y.state ≠ .filling) (hx : x.state = .filling) :
    abandonCapture s = raiseEvent (.captureAbandoned x.seq x.buffer)
      { s with frame := { s.frame with history := s.frame.history.map CaptureRecord.abandon } } := by
  have hf : s.frame.history.find? (fun r => r.state == .filling) = some x := by
    rw [hh, List.find?_append, List.find?_eq_none.2 (by simpa using hb)]
    simp [hx]
  simp only [abandonCapture, hf]
  rfl

theorem abandonCapture_noFilling {s : State} (h : ∀ x ∈ s.frame.history, x.state ≠ .filling) : abandonCapture s = s := by
  have hf : s.frame.history.find? (fun r => r.state == .filling) = none := List.find?_eq_none.2 (by simpa using h)
  simp only [abandonCapture, hf]

theorem abandonCapture_grows (s : State) : ReportsGrow s.report (abandonCapture s).report := by
  unfold abandonCapture
  split
  · exact raiseEvent_grows (by simp [EventPayload.kind]) (.refl _)
  · exact .refl _

/-- The tracker LOCKED on, the expiry one lock deadline on (R30). -/
def lockedOn (s : State) : State :=
  { s with frame := { s.frame with tracker := .locked, lastMark := s.now, expiry := s.now + 8 * (3 * s.frame.rate.period / 2) } }

/-- FRAME_BEAT is raised at a change alone (R31). -/
theorem captureBeat_eq (s : State) : captureBeat s = match s.frame.tracker with
    | .locked => lockedOn s
    | .freeWheel => raiseEvent (.frameBeat .locked (some s.frame.nextSeq)) (lockedOn s) := by
  unfold captureBeat
  cases s.frame.tracker <;> rfl

theorem captureBeat_tracked (s : State) : (captureBeat s).frame = (lockedOn s).frame := by
  rw [captureBeat_eq]
  cases s.frame.tracker <;> simp

/-- The mark number grows by one (R179). -/
theorem metadataMark_mark (d : MarkData) (s : State) : (metadataMark d s).metadata.mark = s.metadata.mark + 1 := by
  simp only [metadataMark, queueMetadata]
  repeat' split
  all_goals rfl

/-- The last part of a mark advances the counter and the mark number (R29, R179). -/
theorem markRest_tracked (b : State) (r : Option CaptureRecord) (c : Correction) (s : State) :
    (markRest b r c s).frame = (advanceTimecode s).frame ∧ (markRest b r c s).metadata.mark = s.metadata.mark + 1 := by
  simp [markRest, metadataMark_mark, advanceTimecode]

/-! ### The capture start -/

/-- What a capture start leaves in the frame tracker, with the correction it computed (R25, R29, R30). -/
theorem captureStart_frame_eq (g : Geometry) (k : Nat) (s : State) :
    let c := (markDemands (some (g.marginX, g.marginY)) (captureBeat (abandonCapture s))).2
    let old := s.frame.history.map CaptureRecord.abandon
    (captureStart g k s).frame = { s.frame with
      history := (if 16 ≤ old.length then old.drop 1 else old) ++ [newCapture s k c]
      nextSeq := s.frame.nextSeq + 1, tracker := .locked, lastMark := s.now
      expiry := s.now + 8 * (3 * s.frame.rate.period / 2)
      timecode := s.frame.timecode.advance s.frame.rate s.frame.dropFrame } := by
  intro c old
  have hbeat : (markDemands (some (g.marginX, g.marginY)) (captureBeat (abandonCapture s))).1.frame =
      { (lockedOn s).frame with history := old } := by
    simp [captureBeat_tracked, lockedOn, (abandonCapture_history s).2, old]
  unfold captureStart
  simp only [(markRest_tracked ..).1, advanceTimecode, latchLimited_frame, appendCapture, hbeat]
  rfl

theorem captureStart_mark (g : Geometry) (k : Nat) (s : State) :
    (captureStart g k s).metadata.mark = s.metadata.mark + 1 := by
  simp only [captureStart, (markRest_tracked ..).2, latchLimited_frame, appendCapture_frame, markDemands_frame,
    captureBeat_frame, abandonCapture_frame]

/-- After its first two events a capture start's mark only adds to the reports. -/
theorem captureStart_grows (g : Geometry) (k : Nat) (s : State) :
    ReportsGrow (captureBeat (abandonCapture s)).report (captureStart g k s).report := by
  simp only [captureStart]
  refine markRest_grows (latchLimited_grows ?_)
  simp only [appendCapture_frame]
  exact markDemands_grows (.refl _)

theorem getElem?_of_length {l : List EventEntry} {n i : Nat} (hl : l.length = n) (hi : i < n) :
    l[i]? = some (l.getD i ⟨false, true, 0⟩) := by
  subst hl
  simp [List.getElem?_eq_getElem hi]

/-- A FILLING record's abandonment leaves CAPTURE_ABANDONED pending (R25). -/
theorem captureStart_abandons {g : Geometry} {k : Nat} {s : State} (hl : s.report.events.length = 25)
    (h : ∃ x ∈ s.frame.history, x.state = .filling) :
    ((captureStart g k s).report.events.getD 6 ⟨false, true, 0⟩).pending = true := by
  have ha : ((abandonCapture s).report.events.getD 6 ⟨false, true, 0⟩).pending = true := by
    unfold abandonCapture
    split
    · rename_i r hr
      have := raiseEvent_entry (p := .captureAbandoned r.seq r.buffer) (by simp [EventPayload.kind])
        (s := { s with frame := { s.frame with
          history := s.frame.history.map fun r => if r.state = .filling then { r with state := .abandoned } else r } })
        (getElem?_of_length hl (show 6 < 25 by decide))
      rw [List.getD_eq_getElem?_getD, show (6 : Nat) = (EventPayload.captureAbandoned r.seq r.buffer).kind.number - 1 from rfl, this]
      rfl
    · rename_i hn
      obtain ⟨x, hx, hf⟩ := h
      exact absurd hf (by simpa using List.find?_eq_none.1 hn x hx)
  refine (captureStart_grows g k s).2.1 6 ?_
  rw [captureBeat_eq]
  cases (abandonCapture s).frame.tracker
  · exact ha
  · exact raiseEvent_pending _ (s := lockedOn (abandonCapture s)) ha

/-- In LOCKED a capture start raises no FRAME_BEAT (R31). -/
theorem captureStart_locked {g : Geometry} {k : Nat} {s : State} (h : s.frame.tracker = .locked) :
    (captureStart g k s).report.events[5]? = s.report.events[5]? := by
  have ht : (abandonCapture s).frame.tracker = .locked := by rw [(abandonCapture_history s).2]; exact h
  have hb : (captureBeat (abandonCapture s)).report = (abandonCapture s).report := by rw [captureBeat_eq, ht]; rfl
  rw [(captureStart_grows g k s).2.2, hb]
  exact (abandonCapture_grows s).2.2

/-- In FREE-WHEEL it raises FRAME_BEAT (R31). -/
theorem captureBeat_freeWheel {s : State} (h : s.frame.tracker = .freeWheel) : captureBeat (abandonCapture s) =
    raiseEvent (.frameBeat .locked (some s.frame.nextSeq)) (lockedOn (abandonCapture s)) := by
  have hf := (abandonCapture_history s).2
  rw [captureBeat_eq, hf]
  simp only [h]

theorem captureStart_freeWheel {g : Geometry} {k : Nat} {s : State} (h : s.frame.tracker = .freeWheel)
    (hl : s.report.events.length = 25) :
    (captureStart g k s).report.events[5]? = some (s.report.events.getD 5 ⟨false, true, 0⟩).occurred := by
  rw [(captureStart_grows g k s).2.2, captureBeat_freeWheel h]
  exact raiseEvent_entry (p := .frameBeat .locked (some s.frame.nextSeq)) (by simp [EventPayload.kind])
    ((abandonCapture_grows s).2.2.trans (getElem?_of_length hl (by decide)))

/-- With a REPORT window and a place FRAME_BEAT's report follows that of the abandonment, ahead of the mark's others. -/
theorem captureStart_beatQueued {g : Geometry} {k : Nat} {s : State} (h : s.frame.tracker = .freeWheel)
    (hl : s.report.events.length = 25) (hw : (s.window .report).isSome = true)
    (hq : (abandonCapture s).report.queue.length < 16) : ∃ more, (captureStart g k s).report.queue =
      (abandonCapture s).report.queue ++ .event .frameBeat ((s.report.events.getD 5 ⟨false, true, 0⟩).count + 1)
        (.frameBeat .locked (some s.frame.nextSeq)) false :: more := by
  have hwin : (lockedOn (abandonCapture s)).window .report = s.window .report := by
    simp [State.window, lockedOn]
  have hjoin := raiseEvent_joins (.frameBeat .locked (some s.frame.nextSeq)) (s := lockedOn (abandonCapture s))
    (by rwa [hwin]) hq ((abandonCapture_grows s).2.2.trans (getElem?_of_length hl (by decide)))
  obtain ⟨more, hmore⟩ := (captureStart_grows g k s).1
  refine ⟨more, ?_⟩
  rw [← hmore, captureBeat_freeWheel h, hjoin, List.append_assoc]
  rfl

/-- A sensor write is forwarded as written (R9). -/
theorem exec_sensor_write {b : WriteBurst} {s : State} {w : WindowRecord} (hwf : b.wellFormed = true)
    (hq : s.path.waiting = []) (hl : s.path.passQueue.length < 16)
    (hc : classify s b.addr.toNat b.beats.length b.tag = .belongs { window := w, setIndex := 0 }) (hr : w.role = .frame) :
    exec (.upstreamWriteAccepted b) s = .next (forwardWrite b b.beats (sensorWrite w b.addr.toNat b.beats.length s)) := by
  rw [exec_write_accepted hwf hq hl, acceptWrite, hc]
  simp only [ownerWrite, hr]

end Sys2Proof.Machine

namespace Sys2Proof.Proofs

open Sys2Proof Sys2Proof.Machine

/-- Settles O24: the frame tracker after a capture start, its first events, and the completion. -/
theorem captureStartRecorded : Obligations.CaptureStartRecorded := by
  intro b s w g hwf hq hl hc hr hp h4 addr old last
  refine ⟨fun k hk => ?_, fun hn => ?_⟩
  · have hexec : exec (.upstreamWriteAccepted b) s = .next (forwardWrite b b.beats (captureStart g k s)) := by
      rw [exec_sensor_write hwf hq hl hc hr, sensorWrite, hp]
      simp only [addr] at hk
      simp only [hk]
    have hframe := captureStart_frame_eq g k s
    refine ⟨_, _, rfl, hexec, by rw [hframe]; rfl, rfl, rfl, rfl, rfl, rfl, rfl, rfl, rfl,
      newCapture_fits.2 (markDemands_fits (Nat.mod_eq_zero_of_dvd h4) _), by rw [hframe], by rw [hframe], by rw [hframe],
      by rw [hframe], by rw [hframe], captureStart_mark g k s, by simp, by simp,
      captureStart_abandons, captureStart_locked, fun hf h25 => ⟨captureStart_freeWheel hf h25, fun hw => ⟨fun hnf hlen => ?_,
        fun before x behind hh hb hx hlen => ?_⟩, ?_⟩⟩
    · have ha := abandonCapture_noFilling hnf
      have hqueue := captureStart_beatQueued (g := g) (k := k) hf h25 hw (by rwa [ha])
      rwa [ha] at hqueue
    · have ha : (abandonCapture s).report.queue = s.report.queue ++ [.event .captureAbandoned
          ((s.report.events.getD 6 ⟨false, true, 0⟩).count + 1) (.captureAbandoned x.seq x.buffer) false] := by
        rw [abandonCapture_filling hh hb hx]
        exact raiseEvent_joins _ (s := { s with frame := { s.frame with history := s.frame.history.map CaptureRecord.abandon } })
          hw (Nat.lt_succ_of_lt hlen) (getElem?_of_length h25 (show 6 < 25 by decide))
      obtain ⟨more, hmore⟩ := captureStart_beatQueued (g := g) (k := k) hf h25 hw (by
        rw [ha, List.length_append]
        exact Nat.succ_lt_succ hlen)
      exact ⟨more, by rw [hmore, ha, List.append_assoc]; rfl⟩
    · have hlaid := event_laidOut (lap := false) (lost := false) (software := false) (k := .frameBeat)
        (count := (s.report.events.getD 5 ⟨false, true, 0⟩).count + 1) (p := .frameBeat .locked (some s.frame.nextSeq))
        (Places.byteOf (Places.byteOf (places_leNat ..)))
      exact hlaid
  · rw [exec_sensor_write hwf hq hl hc hr, sensorWrite, hp]
    simp only [addr] at hn
    simp only [hn, captureCompletes, coversBeat, Bool.and_eq_true, decide_eq_true_iff, and_assoc]
    rfl

end Sys2Proof.Proofs
end

section
/-! SUPPORT. A read's data on its way upstream, through the owner of its window (R8, R12, R108 to R111, R122, R169, R170,
R195). -/

namespace Sys2Proof.Machine

/-! ### One return (R8, R12) -/

/-- With these beats in place of those returned and this state, a return ends in the read's answer when it is the last, and
otherwise adds to the beats that wait at the port. -/
def ReturnPasses (s : State) (p : PassBurst) (len : Nat) (beats : List BeatData) (t : State) (out : List BeatData) : Prop :=
  (s.path.beatsBack.length + beats.length = len → exec (.readReturn (some beats)) s =
      .next (finishResponse p.id (.data (s.path.beatsBack ++ out)) (answered t)))
    ∧ (¬ s.path.beatsBack.length + beats.length = len → exec (.readReturn (some beats)) s =
      .next { t with path := { t.path with beatsBack := s.path.beatsBack ++ out } })

section
variable {s t u : State} {p : PassBurst} {len : Nat} {cls : ReadClass} {beats out : List BeatData}

/-- The owner's beats go upstream, and what the owner observes at the last return stands in the state after it. -/
theorem returnPasses_of_owner (hp : s.path.atMemory = some (.pass p)) (hb : p.body = .read len (some cls))
    (h1 : 1 ≤ beats.length) (hl : s.path.beatsBack.length + beats.length ≤ len)
    (hs : substituteBeats (some cls) p.issued len s.path.beatsBack.length beats s = (u, out)) (ho : out.length = beats.length)
    (hu : s.path.beatsBack.length + beats.length = len → observeRead (some cls) p.issued len u = t)
    (hn : ¬ s.path.beatsBack.length + beats.length = len → u = t) : ReturnPasses s p len beats t out := by
  have hlen : (s.path.beatsBack ++ out).length = s.path.beatsBack.length + beats.length := by rw [List.length_append, ho]
  refine ⟨fun hw => ?_, fun hw => ?_⟩ <;> rw [exec_beats_return hp hb h1 hl] <;> simp only [beatsReturn, hs, hlen]
  · rw [if_neg (by omega), hu hw]
  · rw [if_pos (by omega), hn hw]

/-- Only viewfinder reads have other beats put in place of those returned. -/
theorem substituteBeats_of_other {addr len back : Nat} (h : cls.window.role ≠ .frame ∨ cls.setIndex ≠ 2) :
    substituteBeats (some cls) addr len back beats s = (s, beats) := by
  unfold substituteBeats
  dsimp only
  split
  · simp_all
  · rfl

/-- Only report reads and card reads are observed. -/
theorem observeRead_of_other {addr len : Nat} (h : cls.window.role ≠ .report)
    (hr : cls.window.role ≠ .record ∨ cls.setIndex ≠ 1) : observeRead (some cls) addr len s = s := by
  unfold observeRead
  dsimp only
  split <;> simp_all

theorem observeRead_report {addr len : Nat} (h : cls.window.role = .report) :
    observeRead (some cls) addr len s = freeSlots addr len s := by
  simp only [observeRead, h]

theorem observeRead_card {addr len : Nat} (h : cls.window.role = .record) (hi : cls.setIndex = 1) :
    observeRead (some cls) addr len s = cardRead addr len s := by
  simp only [observeRead, h, hi]

/-! ### The card's reads (R169, R170, R172) -/

theorem evaluateLevel_ring (s : State) : (evaluateLevel s).record.clips = s.record.clips
    ∧ (evaluateLevel s).record.drain = s.record.drain := by
  simp only [evaluateLevel]
  repeat' split
  all_goals simp

/-- D and G after the drain advances, the level evaluated. -/
def drainMoved (size d k : Nat) (s : State) : State :=
  evaluateLevel { s with record := { s.record with drain := some ((d + k) % size), guarded := s.record.guarded - k } }

theorem drained_drainMoved {size d k : Nat} : drained (drainMoved size d k s) = true ↔
    ∃ c rest, s.record.clips = c :: rest ∧ c.state = .closed ∧ c.stop = some ((d + k) % size) := by
  rw [drained_iff, drainMoved, (evaluateLevel_ring _).1, (evaluateLevel_ring _).2]
  constructor
  · rintro ⟨c, rest, e, hc, hs, hstop, he⟩
    exact ⟨c, rest, hc, hs, by rw [hstop, ← he]⟩
  · rintro ⟨c, rest, hc, hs, hstop⟩
    exact ⟨c, rest, _, hc, hs, hstop, rfl⟩

theorem cardRead_none {addr len : Nat} (h : s.window .record = none ∨ s.record.drain = none) : cardRead addr len s = s := by
  unfold cardRead
  split
  · simp_all
  · rfl

theorem cardRead_elsewhere {addr len d : Nat} {w : WindowRecord} (hw : s.window .record = some w)
    (hd : s.record.drain = some d) (ha : addr ≠ w.base + d) : cardRead addr len s = s := by
  simp only [cardRead, hw, hd, if_neg ha]

/-- A read at D advances it, and a clip whose end is reached is drained. -/
theorem cardRead_at {addr len d : Nat} {w : WindowRecord} (hw : s.window .record = some w) (hd : s.record.drain = some d)
    (ha : addr = w.base + d) : cardRead addr len s =
      let t := drainMoved w.size d (drainAmount w.size (8 * len) d s) s
      if drained t then evaluateLevel (removeOldest .drained t) else t := by
  simp only [cardRead, hw, hd, if_pos ha]
  rfl

/-- With no CLOSED oldest clip the drain advances by the read's length or by G. -/
theorem drainAmount_open {size len d : Nat} (h : ∀ c rest, s.record.clips = c :: rest → c.state ≠ .closed) :
    drainAmount size len d s = min len s.record.guarded := by
  unfold drainAmount
  dsimp only
  split
  · rename_i c rest hcl
    have := h c rest hcl
    split
    · contradiction
    · omega
  · omega

theorem drainAmount_closed {size len d e : Nat} {c : Clip} {rest : List Clip} (hc : s.record.clips = c :: rest)
    (hs : c.state = .closed) (he : c.stop = some e) :
    drainAmount size len d s = min (min len s.record.guarded) (ringForward size d e) := by
  simp only [drainAmount, hc, hs, he]

theorem cardRead_at_open {addr len d : Nat} {w : WindowRecord} (hw : s.window .record = some w) (hd : s.record.drain = some d)
    (ha : addr = w.base + d) (h : ∀ c rest, s.record.clips = c :: rest → c.state ≠ .closed) :
    cardRead addr len s = drainMoved w.size d (min (8 * len) s.record.guarded) s := by
  rw [cardRead_at hw hd ha, drainAmount_open h]
  refine if_neg (mt drained_drainMoved.1 ?_)
  rintro ⟨c, rest, hc, hs, -⟩
  exact h c rest hc hs

theorem cardRead_at_closed {addr len d e : Nat} {w : WindowRecord} {c : Clip} {rest : List Clip}
    (hw : s.window .record = some w) (hd : s.record.drain = some d) (ha : addr = w.base + d) (hc : s.record.clips = c :: rest)
    (hs : c.state = .closed) (he : c.stop = some e) :
    let k := min (min (8 * len) s.record.guarded) ((e + w.size - d) % w.size)
    cardRead addr len s = if (d + k) % w.size = e then evaluateLevel (removeOldest .drained (drainMoved w.size d k s))
      else drainMoved w.size d k s := by
  intro k
  have hdrained : drained (drainMoved w.size d k s) = true ↔ (d + k) % w.size = e := by
    rw [drained_drainMoved]
    constructor
    · rintro ⟨c', rest', hc', -, hstop⟩
      rw [hc] at hc'
      cases hc'
      rw [he] at hstop
      exact (Option.some.inj hstop).symm
    · rintro h
      exact ⟨c, rest, hc, hs, by rw [he, h]⟩
  rw [cardRead_at hw hd ha, drainAmount_closed hc hs he]
  exact if_congr hdrained rfl rfl

/-! ### The viewfinder's reads (R108 to R111, R116, R122) -/

theorem drawBeats_length (snap : Snapshot) (list : List Element) (g : Geometry) (o : Nat) (beats : List BeatData) :
    (drawBeats snap list g o beats).length = beats.length := by
  induction beats generalizing o with
  | nil => rfl
  | cons d ds ih => rw [drawBeats, List.length_cons, List.length_cons, ih]

/-- The live snapshot as R111 and R116 spell it, with a frame count. -/
def liveSnapshot (count : Half) (s : State) : Snapshot :=
  let clips := s.record.clips
  let i := s.lens.identity
  { count := count, palette := s.overlay.palette, zebra := s.overlay.zebra
    conditions := {
      recording := clips.any fun c => c.state == .opened
      standby := clips.all fun c => c.state != .opened && c.state != .armed
      overrun := decide (0 < s.overlay.overrunHold)
      lensLost := s.lens.link == .seeking || s.lens.link == .absent
      stabLimit := s.stab.limited, audioOver := decide (0 < s.overlay.clipHold), avDrift := s.audio.driftFlag }
    timecode := if s.frame.mode = .recRun then s.record.timecode else s.frame.timecode
    dropFrame := s.frame.dropFrame, focal := s.lens.focal
    lens := s.lens.position.map fun q => ⟨q.fNumber, q.zoom, q.focus⟩
    zoomMin := (i.map fun v => v.zoomMin).getD 0, zoomMax := (i.map fun v => v.zoomMax).getD 65535
    focusMin := (i.map fun v => v.focusMin).getD 0, focusMax := (i.map fun v => v.focusMax).getD 65535
    clip := clips.getLast?.map fun c => c.number
    meters := s.audio.outputs.map fun o => ⟨o.displayed, o.held⟩
    ring := s.ring.map fun v => (s.record.guarded, v.1) }

theorem takeSnapshot_eq (s : State) : takeSnapshot s = liveSnapshot s.overlay.frameCount s := by
  have hstandby : (!(s.record.clips.any fun c => c.state == .opened || c.state == .armed)) =
      s.record.clips.all fun c => c.state != .opened && c.state != .armed := by
    rw [List.not_any_eq_all_not]
    simp [bne]
  have hlost : (!s.lens.link.up) = (s.lens.link == .seeking || s.lens.link == .absent) := by cases s.lens.link <;> rfl
  have htc : timecodeShown s = if s.frame.mode = .recRun then s.record.timecode else s.frame.timecode := by
    unfold timecodeShown
    cases s.frame.mode <;> rfl
  simp only [takeSnapshot, conditionsNow, liveSnapshot, hstandby, hlost, htc]

/-- A frame start without a PENDING slot: the count and the snapshot (R110, R111). -/
theorem frameStart_of_none (h : s.overlay.has .pending = false) : frameStart s = { s with overlay := { s.overlay with
    frameCount := s.overlay.frameCount + 1, snapshot := liveSnapshot (s.overlay.frameCount + 1) s } } := by
  have hs : swapOverlay { s with overlay := { s.overlay with frameCount := s.overlay.frameCount + 1 } } =
      { s with overlay := { s.overlay with frameCount := s.overlay.frameCount + 1 } } := if_neg (Bool.eq_false_iff.1 h)
  simp only [frameStart, hs, takeSnapshot_eq]
  rfl

/-- A frame start with a PENDING slot swaps the slots, with OVERLAY_SWAPPED (R122). -/
theorem frameStart_of_pending (h : s.overlay.has .pending = true) : frameStart s =
    let o := s.overlay.mapSlots swapSlot
    raiseEvent (.overlaySwapped o.shownNumber (o.listIn .shown).length (o.frameCount + 1)) { s with overlay := { o with
      frameCount := o.frameCount + 1, snapshot := liveSnapshot (o.frameCount + 1) s } } := by
  have hs : swapOverlay { s with overlay := { s.overlay with frameCount := s.overlay.frameCount + 1 } } = _ := if_pos h
  simp only [frameStart, hs, takeSnapshot_eq]
  rw [raiseEvent_eq, raiseEvent_eq]
  rfl

theorem swapSlot_eq (x : OverlaySlot) : swapSlot x = if x.state = .pending then { x with state := .shown }
    else if x.state = .shown then { x with state := .free } else x := by
  unfold swapSlot
  split <;> simp_all

/-- Of a list's elements the first that a test accepts gives its place. -/
theorem findIdx_append_cons {α : Type} {f : α → Bool} {before behind : List α} {x : α} (hb : ∀ y ∈ before, f y = false)
    (hx : f x = true) : (before ++ x :: behind).findIdx f = before.length
      ∧ (before ++ x :: behind).find? f = some x := by
  induction before with
  | nil => simp [List.findIdx_cons, hx]
  | cons y before ih =>
    have hy := hb y List.mem_cons_self
    obtain ⟨hi, hf⟩ := ih fun z hz => hb z (List.mem_cons_of_mem y hz)
    simp [List.findIdx_cons, hy, hi, hf]

/-- After the swap the slot that was PENDING, and no other, is SHOWN (R122). -/
theorem shown_of_swap {o : Overlay} {before behind : List OverlaySlot} {x : OverlaySlot}
    (ho : [o.s0, o.s1, o.s2] = before ++ x :: behind) (hx : x.state = .pending) (hb : ∀ y ∈ before, y.state ≠ .pending) :
    (o.mapSlots swapSlot).shownNumber = before.length ∧ (o.mapSlots swapSlot).listIn .shown = x.list := by
  have hslots : (o.mapSlots swapSlot).slots = before.map swapSlot ++ swapSlot x :: behind.map swapSlot := by
    have : (o.mapSlots swapSlot).slots = [o.s0, o.s1, o.s2].map swapSlot := rfl
    rw [this, ho, List.map_append, List.map_cons]
  have hshown : swapSlot x = { x with state := .shown } := by rw [swapSlot_eq, if_pos hx]
  have hbefore : ∀ y ∈ before.map swapSlot, (y.state == .shown) = false := fun y hy => by
    obtain ⟨z, hz, rfl⟩ := List.mem_map.1 hy
    rw [swapSlot_eq, if_neg (hb z hz)]
    by_cases hs : z.state = .shown <;> simp [hs]
  obtain ⟨hi, hf⟩ := findIdx_append_cons (f := fun y : OverlaySlot => y.state == .shown) (behind := behind.map swapSlot)
    hbefore (x := swapSlot x) (by rw [hshown]; rfl)
  refine ⟨by rw [Overlay.shownNumber, hslots, hi, List.length_map], ?_⟩
  rw [Overlay.listIn, hslots, hf, hshown]

theorem has_pending_eq_false {o : Overlay} (h : ∀ x ∈ [o.s0, o.s1, o.s2], x.state ≠ .pending) : o.has .pending = false := by
  rw [Overlay.has, List.any_eq_false]
  simpa [Overlay.slots] using h

theorem has_pending_eq_true {o : Overlay} {x : OverlaySlot} (h : x ∈ [o.s0, o.s1, o.s2]) (hx : x.state = .pending) :
    o.has .pending = true := by
  rw [Overlay.has, List.any_eq_true]
  exact ⟨x, h, by rw [hx]; rfl⟩

/-- A frame start with a PENDING slot shows it, with OVERLAY_SWAPPED (R122). -/
theorem frameStart_of_swap {before behind : List OverlaySlot} {x : OverlaySlot}
    (hslots : [s.overlay.s0, s.overlay.s1, s.overlay.s2] = before ++ x :: behind) (hx : x.state = .pending)
    (hb : ∀ y ∈ before, y.state ≠ .pending) : frameStart s =
      raiseEvent (.overlaySwapped before.length x.list.length (s.overlay.frameCount + 1)) { s with overlay := { s.overlay with
        s0 := swapSlot s.overlay.s0, s1 := swapSlot s.overlay.s1, s2 := swapSlot s.overlay.s2
        frameCount := s.overlay.frameCount + 1, snapshot := liveSnapshot (s.overlay.frameCount + 1) s } }
    ∧ (frameStart s).overlay.listIn .shown = x.list := by
  obtain ⟨hnumber, hlist⟩ := shown_of_swap hslots hx hb
  have hmem : x ∈ [s.overlay.s0, s.overlay.s1, s.overlay.s2] := by rw [hslots]; simp
  have hstart := frameStart_of_pending (has_pending_eq_true hmem hx)
  dsimp only at hstart
  rw [hnumber, hlist] at hstart
  refine ⟨hstart, ?_⟩
  rw [hstart, raiseEvent_eq]
  exact hlist

/-- An overlaid read's beats are drawn, after the frame start that its origin beat makes before its first beats (R108, R110). -/
theorem substituteBeats_overlay {addr len back bf : Nat} {g : Geometry} (hr : cls.window.role = .frame) (hi : cls.setIndex = 2)
    (hg : cls.window.params = .frame g) (ho : g.outputBuffer cls.window.base addr len = some bf) (started : Bool)
    (hs : started = (back = 0 && (List.range len).any fun i => addr + 8 * i == originBeat g cls.window.base bf)) :
    substituteBeats (some cls) addr len back beats s =
      let t := if started then frameStart s else s
      (t, drawBeats t.overlay.snapshot (t.overlay.listIn .shown) g
        (addr + 8 * back - (cls.window.base + bf * g.stride)) beats) := by
  simp only [substituteBeats, hr, hi, overlayRead, hg, ho, hs]

theorem substituteBeats_plain {addr len back : Nat} {g : Geometry} (hr : cls.window.role = .frame) (hi : cls.setIndex = 2)
    (hg : cls.window.params = .frame g) (ho : g.outputBuffer cls.window.base addr len = none) :
    substituteBeats (some cls) addr len back beats s = (s, beats) := by
  simp only [substituteBeats, hr, hi, overlayRead, hg, ho]

end

end Sys2Proof.Machine

namespace Sys2Proof.Proofs

open Sys2Proof Sys2Proof.Machine

/-- Settles O60: the owner of each role, at a return that is the last and at one that is not. -/
theorem readDataReachesOwner : Obligations.ReadDataReachesOwner := by
  intro s p len cls beats hp hb h1 hl
  have owner : ∀ {u t : State} {out : List BeatData},
      substituteBeats (some cls) p.issued len s.path.beatsBack.length beats s = (u, out) → out.length = beats.length →
      (s.path.beatsBack.length + beats.length = len → observeRead (some cls) p.issued len u = t) →
      (¬ s.path.beatsBack.length + beats.length = len → u = t) → ReturnPasses s p len beats t out :=
    returnPasses_of_owner hp hb h1 hl
  have plain : ∀ {t : State}, (cls.window.role ≠ .frame ∨ cls.setIndex ≠ 2) →
      s.path.beatsBack.length + beats.length = len → observeRead (some cls) p.issued len s = t →
      ReturnPasses s p len beats t beats := fun ho hw hs =>
    owner (substituteBeats_of_other ho) rfl (fun _ => hs) fun hn => absurd hw hn
  have overlay : ∀ {u : State} {snap list g o}, cls.window.role = .frame →
      substituteBeats (some cls) p.issued len s.path.beatsBack.length beats s = (u, drawBeats snap list g o beats) →
      ReturnPasses s p len beats u (drawBeats snap list g o beats) := fun hr hs =>
    owner hs (drawBeats_length ..) (fun _ => observeRead_of_other (by rw [hr]; decide) (.inl (by rw [hr]; decide))) fun _ => rfl
  refine ⟨fun hc => ?_, fun hc hn => ?_, fun w hw hr hwin => ?_, fun hr hwin => ?_, fun hw hr hi => ⟨fun hnone => ?_,
    fun w d hwin hd => ⟨fun ha => ?_, fun ha => ⟨fun hcl => ?_, fun c rest hcl => ⟨fun hst => ?_, fun e hst he => ⟨fun hend => ?_,
      fun hend => ?_⟩⟩⟩⟩⟩, fun g hr hi hg => ⟨fun ho => ?_, fun bf ho => ⟨fun hno => ?_, fun i hback hi' horigin => ⟨fun hpend => ?_,
      fun before x behind hslots hx hothers => ?_⟩⟩⟩⟩
  · refine owner (substituteBeats_of_other ?_) rfl (fun _ => observeRead_of_other ?_ ?_) fun _ => rfl
    all_goals rcases hc with h | h | h | h | ⟨h, hi⟩ | ⟨h, hi⟩ <;> simp [h]
    · omega
    · omega
  · exact owner (substituteBeats_of_other (.inl (by rcases hc with h | h <;> rw [h] <;> decide))) rfl
      (fun hw => absurd hw hn) fun _ => rfl
  · refine plain (.inl (by rw [hr]; decide)) hw ?_
    simp only [observeRead_report hr, freeSlots, hwin, coversBeat, Bool.and_assoc]
  · refine owner (substituteBeats_of_other (.inl (by rw [hr]; decide))) rfl (fun _ => ?_) fun _ => rfl
    simp only [observeRead_report hr, freeSlots, hwin]
  · exact plain (.inl (by rw [hr]; decide)) hw ((observeRead_card hr hi).trans (cardRead_none hnone))
  · exact plain (.inl (by rw [hr]; decide)) hw ((observeRead_card hr hi).trans (cardRead_elsewhere hwin hd ha))
  · exact plain (.inl (by rw [hr]; decide)) hw ((observeRead_card hr hi).trans
      (cardRead_at_open hwin hd ha (by simp [hcl])))
  · exact plain (.inl (by rw [hr]; decide)) hw ((observeRead_card hr hi).trans
      (cardRead_at_open hwin hd ha fun c' rest' hc' => by rw [hcl] at hc'; cases hc'; exact hst))
  · exact plain (.inl (by rw [hr]; decide)) hw ((observeRead_card hr hi).trans
      ((cardRead_at_closed hwin hd ha hcl hst he).trans (if_pos hend)))
  · exact plain (.inl (by rw [hr]; decide)) hw ((observeRead_card hr hi).trans
      ((cardRead_at_closed hwin hd ha hcl hst he).trans (if_neg hend)))
  · exact owner (substituteBeats_plain hr hi hg ho) rfl (fun _ => observeRead_of_other (by rw [hr]; decide)
      (.inl (by rw [hr]; decide))) fun _ => rfl
  · refine overlay hr (substituteBeats_overlay hr hi hg ho false ?_)
    rcases hno with hback | horigin
    · simp [hback]
    · simpa [originBeat] using fun _ => horigin
  · have hsub := substituteBeats_overlay (s := s) (beats := beats) (back := s.path.beatsBack.length) hr hi hg ho true
      (by simpa [hback, originBeat] using ⟨i, hi', horigin⟩)
    simp only [if_true, frameStart_of_none (has_pending_eq_false hpend)] at hsub
    exact overlay hr hsub
  · have hsub := substituteBeats_overlay (s := s) (beats := beats) (back := s.path.beatsBack.length) hr hi hg ho true
      (by simpa [hback, originBeat] using ⟨i, hi', horigin⟩)
    obtain ⟨hstart, hlist⟩ := frameStart_of_swap hslots hx fun y hy => hothers y (List.mem_append_left _ hy)
    simp only [if_true, hlist] at hsub
    have hpasses := overlay hr hsub
    simp only [hstart, raiseEvent_frame, swapSlot_eq] at hpasses
    exact hpasses

end Sys2Proof.Proofs
end

section
/-! SUPPORT. The STATUS parts of the path unit, the report unit, the frame tracker, the lens link, the axes and the engines, as
bytes laid out field by field (11, R39, R60, R82, R192, R208). -/

namespace Sys2Proof.Machine

/-! ### Parts of a record (11, R208) -/

/-- The fields of a record may be listed in any order. -/
theorem Places.congr {k : Nat} {bytes : List Byte} {fields listed : List (Nat × Nat × Int)}
    (hl : ∀ f, f ∈ listed ↔ f ∈ fields) (h : Places k bytes fields) : Places k bytes listed :=
  ⟨fun f hf => h.1 f ((hl f).1 hf), fun j hj hfree => h.2 j hj fun f hf => hfree f ((hl f).2 hf)⟩

/-- A part of `n` bytes with its fields in it stands ahead of a part with its own. -/
theorem Places.join {k n : Nat} {part bytes : List Byte} {own fields : List (Nat × Nat × Int)} (hn : part.length = n)
    (hin : ∀ f ∈ own, f.1 + f.2.1 ≤ k + n) (hown : Places k part own) (h : Places (k + n) bytes fields) :
    Places k (part ++ bytes) (own ++ fields) := by
  obtain ⟨hf, hz⟩ := h.append hn
  refine ⟨fun f hmem => ?_, fun j hj hfree => ?_⟩
  · rcases List.mem_append.1 hmem with hmem | hmem
    · obtain ⟨hk, hv⟩ := hown.1 f hmem
      refine ⟨hk, ?_⟩
      have hend := hin f hmem
      rw [← hv, Machine.field, Machine.field, List.drop_append_of_le_length (by omega),
        List.take_append_of_le_length (by rw [List.length_drop]; omega)]
    · exact hf f hmem
  · by_cases hlt : k + n ≤ j
    · exact hz j hlt fun f hmem => hfree f (List.mem_append_right _ hmem)
    · rw [List.getD_append _ _ _ _ (by omega)]
      exact hown.2 j hj fun f hmem => hfree f (List.mem_append_left _ hmem)

theorem ofLe_ones (n : Nat) : (ofLe (ones n) : Int) = -1 % 256 ^ n := by
  have hsum : ofLe (ones n) + 1 = 256 ^ n := by
    induction n with
    | zero => rfl
    | succ n ih =>
      have hcons : ofLe (ones (n + 1)) = 255 + 256 * ofLe (ones n) := rfl
      rw [hcons, pow_succ]
      omega
  have hmod : (-1 : Int) % 256 ^ n = (-1 + 256 ^ n) % 256 ^ n := by rw [Int.add_emod_right]
  rw [hmod, ← Nat.cast_ofNat (n := 256), ← Nat.cast_pow, ← hsum]
  push_cast
  rw [Int.emod_eq_of_lt] <;> omega

@[simp] theorem ones_length (n : Nat) : (ones n).length = n := List.length_replicate ..

@[simp] theorem zeros_length (n : Nat) : (zeros n).length = n := List.length_replicate ..

@[simp] theorem padTo_length (n : Nat) (bytes : List Byte) : (padTo n bytes).length = n := by
  rw [padTo, List.length_take, List.length_append, zeros_length]
  omega

theorem Places.ones {k n : Nat} {bytes : List Byte} {fields : List (Nat × Nat × Int)} (h : Places (k + n) bytes fields) :
    Places k (ones n ++ bytes) ((k, n, -1) :: fields) :=
  h.field (ones_length n) (ofLe_ones n)

theorem places_ones (k n : Nat) : Places k (ones n) [(k, n, -1)] := by
  simpa using Places.ones (places_nil (k + n))

theorem padTo_getD {n i : Nat} (bytes : List Byte) (h : i < n) : (padTo n bytes).getD i 0 = bytes.getD i 0 := by
  simp only [padTo, List.getD_eq_getElem?_getD, List.getElem?_take_of_lt h, List.getElem?_append, zeros,
    List.getElem?_replicate]
  split
  · rfl
  · rw [List.getElem?_eq_none (by omega)]
    split <;> rfl

/-- A part padded with zeros has the fields of its bytes. -/
theorem Places.padTo {k n : Nat} {bytes : List Byte} {fields : List (Nat × Nat × Int)} (hl : bytes.length ≤ n)
    (h : Places k bytes fields) : Places k (padTo n bytes) fields := by
  have hd : ∀ i, (Machine.padTo n bytes).getD i 0 = bytes.getD i 0 := fun i => by
    by_cases hi : i < n
    · exact padTo_getD bytes hi
    · rw [List.getD_eq_default _ _ (by rw [padTo_length]; omega), List.getD_eq_default _ _ (by omega)]
  refine ⟨fun f hf => ⟨(h.1 f hf).1, ?_⟩, fun j hj hfree => by rw [hd]; exact h.2 j hj hfree⟩
  rw [← (h.1 f hf).2, field_eq_sum, field_eq_sum]
  simp only [hd]

/-- The first `n` bytes of a list, zero behind its end, a field each. -/
theorem places_padTo (k n : Nat) (bytes : List Byte) :
    Places k (padTo n bytes) ((List.range n).map fun i => (k + i, 1, ((bytes.getD i 0).toNat : Int))) := by
  have hfields : (List.range n).map (fun i => (k + i, 1, ((bytes.getD i 0).toNat : Int))) =
      (List.range n).map fun i => (k + i, 1, (((padTo n bytes).getD i 0).toNat : Int)) :=
    List.map_congr_left fun i hi => by rw [padTo_getD bytes (List.mem_range.1 hi)]
  rw [hfields]
  exact places_bytes k n (padTo_length n bytes).le

theorem padTo_append {m n : Nat} {part : List Byte} (bytes : List Byte) (h : part.length = m) :
    padTo (m + n) (part ++ bytes) = part ++ padTo n bytes := by
  have hz : zeros (m + n) = zeros n ++ zeros m := by rw [zeros, Nat.add_comm, List.replicate_add]; rfl
  rw [padTo, padTo, List.append_assoc, List.take_append, List.take_of_length_le (by omega), h, Nat.add_sub_cancel_left, hz,
    ← List.append_assoc, List.take_append_of_le_length (by simp)]

theorem leNat_zero (n : Nat) : leNat n 0 = zeros n := by
  induction n with
  | zero => rfl
  | succ n ih => rw [leNat, ih]; rfl

/-- Values of `w` bytes each, one after another: the first `n` of them, zero behind the list's end. -/
theorem padTo_values (w n : Nat) (values : List Nat) :
    padTo (w * n) (values.flatMap (leNat w)) = (List.range n).flatMap fun i => leNat w (values.getD i 0) := by
  induction n generalizing values with
  | zero => simp [padTo]
  | succ n ih =>
    rw [Nat.mul_succ, Nat.add_comm, List.range_succ_eq_map, List.flatMap_cons, List.flatMap_map]
    cases values with
    | nil =>
      have hnil : ∀ m, padTo m [] = zeros m := fun m => by simp [padTo, zeros]
      have htail := ih []
      simp only [List.flatMap_nil, List.getD_nil, hnil, leNat_zero] at htail ⊢
      rw [← htail, zeros, List.replicate_add]
      rfl
    | cons v rest =>
      rw [List.flatMap_cons, padTo_append _ (leNat_length w v), ih rest]
      rfl

/-- Values of `w` bytes each, a field each. -/
theorem places_values (k w n : Nat) (v : Nat → Nat) : Places k ((List.range n).flatMap fun i => leNat w (v i))
    ((List.range n).map fun i => (k + w * i, w, (v i : Int))) := by
  induction n generalizing k v with
  | zero => exact places_nil k
  | succ n ih =>
    rw [List.range_succ_eq_map, List.flatMap_cons, List.flatMap_map, List.map_cons, List.map_map]
    refine Places.leNat ?_
    have h := ih (k + w) fun i => v (i + 1)
    simpa only [Function.comp_def, Nat.succ_eq_add_one, Nat.mul_succ, Nat.add_assoc, Nat.add_comm w] using h

/-! ### The parts' own fields (R60, R208) -/

/-- A STATUS part, among the parts of its block, is laid out as its items are (R192, R208). -/
theorem status_laid {s : State} {index block n parts : Nat} {tag : Half} {lap lost : Bool} {all : List (List Byte)}
    {items : List Byte} {fields : List (Nat × Nat × Int)} (ha : statusParts block index s = some all)
    (hp : all.length = parts) (hn : all[n - 1]? = some items) (hl : items.length ≤ 28) (h : Places 4 items fields) :
    ∃ all items, statusParts block index s = some all ∧ all.length = parts ∧ all[n - 1]? = some items
      ∧ LaidOut ((Report.status block n parts tag items).compose lap lost) 32
        ([(0, 1, flagValue lap + 2 * flagValue lost + 48), (1, 1, ((block + 16 * (n - 1) + 64 * (parts - 1) : Nat) : Int)),
          (2, 2, (tag.toNat : Int))] ++ fields) :=
  ⟨all, items, ha, hp, hn, status_laidOut hl h⟩

/-- The sets of a window entry. -/
theorem places_sets (k : Nat) (sets : List Half) : Places k (setBytes sets) [(k, 2, ((sets.getD 0 0).toNat : Int)),
    (k + 2, 2, ((sets.getD 1 0).toNat : Int)), (k + 4, 2, ((sets.getD 2 0).toNat : Int))] := by
  have hget : ∀ i, (sets.map BitVec.toNat).getD i 0 = (sets.getD i 0).toNat := fun i => List.getD_map (d := (0 : Half)) ..
  have hbytes : setBytes sets = (List.range 3).flatMap fun i => leNat 2 (sets.getD i 0).toNat := by
    simp only [← hget, ← padTo_values 2 3, List.flatMap_map]
    rfl
  rw [hbytes]
  exact places_values k 2 3 fun i => (sets.getD i 0).toNat

/-- The role parameters of a window entry. -/
theorem places_params (p : RoleParams) : Places 18 (paramBytes p) (match p with
    | .absent => []
    | .frame g => [(18, 1, (g.buffers : Int)), (19, 1, (g.marginY : Int)), (20, 2, (g.width : Int)),
      (22, 2, (g.height : Int)), (24, 2, (g.pitch : Int)), (26, 2, (g.marginX : Int)), (28, 4, (g.stride : Int))]
    | .record q => [(18, 8, (q.marker.toNat : Int)), (26, 1, (q.highWater : Int)), (27, 1, (q.drainLevel : Int)),
      (28, 1, flagValue q.button), (29, 1, (q.preRoll : Int))]
    | .audio m => [(18, 1, if m = .clear then 1 else 2)]) := by
  cases p with
  | absent => exact (places_nil 18).padTo (by simp)
  | frame g =>
    refine Places.padTo (by simp) ?_
    simp only [List.append_assoc, List.cons_append, List.nil_append]
    exact Places.byteOf (Places.byteOf (Places.leNat (Places.leNat (Places.leNat (Places.leNat (places_leNat ..))))))
  | record q =>
    exact Places.padTo (by simp [beatBytes])
      (Places.leNat (Places.byteOf (Places.byteOf (Places.flag (Places.byteOf (places_nil _))))))
  | audio m =>
    refine Places.padTo (by simp) ?_
    cases m
    · exact Places.byteOf (places_nil _)
    · exact Places.byteOf (places_nil _)

/-- Flags are the bits of a number, the first in bit 0 (R192). -/
theorem bitsOf_eq_sum (flags : List Bool) :
    bitsOf flags = ((List.range flags.length).map fun k => if flags.getD k false then 2 ^ k else 0).sum := by
  induction flags with
  | nil => rfl
  | cons b flags ih =>
    rw [bitsOf, ih, List.length_cons, List.range_succ_eq_map, List.map_cons, List.sum_cons, List.map_map,
      ← List.sum_map_mul_left]
    simp [Function.comp_def, pow_succ', mul_ite]

/-- A flag of every event, read off the event table (R192). -/
theorem bitsOf_events {events : List EventEntry} (hl : events.length = 25) {f : EventEntry → Bool} {none : EventEntry}
    (hf : f none = false) :
    bitsOf (events.map f) = ((List.range 25).map fun k => if f (events.getD k none) then 2 ^ k else 0).sum := by
  rw [bitsOf_eq_sum, List.length_map, hl, ← hf]
  simp only [List.getD_map]

/-- The number of each event's occurrences (R192). -/
theorem places_counts {events : List EventEntry} (hl : events.length = 25) (none : EventEntry) (hn : none.count = 0) :
    Places 4 (events.map fun e => e.count)
      ((List.range 25).map fun k => (4 + k, 1, ((events.getD k none).count.toNat : Int))) := by
  have h := places_bytes 4 25 (bytes := events.map fun e => e.count) (by simp [hl])
  simpa only [← hn, List.getD_map] using h

/-- The ring's bytes with a REPORT window (R194). -/
theorem places_ring {s : State} {w : WindowRecord} {bytes : List Byte} {fields : List (Nat × Nat × Int)}
    (hw : s.window .report = some w) (h : Places 20 bytes fields) : Places 5 (reportRingBytes s ++ bytes)
      ([(5, 1, flagValue s.report.lap), (6, 1, flagValue s.report.lost), (7, 1, flagValue s.report.drop.isSome),
        (8, 4, ((w.size / 32 : Nat) : Int)), (12, 4, (s.report.nextSlot : Int)),
        (16, 4, ((w.size / 32 - s.report.slots.length : Nat) : Int))] ++ fields) := by
  simp only [reportRingBytes, hw, List.append_assoc, List.cons_append, List.nil_append]
  exact Places.flag (Places.flag (Places.flag (Places.leNat (Places.leNat (Places.leNat h)))))

/-- The ring's bytes without one. -/
theorem places_ring_none {s : State} {bytes : List Byte} {fields : List (Nat × Nat × Int)}
    (hw : s.window .report = none) (h : Places 20 bytes fields) : Places 5 (reportRingBytes s ++ bytes)
      ([(5, 1, -1), (6, 1, flagValue s.report.lost), (7, 1, flagValue s.report.drop.isSome), (8, 12, -1)] ++ fields) := by
  simp only [reportRingBytes, hw, List.append_assoc, List.cons_append, List.nil_append]
  exact Places.ones (Places.flag (Places.flag (Places.ones h)))

theorem reportRingBytes_length (s : State) : (reportRingBytes s).length = 15 := by
  unfold reportRingBytes
  cases s.window .report <;> simp

/-- The bytes of a timecode. -/
theorem places_timecode {k : Nat} {t : Timecode} {bytes : List Byte} {fields : List (Nat × Nat × Int)}
    (h : Places (k + 4) bytes fields) : Places k (t.bytes ++ bytes) ([(k, 1, (t.hours : Int)), (k + 1, 1, (t.minutes : Int)),
      (k + 2, 1, (t.seconds : Int)), (k + 3, 1, (t.frames : Int))] ++ fields) :=
  Places.byteOf (Places.byteOf (Places.byteOf (Places.byteOf h)))

/-- The newest record of a buffer is the last of its records (R28). -/
theorem newestOf_eq_getLast? (b : Nat) (h : List CaptureRecord) :
    newestOf b h = (h.filter fun r => r.buffer == b).getLast? := by
  rw [newestOf, List.getLast?_eq_head?_reverse, ← List.filter_reverse, List.head?_filter]

/-- The state of the newest record of each buffer (R39). -/
theorem places_bufferStates (h : List CaptureRecord) : Places 28 ((List.range 4).map (bufferStateByte h))
    ((List.range 4).map fun b => (28 + b, 1, match (h.filter fun r => r.buffer == b).getLast? with
      | some r => (r.state.code : Int)
      | none => 0)) := by
  have hbyte : ∀ b, ((bufferStateByte h b).toNat : Int) = match (h.filter fun r => r.buffer == b).getLast? with
      | some r => (r.state.code : Int)
      | none => 0 := fun b => by
    rw [← newestOf_eq_getLast?, bufferStateByte]
    rcases newestOf b h with _ | r
    · rfl
    · dsimp only
      cases r.state <;> rfl
  simp only [← hbyte]
  exact Places.toNat (Places.toNat (Places.toNat (Places.toNat (places_nil _))))

theorem captureBytes_length (h : List CaptureRecord) : (captureBytes h).length = 24 := by
  unfold captureBytes
  rcases newestRecord h with _ | r
  · simp
  · rcases hl : r.lens <;> simp [hl, Timecode.bytes]

/-- The newest record (R39). -/
theorem places_newest {h : List CaptureRecord} {r : CaptureRecord} (hr : h.getLast? = some r) :
    Places 4 (captureBytes h) ([(4, 2, (r.seq.toNat : Int)), (6, 1, (r.buffer : Int)), (7, 1, (r.state.code : Int)), (8, 2, r.dx),
      (10, 2, r.dy), (12, 1, flagValue r.limited), (13, 1, (r.timecode.hours : Int)), (14, 1, (r.timecode.minutes : Int)),
      (15, 1, (r.timecode.seconds : Int)), (16, 1, (r.timecode.frames : Int)), (17, 1, flagValue r.dropFrame),
      (18, 1, flagValue r.lens.isSome)] ++ match r.lens with
        | some q => [(20, 2, (q.zoom : Int)), (22, 2, (q.focus : Int)), (24, 2, (q.iris : Int)), (26, 2, (q.extender : Int))]
        | none => []) := by
  simp only [captureBytes, newestRecord, hr, List.append_assoc, List.cons_append, List.nil_append]
  refine Places.leNat (Places.byteOf (Places.byteOf (Places.leInt (Places.leInt (Places.flag (places_timecode
    (Places.flag (Places.flag (Places.zero ?_)))))))))
  cases r.lens with
  | none => exact (places_nil _).gap (n := 8)
  | some q => exact Places.leNat (Places.leNat (Places.leNat (places_leNat ..)))

theorem places_newest_none {h : List CaptureRecord} (hr : h.getLast? = none) :
    Places 4 (captureBytes h) [(4, 24, -1)] := by
  simp only [captureBytes, newestRecord, hr]
  exact places_ones 4 24

/-- The extender factor in use, all ones where no rule gives it a value (R60, log entry 52). -/
theorem places_extender (k : Nat) (l : LensLink) : Places k (leOption 2 (extenderInUse l))
    [(k, 2, match l.identity, l.position with
      | some i, some q => if i.extender then (q.extender : Int) else 100
      | some i, none => if i.extender then -1 else 100
      | none, _ => -1)] := by
  unfold extenderInUse extenderFactor
  rcases l.identity with _ | i
  · exact places_ones k 2
  · rcases l.position with _ | q <;> dsimp only <;> cases i.extender
    · exact places_leNat k 2 100
    · exact places_ones k 2
    · exact places_leNat k 2 100
    · exact places_leNat k 2 q.extender

theorem leOption_length (n : Nat) (v : Option Nat) : (leOption n v).length = n := by
  cases v <;> simp [leOption]

/-- The name of an identity, then its ranges (R60). -/
theorem places_identity (i : Identity) : Places 4 (identityBytes i)
    ((List.range 12).map (fun k => (4 + k, 1, ((i.name.getD k 0).toNat : Int))) ++ [(16, 2, (i.zoomMin : Int)),
      (18, 2, (i.zoomMax : Int)), (20, 2, (i.focusMin : Int)), (22, 2, (i.focusMax : Int)), (24, 2, (i.irisMin : Int)),
      (26, 2, (i.irisMax : Int)), (28, 2, (i.shiftX : Int)), (30, 2, (i.shiftY : Int))]) := by
  simp only [identityBytes, List.append_assoc]
  refine Places.join (padTo_length ..) (by simp; omega) (places_padTo ..) ?_
  exact Places.leNat (Places.leNat (Places.leNat (Places.leNat (Places.leNat (Places.leNat (Places.leNat (places_leNat ..)))))))

/-- The focal table of an identity, then its extender (R58, R60). -/
theorem places_focal (i : Identity) : Places 4 (focalBytes i)
    ((List.range 9).map (fun k => (4 + 3 * k, 3, ((i.focal.getD k 0 : Nat) : Int))) ++ [(31, 1, flagValue i.extender)]) := by
  rw [focalBytes]
  refine Places.join (n := 27) (padTo_length ..) (by simp; omega) ?_ (Places.flag (places_nil _))
  rw [padTo_values 3 9]
  exact places_values 4 3 9 fun k => i.focal.getD k 0

/-- A move in progress (R82). -/
theorem places_move (m : Option InProgress) : Places 11 (moveBytes m) (match m with
    | some (.ramp start target n shape k) => [(11, 1, 1), (12, 2, (start : Int)), (14, 2, (target : Int)),
      (16, 2, (n : Int)), (18, 2, (k : Int)), (20, 1, (shape.code : Int))]
    | some (.dwell n k) => [(11, 1, 2), (16, 2, (n : Int)), (18, 2, (k : Int))]
    | some (.wait set) => [(11, 1, 4), (21, 1, (set.toNat : Int))]
    | none => []) := by
  rcases m with _ | ⟨start, target, n, shape, k⟩ | ⟨n, k⟩ | set
  · exact Places.gap (n := 11) (places_nil _)
  · simp only [moveBytes, List.append_assoc, List.cons_append, List.nil_append]
    exact Places.byte rfl (Places.leNat (Places.leNat (Places.leNat (Places.leNat (Places.byteOf (Places.zero (places_nil _)))))))
  · simp only [moveBytes, List.append_assoc, List.cons_append, List.nil_append]
    exact Places.byte rfl (Places.gap (n := 4) (Places.leNat (Places.leNat ((places_nil _).gap (n := 2)))))
  · exact Places.byte rfl (Places.gap (n := 9) (Places.byteOf (places_nil _)))

theorem moveBytes_length (m : Option InProgress) : (moveBytes m).length = 11 := by
  rcases m with _ | _ | _ | _ <;> simp [moveBytes]

end Sys2Proof.Machine

namespace Sys2Proof.Proofs

open Sys2Proof Sys2Proof.Machine

/-- Settles O29: the bytes of every part, one field after another. -/
theorem statusPartsOfSetup : Obligations.StatusPartsOfSetup := by
  intro s index tag lap lost flag laid half clock queues events bits l sent axis
  refine ⟨fun w hi hw => ?_, fun hi hw => ?_, ?_, fun hl => ⟨?_, ?_⟩, ?_, ?_, ?_, ?_, ?_, ?_, ?_, fun id => ?_⟩
  · have hp : statusParts 1 index s = _ := (if_pos hi).trans (congrArg some (by rw [pathStatus, hw]))
    refine ⟨status_laid hp rfl rfl (by simp [setBytes]) ?_, status_laid hp rfl rfl (by simp [paramBytes]) ?_⟩
    · simp only [List.append_assoc, List.cons_append, List.nil_append]
      exact Places.byteOf (Places.byteOf (Places.flag (Places.byteOf (Places.leNat (Places.join (n := 6) (padTo_length ..)
        (by simp) (places_sets 12 w.sets) (Places.byteOf (Places.byteOf (Places.byteOf (places_nil _)))))))))
    · exact Places.byteOf (Places.byteOf (Places.gap (n := 12) (places_params w.params)))
  · have hp : statusParts 1 index s = _ := (if_pos hi).trans (congrArg some (by rw [pathStatus, hw]))
    refine ⟨status_laid hp rfl rfl (by simp) ?_, status_laid hp rfl rfl (by simp) (Places.byteOf (places_ones ..))⟩
    simp only [List.cons_append, List.nil_append]
    exact Places.byteOf (Places.ones (Places.byteOf (Places.byteOf (Places.byteOf (places_nil _)))))
  · have htail := Places.byteOf (k := 20) (v := s.report.queue.length)
      (Places.byteOf (v := (s.report.drop.map fun d => d.dropped).getD 0) (Places.byteOf (v := s.command.queue.length)
        (Places.flag (c := s.report.attn) (Places.flag (c := s.report.quietEnd.isSome) (places_nil _)))))
    refine status_laid rfl rfl rfl (by simp [reportRingBytes_length]) ?_
    rw [List.append_assoc]
    cases hw : s.window .report with
    | none =>
      refine (Places.flag (places_ring_none hw htail)).congr fun f => ?_
      simp only [List.mem_append, List.mem_cons, List.not_mem_nil, or_false]
      tauto
    | some w =>
      refine (Places.flag (places_ring hw htail)).congr fun f => ?_
      simp only [List.mem_append, List.mem_cons, List.not_mem_nil, or_false]
      tauto
  · refine status_laid rfl rfl rfl (by simp) ?_
    rw [bitsOf_events hl (none := ⟨false, false, 0⟩) rfl, bitsOf_events hl (none := ⟨false, false, 0⟩) rfl]
    exact Places.leNat (places_leNat ..)
  · exact status_laid rfl rfl rfl (by simpa using hl.trans_le (by decide)) (places_counts hl _ rfl)
  · refine status_laid rfl rfl rfl (by simp [Timecode.bytes]) ?_
    simp only [List.append_assoc, List.cons_append, List.nil_append]
    refine (Places.byteOf (Places.byteOf (Places.flag (Places.byteOf (places_timecode
      (Places.flag (Places.byteOf (places_leNat ..)))))))).congr fun f => ?_
    simp only [clock, List.mem_append, List.mem_cons, List.not_mem_nil, or_false]
    tauto
  · refine status_laid rfl rfl rfl (by simp [captureBytes_length]) ?_
    cases hr : s.frame.history.getLast? with
    | none =>
      refine ((places_newest_none hr).join (captureBytes_length _) (by simp) (places_bufferStates _)).congr fun f => ?_
      exact List.mem_append.trans (or_comm.trans List.mem_append.symm)
    | some r =>
      refine ((places_newest hr).join (captureBytes_length _) ?_ (places_bufferStates _)).congr fun f => ?_
      · cases r.lens <;> simp
      · dsimp only
        cases r.lens <;>
          simp only [clock, half, List.mem_append, List.mem_cons, List.not_mem_nil, or_false, Nat.reduceAdd] <;> tauto
  · have hsent : ∀ f, ((txCode f).toNat : Int) = sent f % 256 := by
      rintro (_ | ⟨_ | _, _, _, _⟩) <;> rfl
    refine status_laid rfl rfl rfl (by simp [leOption_length]) ?_
    exact Places.byteOf (Places.flag (Places.byteOf (Places.flag (Places.flag (Places.byte (hsent _) (Places.byte (hsent _)
      (Places.flag (Places.leNat (places_extender ..)))))))))
  · refine ⟨_, _, rfl, rfl, rfl, status_laidOut ?_ ?_⟩
    · cases l.position <;> simp [positionBytes]
    · cases l.position with
      | none => exact places_ones 4 18
      | some q =>
        simp only [Option.map_some, Option.getD_some, positionBytes, List.append_assoc]
        exact Places.leNat (Places.leNat (Places.leNat (Places.leNat (Places.leInt (Places.leInt (Places.leNat (Places.leInt
          (Places.leNat (Places.toNat (places_nil _))))))))))
  · refine ⟨_, _, rfl, rfl, rfl, status_laidOut ?_ ?_⟩
    · cases l.identity <;> simp [identityBytes]
    · cases l.identity with
      | none => exact places_ones 4 28
      | some i => exact places_identity i
  · refine ⟨_, _, rfl, rfl, rfl, status_laidOut ?_ ?_⟩
    · cases l.identity <;> simp [focalBytes]
    · cases l.identity with
      | none => exact places_ones 4 28
      | some i => exact places_focal i
  · refine status_laid rfl rfl rfl (by simp [axisBytes]) ?_
    simp only [axisBytes, List.append_assoc, List.cons_append, List.nil_append]
    exact Places.byteOf (Places.leNat (Places.leNat (Places.byteOf (Places.leNat (Places.leNat (Places.byteOf (Places.leNat
      (Places.leNat (Places.byteOf (Places.leNat (Places.leNat (Places.flag (Places.flag (Places.leNat (Places.flag
      (places_leNat ..))))))))))))))))
  · intro g
    have hbound : (((boundAxis s.axis id).map Axis.code |>.getD 0 : Nat) : Int) =
        if s.axis.zoom.source = .engine id then 1 else if s.axis.focus.source = .engine id then 2
          else if s.axis.iris.source = .engine id then 3 else 0 := by
      unfold boundAxis
      split_ifs <;> rfl
    refine ⟨_, _, rfl, rfl, show _ = some (engineStatus s id) by cases id <;> rfl, status_laidOut ?_ ?_⟩
    · simp [engineStatus, moveBytes_length]
    · rw [← hbound]
      simp only [engineStatus, List.append_assoc, List.cons_append, List.nil_append]
      exact Places.byteOf (Places.byteOf (Places.byteOf (Places.byteOf (Places.leNat (Places.byteOf (places_move _))))))

end Sys2Proof.Proofs
end

section
/-! SUPPORT. The counting of timecode, and the frame tracker's commands (R30, R32, R35 to R38, R207). -/

namespace Sys2Proof.Machine

/-! ### Labels (R35, R36) -/

theorem Timecode.isDropped_iff {rate : FrameRate} {drop : Bool} {t : Timecode} : t.isDropped rate drop = true ↔
    drop = true ∧ t.seconds = 0 ∧ ¬ 10 ∣ t.minutes ∧ t.frames < rate.dropCount := by
  simp [Timecode.isDropped, Nat.dvd_iff_mod_eq_zero, and_assoc]

theorem Timecode.skipDropped_of_dropped {rate : FrameRate} {drop : Bool} {t : Timecode} (h : t.isDropped rate drop = true) :
    t.skipDropped rate drop = { t with frames := rate.dropCount } := if_pos h

theorem Timecode.skipDropped_of_kept {rate : FrameRate} {drop : Bool} {t : Timecode} (h : ¬ t.isDropped rate drop = true) :
    t.skipDropped rate drop = t := if_neg h

/-- The label that follows, before a dropped one is moved forward (R35). -/
theorem Timecode.carry_eq (rate : FrameRate) (t : Timecode) : t.carry rate =
    if ¬ t.frames + 1 ≥ rate.framesPerSecond then { t with frames := t.frames + 1 }
    else if t.seconds < 59 then ⟨t.hours, t.minutes, t.seconds + 1, 0⟩
    else if t.minutes < 59 then ⟨t.hours, t.minutes + 1, 0, 0⟩ else if t.hours < 23 then ⟨t.hours + 1, 0, 0, 0⟩
    else ⟨0, 0, 0, 0⟩ := by
  have hlt : ∀ m n : Nat, m < n ↔ m + 1 < n + 1 := by omega
  simp only [Timecode.carry, ge_iff_le, Nat.not_le, hlt _ 59, hlt _ 23]
  rfl

/-! ### The commands (R32, R37, R38) -/

section
variable {r : CommandRecord} {s : State}

/-- A command's step, the command next, is its meaning's execution (R190). -/
theorem next_runCommand {accepts : CommandRecord → Bool} {body : CommandRecord → State → State × Completion} {c : Instr}
    {x : State × Completion} (hrow : ∀ s, exec c s = .next (runCommand accepts body s)) (h : NextIs s r)
    (ha : accepts r = true) (hbody : body r (popCommand s) = x) : exec c s = .next (finishCommand r x) := by
  rw [hrow, runCommand_next h ha, hbody]

theorem setFrameRate_none (h : FrameRate.ofCode (r.byte 4) = none) : setFrameRate r s = refuses .refusedRange s := by
  simp only [setFrameRate, h]

theorem setFrameRate_some {rate : FrameRate} (h : FrameRate.ofCode (r.byte 4) = some rate) :
    let drop := s.frame.dropFrame && rate.allowsDrop
    setFrameRate r s = completes
      (if drop = s.frame.dropFrame ∧ s.frame.timecode.adjust rate drop = s.frame.timecode
        ∧ s.record.timecode.adjust rate drop = s.record.timecode then .done else .clamped)
      { s with
        frame := { s.frame with
          rate := rate, dropFrame := drop, timecode := s.frame.timecode.adjust rate drop
          expiry := max s.now (s.frame.lastMark + markSpacing s.frame.tracker rate) }
        record := { s.record with timecode := s.record.timecode.adjust rate drop } } := by
  intro drop
  simp only [setFrameRate, h]
  refine congrArg (completes · _) (doneOrClamped_of_iff ?_)
  simp only [Bool.or_eq_true, bne_iff_ne, ne_eq, drop]
  tauto

theorem setTimecode_none (h : 1 < r.byte 8) : setTimecode r s = refuses .refusedRange s := by
  simp only [setTimecode, flagOfCode_of_gt h]

theorem setTimecode_some (h : r.byte 8 ≤ 1) :
    let drop := r.byte 8 == 1 && s.frame.rate.allowsDrop
    let tc := Timecode.skipDropped s.frame.rate drop
      ⟨min 23 (r.byte 4), min 59 (r.byte 5), min 59 (r.byte 6), min (s.frame.rate.framesPerSecond - 1) (r.byte 7)⟩
    setTimecode r s = completes
      (if drop = (r.byte 8 == 1) ∧ tc = ⟨r.byte 4, r.byte 5, r.byte 6, r.byte 7⟩ then .done else .clamped)
      { s with
        frame := { s.frame with timecode := tc, dropFrame := drop }
        record := { s.record with timecode := if drop = s.frame.dropFrame then s.record.timecode
          else s.record.timecode.skipDropped s.frame.rate drop } } := by
  intro drop tc
  simp only [setTimecode, flagOfCode_of_le h, bne_iff_ne, ne_eq, ite_not]
  refine congrArg (completes · _) (doneOrClamped_of_iff ?_)
  simp only [Bool.or_eq_true, bne_iff_ne, ne_eq, drop, tc]
  tauto

theorem setTimecodeMode_none (h : TimecodeMode.ofCode (r.byte 4) = none) :
    setTimecodeMode r s = refuses .refusedRange s := by
  simp only [setTimecodeMode, h]

theorem setTimecodeMode_some {m : TimecodeMode} (h : TimecodeMode.ofCode (r.byte 4) = some m) :
    setTimecodeMode r s = completes .done { s with frame := { s.frame with mode := m } } := by
  simp only [setTimecodeMode, h]

end

end Sys2Proof.Machine

namespace Sys2Proof.Proofs

open Sys2Proof Sys2Proof.Machine

/-- Settles O55: the numbers of the rates, the label that follows, and each command's two outcomes. -/
theorem frameTrackerCommands : Obligations.FrameTrackerCommands := by
  refine ⟨fun rate drop t => ?_, fun s r h => ⟨fun hc ho => ?_, fun rate hc ho => ?_, fun hc hb => ?_, fun hc hb => ?_,
    fun hc ho => ?_, fun m hc ho => ?_⟩⟩
  · intro numbers
    have hnumbers : numbers = (rate.period, rate.framesPerSecond, rate.dropCount) := by cases rate <;> rfl
    have hallows : rate.allowsDrop = true ↔ rate = .r2997 ∨ rate = .r5994 := by cases rate <;> decide
    clear_value numbers
    subst hnumbers
    intro last next dropped
    have hnext : t.carry rate = next := Timecode.carry_eq rate t
    refine ⟨rfl, rfl, hallows, Timecode.isDropped_iff, fun hd => Timecode.skipDropped_of_dropped (Timecode.isDropped_iff.2 hd),
      fun hd => Timecode.skipDropped_of_kept (mt Timecode.isDropped_iff.1 hd), fun hd => ?_, fun hd => ?_⟩
    · rw [Timecode.advance, hnext]
      exact Timecode.skipDropped_of_dropped (Timecode.isDropped_iff.2 hd)
    · rw [Timecode.advance, hnext]
      exact Timecode.skipDropped_of_kept (mt Timecode.isDropped_iff.1 hd)
  · exact next_runCommand (fun _ => rfl) h (CommandRecord.is_of_code hc (by decide)) (setFrameRate_none ho)
  · exact next_runCommand (fun _ => rfl) h (CommandRecord.is_of_code hc (by decide)) (setFrameRate_some ho)
  · exact next_runCommand (fun _ => rfl) h (CommandRecord.is_of_code hc (by decide)) (setTimecode_none hb)
  · exact next_runCommand (fun _ => rfl) h (CommandRecord.is_of_code hc (by decide)) (setTimecode_some hb)
  · exact next_runCommand (fun _ => rfl) h (CommandRecord.is_of_code hc (by decide)) (setTimecodeMode_none ho)
  · exact next_runCommand (fun _ => rfl) h (CommandRecord.is_of_code hc (by decide)) (setTimecodeMode_some ho)

end Sys2Proof.Proofs
end

section
/-! SUPPORT. What each RESET JOB does to its block (R42, R63, R85, R94, R107, R130, R150, R177, R193, R206). -/

namespace Sys2Proof.Machine

/-! ### LENS (R63, R85) -/

theorem stopDriving_sending (s : State) : (stopDriving s).lens.sending = none := by
  unfold stopDriving
  split
  · rfl
  · assumption

/-- With the sources reset no engine is bound, so that the link loss holds none (R81, R85). -/
theorem linkLoss_of_unbound {s : State} (h : ∀ id, boundAxis s.axis id = none) : linkLoss s = s := by
  simp only [linkLoss, h, Option.isSome_none, Bool.false_eq_true, if_false]
  rfl

/-- The lens link with its frames, its identity and its position gone, in SEEKING or ABSENT as the strap says (R63). -/
def LensLink.cleared (enable : Bool) (now : Nat) (l : LensLink) : LensLink :=
  { l with
    identity := none, provisional := none, position := none, waiting := none, sending := none, window := none
    miss := 0, enable := enable, link := if enable then .seeking else .absent, seek := if enable then some now else none }

/-- The link entered in a lens link that sends nothing and was cleared of the rest (R50, R59). -/
theorem entered_eq {s : State} {e : Bool} (hs : s.lens.sending = none) :
    let q := { s with lens := { s.lens with
      identity := none, provisional := none, position := none, waiting := none, window := none, miss := 0, enable := e } }
    (if e then enterSeeking q else enterAbsent q) = { s with lens := s.lens.cleared e s.now } := by
  cases e <;> simp [enterSeeking, enterAbsent, LensLink.cleared, hs]

theorem resetLens_eq (s : State) :
    let u := stopDriving s
    let t := { resetEngines (resetAxes u) with lens := u.lens.cleared s.straps.lensEn s.now }
    resetLens s = if t.lens.link = u.lens.link then t else raiseEvent (.lensState t.lens.link 0 false) t := by
  have hsend := stopDriving_sending s
  have hnow : (stopDriving s).now = s.now := by simp
  have hstraps : (stopDriving s).straps = s.straps := by simp
  unfold resetLens
  generalize stopDriving s = u at *
  rw [← hnow, ← hstraps]
  intro u t
  have hentered := entered_eq (s := resetEngines (resetAxes u)) (e := u.straps.lensEn) hsend
  have hloss : ∀ w : State, w.axis = (resetAxes u).axis → linkLoss w = w := fun w hw =>
    linkLoss_of_unbound fun id => by rw [hw]; rfl
  have hraise : (if t.lens.link != u.lens.link then raiseLensState false t else t) =
      if t.lens.link = u.lens.link then t else raiseEvent (.lensState t.lens.link 0 false) t := by
    by_cases h : t.lens.link = u.lens.link <;> simp only [h, bne_self_eq_false, bne_iff_ne, ne_eq] <;> rfl
  rw [← hraise]
  refine (congrArg (fun v : State =>
    let w := if v.lens.link != u.lens.link then raiseLensState false v else v
    if u.lens.link.up then linkLoss w else w) hentered).trans ?_
  dsimp only
  rw [hloss]
  · exact ite_self _
  · split <;> simp

/-! ### STAB (R94, R107) -/

/-- The stabiliser reset, a bias capture ended first. -/
theorem resetStab_eq (s : State) :
    let u := match s.stab.capture with
      | some c => offer (.completion .aborted c.tag 0x0043 (.bias s.stab.x.bias s.stab.y.bias c.count) none)
          { s with stab := { s.stab with capture := none } }
      | none => s
    let t := { u with
      gyro := { s.gyro with
        transaction := false, timer := none, state := .unconfigured, last := none, badRun := 0, goodRun := 0 }
      stab := { s.stab with
        x := s.stab.x.resetJob, y := s.stab.y.resetJob, mode := .off, limited := false, capture := none } }
    resetStab s = if s.gyro.state = .unconfigured then t else raiseEvent (.gyroState .unconfigured) t := by
  intro u t
  have ht : t = { abortCapture s with
      gyro := { (abortCapture s).gyro with
        transaction := false, timer := none, state := .unconfigured, last := none, badRun := 0, goodRun := 0 }
      stab := { (abortCapture s).stab with
        x := (abortCapture s).stab.x.resetJob, y := (abortCapture s).stab.y.resetJob, mode := .off, limited := false } } := by
    simp only [t, u, abortCapture, endCapture]
    cases h : s.stab.capture <;> simp [h]
  unfold resetStab
  rw [ht]
  cases s.gyro.state <;> rfl

/-! ### The other jobs (R42, R150, R177, R206) -/

theorem resetFrame_eq (s : State) :
    let t := { s with frame := { s.frame with
      history := [], tracker := .freeWheel, expiry := s.now + 8 * s.frame.rate.period } }
    resetFrame s = if s.frame.tracker = .locked then raiseEvent (.frameBeat .freeWheel none) t else t := by
  unfold resetFrame
  cases s.frame.tracker <;> rfl

theorem resetReport_eq (s : State) : resetReport s = { s with report := { s.report with
    queue := [], drop := none, lost := s.report.lost || !s.report.queue.isEmpty || s.report.drop.isSome
    events := s.report.events.map fun e => { e with pending := false }
    attn := false } } := by
  have hattn : unmaskedPending (s.report.events.map fun e => { e with pending := false }) = false := by
    simp [unmaskedPending]
  simp only [resetReport, evaluateAttn, attnCondition, hattn, Bool.false_and]

/-- A target that names none of the eight. -/
theorem CommandRecord.targetsNone_iff {r : CommandRecord} (h : r.code = 0x0015) :
    r.targetsNone = true ↔ r.byte 4 = 0 ∨ 8 < r.byte 4 := by
  have hin : [1, 2, 3, 4, 5, 6, 7, 8].contains (r.byte 4) = true ↔ ¬ (r.byte 4 = 0 ∨ 8 < r.byte 4) := by
    simp only [List.contains_iff_mem, List.mem_cons, List.not_mem_nil, or_false]
    omega
  rw [CommandRecord.targetsNone, CommandRecord.is_of_code h (by decide), Bool.true_and, Bool.not_eq_true',
    ← Bool.not_eq_true, hin, not_not]

end Sys2Proof.Machine

namespace Sys2Proof.Proofs

open Sys2Proof Sys2Proof.Machine

/-- Settles O54: each job is one reset, and PART is the seven of them. -/
theorem resetJobs : Obligations.ResetJobs := by
  intro s r h hc lens stab frame audio overlay record report does u
  have hlens : ∀ x, resetLens x = lens x := resetLens_eq
  have hstab : ∀ x, resetStab x = stab x := resetStab_eq
  have hframe : ∀ x, resetFrame x = frame x := resetFrame_eq
  have haudio : ∀ x, resetAudio x = audio x := fun _ => rfl
  have hoverlay : ∀ x, resetOverlay x = overlay x := fun _ => rfl
  have hrecord : ∀ x, resetRecord x = record x := fun _ => rfl
  have hreport : ∀ x, resetReport x = report x := resetReport_eq
  have hselects : ∀ {v}, r.byte 4 = v → r.targets v = true := CommandRecord.selects_of hc (by decide)
  have hnone := CommandRecord.targetsNone_iff hc
  refine ⟨fun hb => ?_, fun hb => ?_, fun hb => ?_, fun hb => ?_, fun hb => ?_, fun hb => ?_, fun hb => ?_, fun hb => ?_,
    fun hb => ?_⟩
  · have hrow : (r.targets 1 || r.targetsNone) = true := by rw [hnone.2 hb, Bool.or_true]
    exact next_runCommand (body := resetJobLens) (fun _ => rfl) h hrow
      (if_pos (hnone.2 hb))
  · have htargets : ¬ r.targetsNone = true := fun hn => by have := hnone.1 hn; omega
    have hrow : (r.targets 1 || r.targetsNone) = true := by rw [hselects hb, Bool.true_or]
    exact next_runCommand (body := resetJobLens) (fun _ => rfl) h hrow
      ((if_neg htargets).trans (congrArg (completes .done) (hlens u)))
  · exact next_runCommand (body := resetJobStab) (fun _ => rfl) h (hselects hb) (congrArg (completes .done) (hstab u))
  · exact next_runCommand (body := resetJobFrame) (fun _ => rfl) h (hselects hb) (congrArg (completes .done) (hframe u))
  · exact next_runCommand (body := resetJobAudio) (fun _ => rfl) h (hselects hb) rfl
  · exact next_runCommand (body := resetJobOverlay) (fun _ => rfl) h (hselects hb) rfl
  · exact next_runCommand (body := resetJobRecord) (fun _ => rfl) h (hselects hb) rfl
  · exact next_runCommand (body := resetJobReport) (fun _ => rfl) h (hselects hb) (congrArg (completes .done) (hreport u))
  · have hpart : resetPart u = record (overlay (audio (frame (stab (lens (report u)))))) := by
      rw [resetPart, hreport, hlens, hstab, hframe, haudio, hoverlay, hrecord]
    have hexec : exec .resetJobPart s = .next (finishCommand r (completes .done (resetPart u))) :=
      next_runCommand (body := resetJobPart) (fun _ => rfl) h (hselects hb) rfl
    rwa [finishCommand_completes, hpart] at hexec

end Sys2Proof.Proofs
end

section
/-! SUPPORT. A beat of an overlaid read, byte by byte: where its pixels lie and what each byte becomes (R23, R109, R123, R124). -/

namespace Sys2Proof.Machine

/-! ### The topmost element (R123) -/

section
variable {snap : Snapshot} {list : List Element} {p q : Nat}

/-- The topmost element is the last of the list that covers the pixel. -/
theorem topmost_of_last {before behind : List Element} {e : Element} (hl : list = before ++ e :: behind)
    (he : e.covers snap p q = true) (hb : ∀ x ∈ behind, x.covers snap p q = false) : topmost snap list p q = some e := by
  have hnone : behind.reverse.find? (fun e => e.covers snap p q) = none := by
    simpa [List.find?_eq_none] using hb
  rw [topmost, hl, List.reverse_append, List.reverse_cons, List.append_assoc, List.find?_append, hnone]
  simp [he]

theorem topmost_of_bare (h : ∀ e ∈ list, e.covers snap p q = false) : topmost snap list p q = none := by
  simpa [topmost, List.find?_eq_none] using h

theorem drawLuma_of_topmost {e : Element} {y : Byte} (h : topmost snap list p q = some e) :
    drawLuma snap list p q y = (elementColour snap e).luma := by
  simp only [drawLuma, h]

/-- A returned Y is bright when it stands at or above the level, or within the band (R124). -/
theorem Zebra.bright_iff (z : Zebra) (y : Byte) : z.bright y = true ↔
    (z.mode = .above ∧ z.level ≤ y) ∨ (z.mode = .band ∧ z.low ≤ y ∧ y ≤ z.high) := by
  unfold Zebra.bright
  cases z.mode <;> simp

theorem drawLuma_of_bare {y : Byte} (h : topmost snap list p q = none) : drawLuma snap list p q y =
    if snap.zebra.bright y = true ∧ (p + q + 2 * snap.count.toNat) / 4 % 2 = 0 then snap.zebra.luma else y := by
  simp only [drawLuma, h, zebraLuma, Bool.and_eq_true, beq_iff_eq]

/-- The Cb and Cr of a pair (R123). -/
def drawChroma (snap : Snapshot) (list : List Element) (p q : Nat) (blue : Bool) (was : Byte) : Byte :=
  match topmost snap list p q with
  | some e => if blue then (elementColour snap e).cb else (elementColour snap e).cr
  | none => was

theorem drawPair_eq (y0 cb y1 cr : Byte) : drawPair snap list p q y0 cb y1 cr =
    [drawLuma snap list p q y0, drawChroma snap list p q true cb, drawLuma snap list (p + 1) q y1,
      drawChroma snap list p q false cr] := by
  unfold drawPair drawChroma
  cases topmost snap list p q <;> rfl

end

/-! ### The bytes of a beat (R23, R109) -/

theorem ofLe_lt (bytes : List Byte) : ofLe bytes < 256 ^ bytes.length := by
  induction bytes with
  | nil => simp [ofLe]
  | cons b bs ih =>
    have := b.isLt
    rw [ofLe, List.length_cons, pow_succ]
    omega

/-- A little-endian value has its bytes at the powers of 256. -/
theorem ofLe_byte (bytes : List Byte) (k : Nat) : ofLe bytes / 256 ^ k % 256 = (bytes.getD k 0).toNat := by
  have hlow : ofLe (bytes.take k) < 256 ^ k :=
    (ofLe_lt _).trans_le (Nat.pow_le_pow_right (by decide) (List.length_take_le ..))
  rw [ofLe_eq_take_add_drop bytes k, Nat.add_mul_div_left _ _ (by positivity), Nat.div_eq_of_lt hlow, Nat.zero_add,
    List.getD_eq_getElem?_getD, ← List.head?_drop]
  cases bytes.drop k with
  | nil => rfl
  | cons b bs =>
    rw [ofLe, Nat.add_mul_mod_self_left]
    exact Nat.mod_eq_of_lt b.isLt

/-- Byte `k` of a beat made of 8 bytes. -/
theorem beatOfBytes_byte {bytes : List Byte} (hl : bytes.length = 8) (k : Nat) :
    (beatOfBytes bytes).toNat / 256 ^ k % 256 = (bytes.getD k 0).toNat := by
  have hlt : ofLe bytes < 2 ^ 64 := by
    have := ofLe_lt bytes
    rwa [hl] at this
  rw [beatOfBytes, BitVec.toNat_ofNat, Nat.mod_eq_of_lt hlt, ofLe_byte]

/-- Byte `k` of a beat. -/
def beatByte (d : BeatData) (k : Nat) : Byte := BitVec.ofNat 8 (d.toNat / 256 ^ k % 256)

theorem beatBytes_eq (d : BeatData) : beatBytes d = (List.range 8).map (beatByte d) := by
  refine List.ext_getElem (by simp [beatBytes]) fun k h1 h2 => BitVec.eq_of_toNat_eq ?_
  have hk : k < 8 := by simpa using h2
  have hbyte : ((beatBytes d).getD k 0).toNat = d.toNat / 256 ^ k % 256 := leNat_getD hk
  rw [List.getD_eq_getElem _ _ h1] at hbyte
  rw [List.getElem_map, List.getElem_range, beatByte, BitVec.toNat_ofNat, Nat.mod_mod]
  exact hbyte

/-- What byte `k` of a drawn beat becomes: a Y at an even byte, a Cb or a Cr at an odd one (R23, R123). -/
def drawnByte (snap : Snapshot) (list : List Element) (p q k : Nat) (was : Byte) : Byte :=
  if k % 2 = 0 then drawLuma snap list (p + k / 2) q was
  else drawChroma snap list (p + 2 * (k / 4)) q (k % 4 == 1) was

theorem drawBeat_eq (snap : Snapshot) (list : List Element) (p q : Nat) (d : BeatData) : drawBeat snap list p q d =
    beatOfBytes ((List.range 8).map fun k => drawnByte snap list p q k (beatByte d k)) := by
  unfold drawBeat
  rw [beatBytes_eq]
  simp only [drawPair_eq]
  rfl

theorem drawBeat_byte (snap : Snapshot) (list : List Element) (p q : Nat) (d : BeatData) {k : Nat} (hk : k < 8) :
    (drawBeat snap list p q d).toNat / 256 ^ k % 256 = (drawnByte snap list p q k (beatByte d k)).toNat := by
  rw [drawBeat_eq, beatOfBytes_byte (by simp), List.getD_eq_getElem _ _ (by simpa using hk)]
  simp

/-- Each beat is drawn at its own pixels (R109). -/
theorem drawBeats_getElem? (snap : Snapshot) (list : List Element) (g : Geometry) (o : Nat) (beats : List BeatData) (i : Nat) :
    (drawBeats snap list g o beats)[i]? = beats[i]?.map
      (drawBeat snap list ((o + 8 * i) % g.pitch / 2 - g.marginX) ((o + 8 * i) / g.pitch - g.marginY)) := by
  induction beats generalizing o i with
  | nil => rfl
  | cons d ds ih =>
    cases i with
    | zero => rfl
    | succ i =>
      rw [drawBeats, List.getElem?_cons_succ, List.getElem?_cons_succ, ih, Nat.mul_succ, Nat.add_right_comm, Nat.add_assoc]

end Sys2Proof.Machine

namespace Sys2Proof.Proofs

open Sys2Proof Sys2Proof.Machine

/-- Settles O47: a byte of a drawn beat is the Y, the Cb or the Cr of its pixel, each as the pixel's topmost element has it. -/
theorem overlayDraws : Obligations.OverlayDraws := by
  intro snap list g o beats
  refine ⟨drawBeats_length .., fun i k was hw hk => ?_⟩
  intro p0 q byte returned zebra bright topmost bare becomes colour
  have hdrawn : ∀ {v : Byte}, drawnByte snap list p0 q k returned = v → becomes v := fun {v} hv =>
    ⟨_, by rw [drawBeats_getElem?, hw]; rfl, (drawBeat_byte snap list p0 q was hk).trans (congrArg BitVec.toNat hv)⟩
  have htop : ∀ {p e}, topmost p e → Machine.topmost snap list p q = some e := fun ⟨_, _, hl, he, hb⟩ =>
    topmost_of_last hl he hb
  have hbright := snap.zebra.bright_iff returned
  refine ⟨fun heven => ?_, fun hodd => ?_⟩
  · intro p
    have hluma : drawnByte snap list p0 q k returned = drawLuma snap list p q returned := if_pos heven
    refine ⟨fun e he => hdrawn (hluma.trans (drawLuma_of_topmost (htop he))), fun hb hz hp => hdrawn ?_,
      fun hb hn => hdrawn ?_⟩
    · rw [hluma, drawLuma_of_bare (topmost_of_bare hb), if_pos ⟨hbright.2 hz, hp⟩]
    · rw [hluma, drawLuma_of_bare (topmost_of_bare hb), if_neg fun ⟨hz, hp⟩ => hn ⟨hbright.1 hz, hp⟩]
  · intro p
    have hchroma : drawnByte snap list p0 q k returned = drawChroma snap list p q (k % 4 == 1) returned :=
      if_neg (by omega)
    refine ⟨fun e he => hdrawn ?_, fun hb => hdrawn ?_⟩
    · simp only [hchroma, drawChroma, htop he, beq_iff_eq]
      rfl
    · simp only [hchroma, drawChroma, topmost_of_bare hb]

end Sys2Proof.Proofs
end

section
/-! SUPPORT. What every frame mark does, a capture's and a substitute's alike: the previous cycle settled, the demands, the
stabiliser's shares, and the cycle opened (R29, R53, R55, R56, R66, R98 to R103). -/

namespace Sys2Proof.Machine

/-! ### The previous cycle settled (R55, R56) -/

/-- A cycle whose reply window is open, whose DEMAND waits, or whose live DEMAND is being sent (R56). -/
def cycleOpen (l : LensLink) : Bool :=
  l.link.up && (l.window.isSome || l.waiting.any isDemand || l.sending.any fun f => isDemand f && f.live)

/-- The frame being sent, once the open cycle is missed: a DEMAND that was the cycle opens no window (R56). -/
def cycleSent (l : LensLink) : Option TxFrame :=
  if l.window.isSome || l.waiting.any isDemand then l.sending else l.sending.map TxFrame.over

theorem getD_map_eq_any (q : Option TxFrame) : (q.map isDemand).getD false = q.any isDemand := by
  cases q <;> rfl

/-- The settling misses the open cycle (R56). -/
theorem settleCycle_eq (s : State) : settleCycle s = if cycleOpen s.lens then
    missCycle { s with lens := { s.lens with sending := cycleSent s.lens } } else s := by
  unfold settleCycle cycleOpen cycleSent
  rw [getD_map_eq_any]
  cases s.lens.link.up with
  | false => rfl
  | true =>
    cases s.lens.window.isSome with
    | true => rfl
    | false =>
      cases s.lens.waiting.any isDemand with
      | true => rfl
      | false =>
        cases s.lens.sending with
        | none => rfl
        | some f => simp

theorem settleCycle_closed {s : State} (h : cycleOpen s.lens = false) : settleCycle s = s := by
  rw [settleCycle_eq, h]
  rfl

theorem settleCycle_open {s : State} (h : cycleOpen s.lens = true) :
    settleCycle s = missCycle { s with lens := { s.lens with sending := cycleSent s.lens } } := by
  rw [settleCycle_eq, if_pos h]

/-- In ONLINE the missed cycle degrades the link with LENS_STATE (R55). -/
theorem settleCycle_online {s : State} (ho : cycleOpen s.lens = true) (h : s.lens.link = .online) :
    settleCycle s = raiseEvent (.lensState .degraded (s.lens.miss + 1) false) { s with lens := { s.lens with
      window := none, miss := s.lens.miss + 1, link := .degraded, sending := cycleSent s.lens } } := by
  rw [settleCycle_open ho]
  simp only [missCycle, raiseLensState, h]

/-- In DEGRADED the count grows without an event (R55). -/
theorem settleCycle_counted {s : State} (ho : cycleOpen s.lens = true) (h : s.lens.link = .degraded) (hm : s.lens.miss < 7) :
    settleCycle s = { s with lens := { s.lens with
      window := none, miss := s.lens.miss + 1, sending := cycleSent s.lens } } := by
  rw [settleCycle_open ho]
  simp only [missCycle, h, if_neg (show ¬ s.lens.miss + 1 ≥ 8 by omega)]

/-- The link after the eighth miss (R50). -/
def LensLink.lost (now : Nat) (l : LensLink) : LensLink :=
  { l with
    window := none, miss := 0, link := .seeking, seek := some now, waiting := l.waiting.filter fun f => !isDemand f
    sending := (cycleSent l).map fun f => if isDemand f then f.over else f }

/-- The eighth miss goes to SEEKING and is a link loss (R50, R55, R81). -/
theorem settleCycle_lost {s : State} (ho : cycleOpen s.lens = true) (h : s.lens.link = .degraded) (hm : 7 ≤ s.lens.miss) :
    settleCycle s = linkLoss (raiseEvent (.lensState .seeking 0 false) { s with lens := s.lens.lost s.now }) := by
  rw [settleCycle_open ho]
  simp only [missCycle, h, if_pos (show s.lens.miss + 1 ≥ 8 by omega)]
  rfl

/-- A cycle is open in ONLINE or DEGRADED alone. -/
theorem link_of_cycleOpen {l : LensLink} (h : cycleOpen l = true) : l.link = .online ∨ l.link = .degraded := by
  unfold cycleOpen at h
  cases hl : l.link <;> simp_all [LinkState.up]

/-- The settling keeps what the lens has told. -/
theorem settleCycle_told (s : State) : (settleCycle s).lens.identity = s.lens.identity
    ∧ (settleCycle s).lens.position = s.lens.position ∧ (settleCycle s).lens.focal = s.lens.focal := by
  cases ho : cycleOpen s.lens with
  | false => simp [settleCycle_closed ho]
  | true =>
    rcases link_of_cycleOpen ho with hl | hl
    · simp [settleCycle_online ho hl]
    · rcases Nat.lt_or_ge s.lens.miss 7 with hm | hm
      · simp [settleCycle_counted ho hl hm]
      · simp [settleCycle_lost ho hl hm, LensLink.lost]

theorem cycleOpen_eq_false_iff {s : State} (hu : s.lens.link.up = true) : cycleOpen s.lens = false ↔ NoCycleOpen s := by
  unfold cycleOpen NoCycleOpen
  rw [hu]
  cases s.lens.window <;> cases s.lens.waiting <;> cases s.lens.sending <;> simp

/-- With one DEMAND a cycle, a missed cycle leaves any DEMAND being sent to open no window (R53, R56). -/
theorem cycleSent_eq {s : State} (h : LensInv s) (ho : cycleOpen s.lens = true) :
    cycleSent s.lens = s.lens.sending.map fun f => if f.kind = .demand then { f with live := false } else f := by
  obtain ⟨-, -, -, -, -, hwindow, hsending, -, -⟩ := h
  unfold cycleSent
  cases hs : s.lens.sending with
  | none => simp
  | some f =>
    have hkind : isDemand f = true ↔ f.kind = .demand := by simp [isDemand]
    by_cases hk : (s.lens.window.isSome || s.lens.waiting.any isDemand) = true
    · have hdead : f.kind = .demand → f.live = false := fun hd => by
        rcases Bool.or_eq_true_iff.1 hk with hw | hq
        · exact (hwindow hw).2 f hs (hkind.2 hd)
        · obtain ⟨g, hg, hgd⟩ := (Option.any_eq_true ..).1 hq
          by_contra hl
          exact absurd hgd (by simp [hsending f g hs (hkind.2 hd) (by simpa using hl) hg])
      rw [if_pos hk, Option.map_some]
      by_cases hd : f.kind = .demand
      · rw [if_pos hd, ← hdead hd]
      · rw [if_neg hd]
    · have hlive : isDemand f = true := by
        unfold cycleOpen at ho
        simp_all
      rw [if_neg hk, Option.map_some, Option.map_some, if_pos (hkind.1 hlive)]
      rfl

/-! ### The stabiliser's shares (R98 to R103) -/

/-- Stages 1 to 3 for one axis: the displacement, and the optical share of it (R99, R100). -/
def StabAxis.shared (active : Bool) (focal pitch shift : Nat) (a : StabAxis) : StabAxis :=
  { a with
    corr16 := displacement focal pitch a
    o16 := if active then clampInt (-(opticalRange pitch shift)) (opticalRange pitch shift) (displacement focal pitch a) else 0 }

/-- Both axes after stages 1 to 3. -/
def sharedX (s : State) : StabAxis :=
  s.stab.x.shared (opticalActive s) s.lens.focal s.stab.pixelPitch (shiftRanges s.lens.identity).1

def sharedY (s : State) : StabAxis :=
  s.stab.y.shared (opticalActive s) s.lens.focal s.stab.pixelPitch (shiftRanges s.lens.identity).2

/-- A substitute mark stops after stage 3 (R98). -/
theorem stabMark_none_stab (s : State) :
    (stabMark none s).1.stab = { s.stab with x := sharedX s, y := sharedY s } := rfl

/-- Stages 4 and 5 at a capture mark: the actual shift, and the share left to the crop (R101). -/
theorem stabMark_some_stab (mx my : Nat) (s : State) :
    (stabMark (some (mx, my)) s).1.stab = { s.stab with
      x := { sharedX s with
        a16 := actualShift s (·.shiftX)
        e16 := (electronicShare s.stab.mode (sharedX s).corr16 (actualShift s (·.shiftX)) mx).1 }
      y := { sharedY s with
        a16 := actualShift s (·.shiftY)
        e16 := (electronicShare s.stab.mode (sharedY s).corr16 (actualShift s (·.shiftY)) my).1 } } := rfl

/-- Stage 6: the correction that the new record latches (R102). -/
theorem stabMark_some_crop (mx my : Nat) (s : State) :
    let ex := electronicShare s.stab.mode (sharedX s).corr16 (actualShift s (·.shiftX)) mx
    let ey := electronicShare s.stab.mode (sharedY s).corr16 (actualShift s (·.shiftY)) my
    let c := (stabMark (some (mx, my)) s).2
    c.dx = 4 * roundDiv ex.1 64 ∧ c.dy = roundDiv ey.1 16 ∧ c.limited = (ex.2 || ey.2) := ⟨rfl, rfl, rfl⟩

/-- Stage 5's clamp acts when the share is not what the optics leave (R101). -/
theorem electronicShare_acted (mode : StabMode) (corr a16 : Int) (margin : Nat) :
    (mode != .off && (electronicShare mode corr a16 margin).1 != corr - a16) = (electronicShare mode corr a16 margin).2 := by
  unfold electronicShare
  by_cases h : mode = .off
  · rw [if_pos h, h]
    rfl
  · rw [if_neg h, bne_iff_ne.2 h, Bool.true_and]

theorem stabMark_acted (mx my : Nat) (s : State) :
    let r := stabMark (some (mx, my)) s
    let acted := fun a : StabAxis => r.1.stab.mode != .off && a.e16 != a.corr16 - a.a16
    acted r.1.stab.x = r.2.limitedX ∧ acted r.1.stab.y = r.2.limitedY :=
  ⟨electronicShare_acted .., electronicShare_acted ..⟩

theorem stabMark_enable (m : Option (Nat × Nat)) (s : State) : (stabMark m s).2.enable = opticalActive s := by
  rcases m with _ | ⟨mx, my⟩ <;> rfl

/-- The optical demands are the optical shares in micrometres, 0 while the path is inactive (R100). -/
theorem stabMark_demands (m : Option (Nat × Nat)) (s : State) :
    (stabMark m s).2.demandX = roundDiv ((stabMark m s).1.stab.x.o16 * s.stab.pixelPitch) 16000
      ∧ (stabMark m s).2.demandY = roundDiv ((stabMark m s).1.stab.y.o16 * s.stab.pixelPitch) 16000 := by
  have hzero : roundDiv (0 * (s.stab.pixelPitch : Int)) 16000 = 0 := by rw [Int.zero_mul]; rfl
  rcases m with _ | ⟨mx, my⟩ <;> unfold stabMark <;> dsimp only <;> split <;> simp only [hzero, and_self]

/-! ### The blocks of a mark (R29) -/

/-- `t` is the mark that `s` makes: `u` has the tracker's part begun, `v` the first blocks' work and a capture's record. -/
structure MarkFrom (m : Option (Nat × Nat)) (capture : Option CaptureRecord) (s u v t : State) : Prop where
  begun : u = { s with now := u.now, frame := u.frame, report := u.report }
  worked : v = { (markDemands m u).1 with
    frame := v.frame, report := v.report, stab := { (markDemands m u).1.stab with limited := v.stab.limited } }
  made : t = markRest s capture (markDemands m u).2 v
  grows : ReportsGrow (markDemands m u).1.report v.report

theorem substituteBeat_begun (s : State) :
    substituteBeat s = { s with frame := (substituteBeat s).frame, report := (substituteBeat s).report } := by
  unfold substituteBeat
  dsimp only
  split
  · rw [raiseEvent_eq]
  · rfl

theorem captureBeat_begun (s : State) :
    captureBeat s = { s with frame := (captureBeat s).frame, report := (captureBeat s).report } := by
  rw [captureBeat_eq]
  cases s.frame.tracker with
  | locked => rfl
  | freeWheel => simp only [raiseEvent_eq]; rfl

theorem abandonCapture_begun (s : State) :
    abandonCapture s = { s with frame := (abandonCapture s).frame, report := (abandonCapture s).report } := by
  unfold abandonCapture
  split
  · rw [raiseEvent_eq]
  · rfl

theorem latchLimited_eq (q : Half) (c : Correction) (s : State) : latchLimited q c s = { s with
    report := (latchLimited q c s).report, stab := { s.stab with limited := c.limited } } := by
  unfold latchLimited
  dsimp only
  split
  · rw [raiseEvent_eq]
  · rfl

/-- A substitute mark, at the timer's expiry (R30). -/
theorem timerExpiry_marks (s : State) :
    MarkFrom none none s (substituteBeat (reachTime s.frame.expiry s))
      (markDemands none (substituteBeat (reachTime s.frame.expiry s))).1 (timerExpiry s) := by
  have hmade : timerExpiry s = markRest s none (markDemands none (substituteBeat (reachTime s.frame.expiry s))).2
    (markDemands none (substituteBeat (reachTime s.frame.expiry s))).1 := rfl
  have hb := substituteBeat_begun (reachTime s.frame.expiry s)
  generalize substituteBeat (reachTime s.frame.expiry s) = u at hb hmade ⊢
  refine ⟨?_, ?_, hmade, .refl _⟩
  · rw [hb]
    rfl
  · generalize (markDemands none u).1 = v
    rfl

/-- The correction that a capture start computes. -/
def captureCorrection (g : Geometry) (s : State) : Correction :=
  (markDemands (some (g.marginX, g.marginY)) (captureBeat (abandonCapture s))).2

/-- A capture start's state after the first blocks' work, with the record appended and the flag latched. -/
def captureLatched (g : Geometry) (b : Nat) (s : State) : State :=
  latchLimited s.frame.nextSeq (captureCorrection g s) (appendCapture (newCapture s b (captureCorrection g s))
    (markDemands (some (g.marginX, g.marginY)) (captureBeat (abandonCapture s))).1)

theorem captureBegins (s : State) : captureBeat (abandonCapture s) = { s with
    now := (captureBeat (abandonCapture s)).now, frame := (captureBeat (abandonCapture s)).frame
    report := (captureBeat (abandonCapture s)).report } := by
  have ha := abandonCapture_begun s
  have hb := captureBeat_begun (abandonCapture s)
  generalize captureBeat (abandonCapture s) = u at hb ⊢
  generalize abandonCapture s = w at ha hb
  rw [hb, ha]

theorem latched_eq (q : Half) (c : Correction) (r : CaptureRecord) (w : State) :
    latchLimited q c (appendCapture r w) = { w with
      frame := (latchLimited q c (appendCapture r w)).frame, report := (latchLimited q c (appendCapture r w)).report
      stab := { w.stab with limited := (latchLimited q c (appendCapture r w)).stab.limited } } := by
  rw [latchLimited_eq]
  rfl

theorem captureLatched_limited (g : Geometry) (b : Nat) (s : State) :
    (captureLatched g b s).stab.limited = (captureCorrection g s).limited := by
  rw [captureLatched, latchLimited_eq]

/-- The mark of a capture start (R25). -/
theorem captureStart_marks (g : Geometry) (b : Nat) (s : State) :
    MarkFrom (some (g.marginX, g.marginY)) (some (newCapture s b (captureCorrection g s))) s
      (captureBeat (abandonCapture s)) (captureLatched g b s) (captureStart g b s) := by
  refine ⟨captureBegins s, ?_, ?_, ?_⟩
  · unfold captureLatched
    exact latched_eq ..
  · unfold captureStart captureLatched captureCorrection
    rfl
  · unfold captureLatched
    refine latchLimited_grows ?_
    rw [(appendCapture_frame ..).2.2.2.2.1]
    exact .refl _

/-- The tracker in FREE-WHEEL, the mark at the expiry and the next one nominal period on (R30). -/
def freeWheeled (s : State) : State :=
  { s with frame := { s.frame with
    tracker := .freeWheel, lastMark := s.frame.expiry, expiry := s.frame.expiry + 8 * s.frame.rate.period } }

/-- FRAME_BEAT is raised at a change alone (R31). -/
theorem substituteBeat_eq (s : State) : substituteBeat s = match s.frame.tracker with
    | .locked => raiseEvent (.frameBeat .freeWheel none) (freeWheeled s)
    | .freeWheel => freeWheeled s := by
  unfold substituteBeat
  cases s.frame.tracker <;> rfl

theorem substituteBeat_tracked (s : State) : (substituteBeat s).frame = (freeWheeled s).frame := by
  rw [substituteBeat_eq]
  cases s.frame.tracker <;> simp

/-- What a substitute mark leaves in the frame tracker (R29, R30). -/
theorem timerExpiry_tracked (s : State) : (timerExpiry s).frame = { s.frame with
    tracker := .freeWheel, lastMark := s.frame.expiry, expiry := s.frame.expiry + 8 * s.frame.rate.period
    timecode := s.frame.timecode.advance s.frame.rate s.frame.dropFrame } := by
  simp only [timerExpiry, (markRest_tracked ..).1, advanceTimecode, (markDemands_frame ..).2.2.2.2.1, substituteBeat_tracked]
  rfl

theorem exec_frameMarkTimerExpiry (s : State) : exec .frameMarkTimerExpiry s = .next (timerExpiry s) := rfl

/-- A frame mark is the one or the other. -/
theorem MarkMade.marks {s t : State} (h : MarkMade s t) : ∃ m capture u v, MarkFrom m capture s u v t := by
  rcases h with h | ⟨g, b, rfl⟩
  · rw [exec_frameMarkTimerExpiry] at h
    injection h with h
    subst h
    exact ⟨_, _, _, _, timerExpiry_marks s⟩
  · exact ⟨_, _, _, _, captureStart_marks g b s⟩

section
variable {m : Option (Nat × Nat)} {capture : Option CaptureRecord} {s u v t : State}

theorem MarkFrom.now_eq (h : MarkFrom m capture s u v t) : t.now = u.now := by
  rw [h.made, (markRest_frame ..).1, h.worked]
  exact (markDemands_frame ..).1

theorem MarkFrom.axis_eq (h : MarkFrom m capture s u v t) : t.axis = (markDemands m u).1.axis := by
  rw [h.made, (markRest_frame ..).2.2.2.1, h.worked]

theorem MarkFrom.stab_eq (h : MarkFrom m capture s u v t) :
    t.stab = { (markDemands m u).1.stab with limited := v.stab.limited } := by
  have hs : t.stab = v.stab := by rw [h.made]; exact (markRest_frame ..).2.2.2.2.2.2.1
  rw [hs, h.worked]

theorem markDemands_lens (m : Option (Nat × Nat)) (s : State) : (markDemands m s).1.lens = (settleCycle s).lens := by
  simp [markDemands]

theorem MarkFrom.lens_eq (h : MarkFrom m capture s u v t) :
    t.lens = (openCycle (markDemands m u).2 (markDemands m u).1).lens := by
  have hr : t.lens = (openCycle (markDemands m u).2 v).lens := by simp [h.made, markRest]
  rw [hr, h.worked]
  unfold openCycle
  split <;> rfl

theorem openCycle_link (c : Correction) (s : State) : (openCycle c s).lens.link = s.lens.link := by
  unfold openCycle
  split <;> rfl

/-- The link that the stabiliser reads is the one the settling leaves (log entry 41). -/
theorem MarkFrom.link_eq (h : MarkFrom m capture s u v t) : t.lens.link = (settleCycle u).lens.link := by
  rw [h.lens_eq, openCycle_link, markDemands_lens]

/-- What the stabiliser reads at a mark: its own state as it stood, and the lens link after the settling (log entry 41). -/
theorem MarkFrom.reads (h : MarkFrom m capture s u v t) :
    (demandOperation (settleCycle u)).stab = s.stab
      ∧ (demandOperation (settleCycle u)).lens.link = t.lens.link
      ∧ (demandOperation (settleCycle u)).lens.identity = s.lens.identity
      ∧ (demandOperation (settleCycle u)).lens.position = s.lens.position
      ∧ (demandOperation (settleCycle u)).lens.focal = s.lens.focal := by
  have hlens : u.lens = s.lens := by rw [h.begun]
  have hstab : u.stab = s.stab := by rw [h.begun]
  have htold := settleCycle_told u
  rw [hlens] at htold
  rw [(demandOperation_frame _).2.2.2.2.2.1]
  exact ⟨by simp [hstab], h.link_eq.symm, htold.1, htold.2.1, htold.2.2⟩

end

/-- The optical path of a state of this stabiliser, link and identity (R100). -/
def opticalPath (st : Stabiliser) (up : Bool) (i : Option Identity) : Bool :=
  st.mode == .hybrid && st.optical && up && i.any fun x => x.shiftX != 0 || x.shiftY != 0

theorem opticalActive_eq (s : State) : opticalActive s = opticalPath s.stab s.lens.link.up s.lens.identity := by
  unfold opticalActive opticalPath
  cases s.lens.identity <;> rfl

theorem shiftRanges_eq (i : Option Identity) : shiftRanges i = ((i.map (·.shiftX)).getD 0, (i.map (·.shiftY)).getD 0) := by
  cases i <;> rfl

theorem displacement_eq (focal pitch : Nat) (a : StabAxis) : displacement focal pitch a =
    (if a.settings.negative then (-1 : Int) else 1) * roundDiv (a.acc * focal) (16000 * pitch) := by
  unfold displacement
  cases a.settings.negative <;> simp

theorem actualShift_eq (s : State) (shift : Position → Int) : actualShift s shift =
    match (if s.lens.link.up then s.lens.position else none) with
    | some q => if s.stab.mode = .off then 0 else roundDiv (shift q * 16000) s.stab.pixelPitch
    | none => 0 := by
  unfold actualShift operatorInputs
  split <;> split <;> simp_all

/-- The shares of a mark, from the stabiliser and the lens's own state before it and the link after the settling. -/
theorem MarkFrom.shared {m : Option (Nat × Nat)} {capture : Option CaptureRecord} {s u v t : State}
    (h : MarkFrom m capture s u v t) :
    let active := opticalPath s.stab t.lens.link.up s.lens.identity
    let i := s.lens.identity
    sharedX (demandOperation (settleCycle u)) =
        s.stab.x.shared active s.lens.focal s.stab.pixelPitch ((i.map (·.shiftX)).getD 0)
      ∧ sharedY (demandOperation (settleCycle u)) =
        s.stab.y.shared active s.lens.focal s.stab.pixelPitch ((i.map (·.shiftY)).getD 0) := by
  obtain ⟨hstab, hlink, hident, -, hfocal⟩ := h.reads
  simp only [sharedX, sharedY, opticalActive_eq, hstab, hlink, hident, hfocal, shiftRanges_eq, and_self]

end Sys2Proof.Machine
end

section
/-! SUPPORT. The occurrences of a frame mark, block by block (R25, R31, R40, R49, R55, R70, R71, R75, R78, R83, R103, R146). -/

namespace Sys2Proof.Machine

/-! ### Occurrences one after another (R199) -/

/-- From `s` to `t` these occurrences, one after another, are all that the report unit has seen. -/
def Raises (s : State) (events : List EventPayload) (t : State) : Prop :=
  t.path.windows = s.path.windows ∧ t.report = events.foldl (fun u p => reportRaised p s.path.windows u) s.report

section
variable {s t u : State} {before behind : List EventPayload}

theorem Raises.none (hp : t.path.windows = s.path.windows) (hr : t.report = s.report) : Raises s [] t := ⟨hp, hr⟩

theorem Raises.trans (h : Raises s before t) (k : Raises t behind u) : Raises s (before ++ behind) u := by
  refine ⟨k.1.trans h.1, ?_⟩
  rw [k.2, h.1, h.2, List.foldl_append]

/-- A change of other blocks raises nothing. -/
theorem Raises.then (h : Raises s before t) (hp : u.path.windows = t.path.windows) (hr : u.report = t.report) :
    Raises s before u := ⟨hp.trans h.1, hr.trans h.2⟩

theorem Raises.after (h : Raises t before u) (hp : t.path.windows = s.path.windows) (hr : t.report = s.report) :
    Raises s before u := ⟨h.1.trans hp, by rw [h.2, hp, hr]⟩

end

theorem raiseEvent_raises (p : EventPayload) (s : State) : Raises s [p] (raiseEvent p s) := by
  rw [raiseEvent_eq]
  exact ⟨rfl, rfl⟩

theorem raiseAll_raises (events : List EventPayload) (s : State) : Raises s events (raiseAll events s) := by
  induction events generalizing s with
  | nil => exact .none rfl rfl
  | cons p events ih => exact (raiseEvent_raises p s).trans (ih _)

theorem foldl_raises (events : List EventPayload) (s : State) :
    Raises s events (events.foldl (fun x e => raiseEvent e x) s) := by
  induction events generalizing s with
  | nil => exact .none rfl rfl
  | cons p events ih => exact (raiseEvent_raises p s).trans (ih _)

/-- The report unit is what the occurrences leave there. -/
theorem Raises.report {s t : State} {events : List EventPayload} (h : Raises s events t) :
    t.report = (events.foldl (fun x e => raiseEvent e x) s).report := by
  rw [h.2, (foldl_raises events s).2]

theorem raiseEvent_events_length (p : EventPayload) (s : State) :
    (raiseEvent p s).report.events.length = s.report.events.length := by
  obtain ⟨-, he | he⟩ := raiseEvent_report p s <;> simp [he]

/-- A kind that occurs is pending. -/
theorem raiseEvent_own_pending (p : EventPayload) {s : State} (hl : s.report.events.length = 25) :
    ((raiseEvent p s).report.events.getD (p.kind.number - 1) ⟨false, true, 0⟩).pending = true := by
  have hi : p.kind.number - 1 < 25 := by cases p.kind <;> decide
  have hown : ((s.report.events.modify (p.kind.number - 1) EventEntry.occurred).getD (p.kind.number - 1)
      ⟨false, true, 0⟩).pending = true := by
    rw [List.getD_eq_getElem?_getD, List.getElem?_modify_eq, getElem?_of_length hl hi]
    rfl
  obtain ⟨-, he | he⟩ := raiseEvent_report p s <;> rw [he]
  · exact hown
  · exact pending_of_modify _ hown

theorem foldl_raiseEvent_pending {i : Nat} (events : List EventPayload) {s : State}
    (h : (s.report.events.getD i ⟨false, true, 0⟩).pending = true) :
    ((events.foldl (fun x e => raiseEvent e x) s).report.events.getD i ⟨false, true, 0⟩).pending = true := by
  induction events generalizing s with
  | nil => exact h
  | cons q events ih => exact ih (raiseEvent_pending q h)

/-- A kind among those that have occurred is pending. -/
theorem foldl_raiseEvent_own_pending {events : List EventPayload} {s : State} (hl : s.report.events.length = 25)
    {p : EventPayload} (hp : p ∈ events) :
    ((events.foldl (fun x e => raiseEvent e x) s).report.events.getD (p.kind.number - 1) ⟨false, true, 0⟩).pending = true := by
  induction events generalizing s with
  | nil => cases hp
  | cons q events ih =>
    rcases List.mem_cons.1 hp with rfl | hp
    · exact foldl_raiseEvent_pending events (raiseEvent_own_pending p hl)
    · exact ih ((raiseEvent_events_length q s).trans hl) hp

/-! ### The previous cycle (R49, R55) -/

/-- The eighth miss is reached. -/
def linkLost (l : LensLink) : Bool := cycleOpen l && l.link == .degraded && decide (7 ≤ l.miss)

/-- What the settling raises. -/
def settlingRaises (l : LensLink) : List EventPayload :=
  if cycleOpen l && l.link == .online then [.lensState .degraded (l.miss + 1) false]
  else if linkLost l then [.lensState .seeking 0 false] else []

theorem settleCycle_raises (s : State) : Raises s (settlingRaises s.lens) (settleCycle s) := by
  unfold settlingRaises linkLost
  cases ho : cycleOpen s.lens with
  | false => rw [settleCycle_closed ho]; exact .none rfl rfl
  | true =>
    rcases link_of_cycleOpen ho with hl | hl
    · rw [settleCycle_online ho hl, hl]
      exact (raiseEvent_raises _ _).after rfl rfl
    · rcases Nat.lt_or_ge s.lens.miss 7 with hm | hm
      · rw [settleCycle_counted ho hl hm, hl, decide_eq_false (Nat.not_le.2 hm)]
        exact .none rfl rfl
      · rw [settleCycle_lost ho hl hm, hl, decide_eq_true hm]
        exact ((raiseEvent_raises _ _).then rfl rfl).after rfl rfl

/-- The link loss holds every engine that drives an axis (R81). -/
theorem settleCycle_engine (s : State) (id : EngineId) : (settleCycle s).engines.get id =
    if linkLost s.lens && (boundAxis s.axis id).isSome then { s.engines.get id with state := .held } else s.engines.get id := by
  unfold linkLost
  cases ho : cycleOpen s.lens with
  | false => rw [settleCycle_closed ho]; rfl
  | true =>
    rcases link_of_cycleOpen ho with hl | hl
    · simp [settleCycle_online ho hl, hl]
    · rcases Nat.lt_or_ge s.lens.miss 7 with hm | hm
      · simp [settleCycle_counted ho hl hm, hm]
      · rw [settleCycle_lost ho hl hm, hl, decide_eq_true hm, raiseEvent_eq]
        cases id <;> rfl

/-! ### The takeovers (R70, R71) -/

/-- What taking an axis over raises: the engine that drove it is preempted. -/
def takeoverRaises (a : Axis) (s : State) : List EventPayload :=
  match (s.axis.get a).source with
  | .engine id => [.enginePreempted id a ((s.engines.get id).move.map InProgress.kind)]
  | _ => []

theorem takeOver_raises (a : Axis) (new : Source) (s : State) : Raises s (takeoverRaises a s) (takeOver a new s) := by
  unfold takeOver takeoverRaises
  dsimp only
  cases (s.axis.get a).source with
  | engine id => exact (raiseEvent_raises _ _).after rfl rfl
  | _ => exact .none rfl rfl

theorem takeOver_engine (a : Axis) (new : Source) (s : State) (id : EngineId) : (takeOver a new s).engines.get id =
    if (s.axis.get a).source = .engine id then { s.engines.get id with move := none, state := .held }
    else s.engines.get id := by
  unfold takeOver
  dsimp only
  cases hs : (s.axis.get a).source with
  | engine other =>
    rw [(raiseEvent_frame _ _).2.2.2.2.2.2.2.1]
    by_cases h : id = other
    · subst h
      simp
    · rw [MoveEngines.get_set_other _ _ h, if_neg (by simpa using Ne.symm h)]
  | _ => rfl

theorem takeOver_axis (a : Axis) (new : Source) (s : State) :
    (takeOver a new s).axis = s.axis.set a { s.axis.get a with source := new } := by
  unfold takeOver
  dsimp only
  cases (s.axis.get a).source with
  | engine id => simp
  | _ => rfl

/-- Zoom is taken over at this mark (R70). -/
def zoomTakes (s : State) : Bool :=
  s.axis.zoomTakeover && s.axis.zoom.source.takeable && decide (s.axis.deadband < (rockerOf s).natAbs)

/-- Focus is taken over at this mark (R70). -/
def focusTakes (s : State) : Bool := s.axis.focusTakeover && s.axis.focus.source.takeable && wheelMoved s

/-- The wheel reference follows the wheel (R70). -/
def wheelFollowed (s : State) : State := { s with axis := { s.axis with wheelRef := (wheelOf s).or s.axis.wheelRef } }

theorem zoomTakeover_eq (s : State) : zoomTakeover s = if zoomTakes s then takeOver .zoom .rocker s else s := rfl

theorem focusTakeover_eq (s : State) :
    focusTakeover s = if focusTakes s then takeOver .focus .wheel (wheelFollowed s) else wheelFollowed s := by
  unfold focusTakeover focusTakes wheelFollowed
  cases wheelOf s <;> rfl

/-- Taking zoom over leaves what the focus test reads. -/
theorem focusTakes_zoomTakeover (s : State) : focusTakes (zoomTakeover s) = focusTakes s
    ∧ (zoomTakeover s).axis.focus = s.axis.focus := by
  have hlens : (zoomTakeover s).lens = s.lens := by simp
  have haxis : (zoomTakeover s).axis = { s.axis with zoom := (zoomTakeover s).axis.zoom } := by
    rw [zoomTakeover_eq]
    split
    · rw [takeOver_axis]
      rfl
    · rfl
  refine ⟨?_, by rw [haxis]⟩
  simp only [focusTakes, wheelMoved, wheelOf, operatorInputs, hlens]
  rw [haxis]

/-- An engine has its axis taken over. -/
def preempted (s : State) (id : EngineId) : Bool :=
  (zoomTakes s && s.axis.zoom.source == .engine id) || (focusTakes s && s.axis.focus.source == .engine id)

/-- What the takeovers raise, zoom first (log entry 45). -/
def takeoversRaise (s : State) : List EventPayload :=
  (if zoomTakes s then takeoverRaises .zoom s else [])
    ++ (if focusTakes s then takeoverRaises .focus (zoomTakeover s) else [])

theorem takeovers_raise (s : State) : Raises s (takeoversRaise s) (focusTakeover (zoomTakeover s)) := by
  have hzoom : Raises s (if zoomTakes s then takeoverRaises .zoom s else []) (zoomTakeover s) := by
    rw [zoomTakeover_eq]
    split
    · exact takeOver_raises ..
    · exact .none rfl rfl
  refine hzoom.trans ?_
  rw [focusTakeover_eq, (focusTakes_zoomTakeover s).1]
  split
  · exact (takeOver_raises .focus .wheel (wheelFollowed (zoomTakeover s))).after rfl rfl
  · exact .none rfl rfl

theorem zoomTakeover_engine (s : State) (id : EngineId) : (zoomTakeover s).engines.get id =
    if (zoomTakes s && s.axis.zoom.source == .engine id) = true then { s.engines.get id with move := none, state := .held }
    else s.engines.get id := by
  rw [zoomTakeover_eq]
  cases zoomTakes s with
  | false => rfl
  | true =>
    simp only [Bool.true_and, beq_iff_eq]
    exact takeOver_engine .zoom .rocker s id

theorem focusTakeover_engine (s : State) (id : EngineId) : (focusTakeover s).engines.get id =
    if (focusTakes s && s.axis.focus.source == .engine id) = true then { s.engines.get id with move := none, state := .held }
    else s.engines.get id := by
  rw [focusTakeover_eq]
  cases focusTakes s with
  | false => rfl
  | true =>
    simp only [Bool.true_and, beq_iff_eq]
    exact takeOver_engine .focus .wheel (wheelFollowed s) id

/-- An engine whose axis is taken over is HELD without a move, any other is left (R71). -/
theorem takeovers_engine (s : State) (id : EngineId) : (focusTakeover (zoomTakeover s)).engines.get id =
    if preempted s id then { s.engines.get id with move := none, state := .held } else s.engines.get id := by
  obtain ⟨htakes, hfocus⟩ := focusTakes_zoomTakeover s
  rw [focusTakeover_engine, zoomTakeover_engine, htakes, hfocus, preempted]
  cases (zoomTakes s && s.axis.zoom.source == .engine id) <;>
    cases (focusTakes s && s.axis.focus.source == .engine id) <;> rfl

/-! ### The engines (R66, R75 to R78) -/

/-- A move that an engine in RUN passes at once (R75). -/
def Move.passes : Move → Bool
  | .signal _ => true
  | .mark _ => true
  | _ => false

/-- What passing a move raises (R78, R83). -/
def Move.raised (id : EngineId) : Move → Option EventPayload
  | .mark v => some (.engineMark id v)
  | _ => none

/-- In RUN the moves passed raise their marks, and the end of the queue ENGINE_DONE (R75). -/
theorem takeRun_raised (id : EngineId) (range : Option (Nat × Nat)) (g : Engine) (queue : List Move) :
    (takeRun id range g queue).events = (queue.takeWhile Move.passes).filterMap (Move.raised id)
      ++ if (queue.takeWhile Move.passes).length = queue.length then [.engineDone id .idle] else [] := by
  induction queue with
  | nil => rfl
  | cons m queue ih =>
    cases m with
    | signal set =>
      rw [List.takeWhile_cons_of_pos rfl, List.filterMap_cons_none rfl]
      simp [takeRun, ih]
    | mark v =>
      rw [List.takeWhile_cons_of_pos rfl]
      simp [takeRun, ih, Move.raised]
    | _ => simp [takeRun, Move.passes]

/-- The move in progress completes at this mark (R76, R77, R78). -/
def Engine.finishes (g : Engine) : Bool :=
  match g.state, g.move with
  | .ramping, some (.ramp _ _ n _ k) => decide (n ≤ k + 1)
  | .dwelling, some (.dwell n k) => decide (n ≤ k + 1)
  | .waiting, some (.wait set) => g.received &&& set == set
  | _, _ => false

/-- What a completed move raises (R75). -/
def Engine.completionRaises (id : EngineId) (g : Engine) : List EventPayload :=
  match g.mode with
  | .step => [.engineDone id .held]
  | .run => (g.queue.takeWhile Move.passes).filterMap (Move.raised id)
      ++ if (g.queue.takeWhile Move.passes).length = g.queue.length then [.engineDone id .idle] else []

/-- What an engine raises at a mark. -/
def Engine.markRaises (id : EngineId) (g : Engine) : List EventPayload :=
  if g.finishes then g.completionRaises id else []

theorem completeMove_raised (id : EngineId) (range : Option (Nat × Nat)) (g : Engine) :
    (completeMove id range g).events = g.completionRaises id := by
  unfold completeMove Engine.completionRaises
  cases g.mode with
  | run => exact takeRun_raised ..
  | step => rfl

/-- A RAMPING or DWELLING engine raises what its completion does (R76, R77). -/
theorem advanceEngine_raised (id : EngineId) (range : Option (Nat × Nat)) {g : Engine} (h : g.state ≠ .waiting) :
    (advanceEngine id range g).events = g.markRaises id := by
  unfold advanceEngine Engine.markRaises Engine.finishes
  split
  next start target n shape k hs hm =>
    by_cases hn : n ≤ k + 1
    · simp only [ge_iff_le, hn, if_true, completeMove_raised, hs, hm, decide_true]
      rfl
    · simp only [ge_iff_le, hn, if_false, hs, hm, decide_false, Bool.false_eq_true]
  next n k hs hm =>
    by_cases hn : n ≤ k + 1
    · simp only [ge_iff_le, hn, if_true, completeMove_raised, hs, hm, decide_true]
      rfl
    · simp only [ge_iff_le, hn, if_false, hs, hm, decide_false, Bool.false_eq_true]
  next hramp hdwell =>
    split
    next start target n shape k hs hm => exact absurd hm (hramp _ _ _ _ _ hs)
    next n k hs hm => exact absurd hm (hdwell _ _ hs)
    next hs _ => exact absurd hs h
    next => rfl

/-- A WAITING engine raises what its completion does (R78). -/
theorem testWait_raised (id : EngineId) (range : Option (Nat × Nat)) {g : Engine} (h : g.state = .waiting) :
    (testWait id range g).events = g.markRaises id := by
  unfold testWait Engine.markRaises Engine.finishes
  rw [h]
  split
  next set _ hm =>
    by_cases hr : g.received &&& set = set
    · simp only [hr, if_true, completeMove_raised, hm, beq_self_eq_true]
      rfl
    · simp only [hr, if_false, hm, beq_iff_eq]
  next hother =>
    split
    next hs _ => cases hs
    next hs _ => cases hs
    next hm => exact absurd hm (hother _ rfl)
    next => rfl

/-- A HELD engine raises nothing. -/
theorem markRaises_held (id : EngineId) {g : Engine} (h : g.state = .held) : g.markRaises id = [] := by
  unfold Engine.markRaises Engine.finishes
  rw [h]
  rfl

theorem flatMap_filter {α β : Type} (p : α → Bool) (f : α → List β) (l : List α) :
    (l.filter p).flatMap f = l.flatMap fun x => if p x then f x else [] := by
  induction l with
  | nil => rfl
  | cons x l ih => cases hp : p x <;> simp [hp, ih]

/-- The three engines, in their order (log entry 38). -/
def engineIds : List EngineId := [.e1, .e2, .e3]

/-- Stage 2's occurrences come ahead of stage 3's, engine 1 first in each (R66, log entry 38). -/
theorem engineStages_raises (waits : EngineId → Bool) (s : State) : Raises s
    ((engineIds.flatMap fun id => if waits id then [] else (advanceEngine id (engineRange s id) (s.engines.get id)).events)
      ++ engineIds.flatMap fun id => if waits id then (testWait id (engineRange s id) (s.engines.get id)).events else [])
    (engineStages waits s) := by
  have h := raiseAll_raises (advanceAll (engineRange s) waits s.engines).2
    { s with engines := (advanceAll (engineRange s) waits s.engines).1 }
  have hlist : (advanceAll (engineRange s) waits s.engines).2 =
    (engineIds.flatMap fun id => if waits id then [] else (advanceEngine id (engineRange s id) (s.engines.get id)).events)
      ++ engineIds.flatMap fun id => if waits id then (testWait id (engineRange s id) (s.engines.get id)).events else [] := by
    have hstep : ∀ (c : Bool) (a b : EngineStep), (if c then a else b).events = if c then a.events else b.events :=
      fun c a b => by cases c <;> rfl
    simp only [advanceAll, engineIds, List.flatMap_cons, List.flatMap_nil, List.append_nil, hstep, List.append_assoc]
  rw [← hlist]
  exact h.after rfl rfl

theorem testWait_held (id : EngineId) (range : Option (Nat × Nat)) {g : Engine} (h : g.state = .held) :
    (testWait id range g).events = [] := by
  unfold testWait
  rw [h]

/-- The engine waits as the mark arrives. -/
def waits (s : State) (id : EngineId) : Bool := (s.engines.get id).state == .waiting

/-- A mark's engine stages raise what the engines left to go on do: those that wait after the others (R66). -/
theorem demandOperation_raises (s : State) :
    let done := fun id => if preempted s id then [] else (s.engines.get id).markRaises id
    Raises s (takeoversRaise s ++ ((engineIds.flatMap fun id => if waits s id then [] else done id)
      ++ engineIds.flatMap fun id => if waits s id then done id else [])) (demandOperation s) := by
  intro done
  have hdemands : demandOperation s = storeDemands (engineStages (waits s) (focusTakeover (zoomTakeover s))) := rfl
  have htakeovers := takeovers_raise s
  have h := engineStages_raises (waits s) (focusTakeover (zoomTakeover s))
  have hengine := takeovers_engine s
  rw [hdemands]
  generalize focusTakeover (zoomTakeover s) = w at h hengine htakeovers
  have hadvance : ∀ id, waits s id = false → (advanceEngine id (engineRange w id) (w.engines.get id)).events = done id :=
    fun id hw => by
      have hstate : (s.engines.get id).state ≠ .waiting := by simpa [waits] using hw
      simp only [done]
      rw [hengine]
      split
      · rw [advanceEngine_raised _ _ (by simp), markRaises_held _ rfl]
      · exact advanceEngine_raised _ _ hstate
  have htest : ∀ id, waits s id = true → (testWait id (engineRange w id) (w.engines.get id)).events = done id :=
    fun id hw => by
      have hstate : (s.engines.get id).state = .waiting := by simpa [waits] using hw
      simp only [done]
      rw [hengine]
      split
      · exact testWait_held _ _ rfl
      · exact testWait_raised _ _ hstate
  have htwo : ∀ id, (if waits s id then [] else (advanceEngine id (engineRange w id) (w.engines.get id)).events)
      = if waits s id then [] else done id := fun id => by
    cases hw : waits s id with
    | false => exact hadvance id hw
    | true => rfl
  have hthree : ∀ id, (if waits s id then (testWait id (engineRange w id) (w.engines.get id)).events else [])
      = if waits s id then done id else [] := fun id => by
    cases hw : waits s id with
    | false => rfl
    | true => exact htest id hw
  simp only [htwo, hthree] at h
  exact (htakeovers.trans h).then rfl rfl

/-- An engine that a mark stops: its axis is taken over, or it drives one when the link is lost (R71, R81). -/
def stopped (s : State) (id : EngineId) : Bool :=
  preempted (settleCycle s) id || (linkLost s.lens && (boundAxis s.axis id).isSome)

/-- What an engine that is not stopped raises at a mark. -/
def engineRaises (s : State) (id : EngineId) : List EventPayload :=
  if stopped s id then [] else (s.engines.get id).markRaises id

theorem markRaises_settled (s : State) (id : EngineId) :
    (if preempted (settleCycle s) id then [] else ((settleCycle s).engines.get id).markRaises id) = engineRaises s id := by
  unfold engineRaises stopped
  rw [settleCycle_engine]
  cases preempted (settleCycle s) id with
  | true => rfl
  | false =>
    cases (linkLost s.lens && (boundAxis s.axis id).isSome) with
    | true => exact markRaises_held id (g := { s.engines.get id with state := .held }) rfl
    | false => rfl

/-- The link loss makes no engine WAITING, and one that it holds raises nothing. -/
theorem waits_settled (s : State) (id : EngineId) :
    waits (settleCycle s) id = waits s id ∨ engineRaises s id = [] := by
  unfold waits engineRaises stopped
  rw [settleCycle_engine]
  cases (linkLost s.lens && (boundAxis s.axis id).isSome) with
  | true => exact .inr (by simp)
  | false => exact .inl rfl

/-- What the engines raise at a mark (R66, R75, R78, R83). -/
def enginesRaise (s : State) : List EventPayload :=
  (engineIds.filter fun id => !waits s id).flatMap (engineRaises s) ++ (engineIds.filter (waits s)).flatMap (engineRaises s)

/-- What the first blocks of a mark raise: the settling, the takeovers, the engines. -/
theorem markDemands_raises (m : Option (Nat × Nat)) (s : State) :
    Raises s (settlingRaises s.lens ++ (takeoversRaise (settleCycle s) ++ enginesRaise s)) (markDemands m s).1 := by
  have h := (settleCycle_raises s).trans (demandOperation_raises (settleCycle s))
  have htwo : ∀ id, (if waits (settleCycle s) id then [] else engineRaises s id)
      = if (!waits s id) = true then engineRaises s id else [] := fun id => by
    rcases waits_settled s id with hw | hn
    · rw [hw]
      cases waits s id <;> rfl
    · rw [hn, ite_self, ite_self]
  have hthree : ∀ id, (if waits (settleCycle s) id then engineRaises s id else [])
      = if waits s id then engineRaises s id else [] := fun id => by
    rcases waits_settled s id with hw | hn
    · rw [hw]
    · rw [hn, ite_self, ite_self]
  simp only [markRaises_settled, htwo, hthree] at h
  rw [enginesRaise, flatMap_filter, flatMap_filter]
  exact h.then (by simp [markDemands]) (by simp [markDemands])

/-! ### The tracker, the limited flag and the cadence check (R25, R31, R103, R146) -/

theorem abandonCapture_raises (s : State) : Raises s
    ((s.frame.history.find? fun r => r.state == .filling).toList.map fun r => .captureAbandoned r.seq r.buffer)
    (abandonCapture s) := by
  unfold abandonCapture
  cases s.frame.history.find? fun r => r.state == .filling with
  | none => exact .none rfl rfl
  | some r => exact (raiseEvent_raises _ _).after rfl rfl

theorem captureBeat_raises (s : State) : Raises s
    (if s.frame.tracker = .freeWheel then [.frameBeat .locked (some s.frame.nextSeq)] else []) (captureBeat s) := by
  rw [captureBeat_eq]
  cases s.frame.tracker with
  | locked => exact .none rfl rfl
  | freeWheel => exact (raiseEvent_raises _ _).after rfl rfl

theorem substituteBeat_raises (s : State) : Raises s
    (if s.frame.tracker = .locked then [.frameBeat .freeWheel none] else []) (substituteBeat s) := by
  rw [substituteBeat_eq]
  cases s.frame.tracker with
  | locked => exact (raiseEvent_raises _ _).after rfl rfl
  | freeWheel => exact .none rfl rfl

theorem latchLimited_raises (q : Half) (c : Correction) (s : State) : Raises s
    (if c.limited && !s.stab.limited then [.stabLimit q c.limitedX c.limitedY] else []) (latchLimited q c s) := by
  unfold latchLimited
  dsimp only
  split
  · exact (raiseEvent_raises _ _).after rfl rfl
  · exact .none rfl rfl

theorem latched_raises (q : Half) (c : Correction) (r : CaptureRecord) (s : State) : Raises s
    (if c.limited && !s.stab.limited then [.stabLimit q c.limitedX c.limitedY] else [])
    (latchLimited q c (appendCapture r s)) := (latchLimited_raises q c (appendCapture r s)).after rfl rfl

/-- The drift that a mark's cadence check computes (R146). -/
def settledDrift (s : State) : Int :=
  nextDrift s.audio.drift s.audio.count (expectedCount s.frame.rate s.audio.phase)

theorem audioMark_drift {s : State} (h : s.audio.cadence = .running) : (audioMark s).audio.drift = settledDrift s := by
  unfold audioMark settleCadence
  dsimp only
  rw [h]
  dsimp only
  split
  · simp [settledDrift]
  · rfl

/-- The drift beyond the tolerance raises AV_DRIFT while its flag is clear (R146). -/
def driftRaises (s : State) : List EventPayload :=
  if s.audio.cadence = .running ∧ s.audio.driftFlag = false ∧ s.audio.tolerance < (settledDrift s).natAbs then
    [.avDrift (settledDrift s) s.audio.count (expectedCount s.frame.rate s.audio.phase)] else []

theorem settleCadence_raises (s : State) : Raises s (driftRaises s) (settleCadence s) := by
  unfold settleCadence driftRaises
  dsimp only
  cases hc : s.audio.cadence with
  | waiting =>
    rw [if_neg (by simp)]
    dsimp only
    split <;> exact .none rfl rfl
  | running =>
    dsimp only
    by_cases hd : s.audio.driftFlag = false ∧ s.audio.tolerance < (settledDrift s).natAbs
    · rw [if_pos ⟨rfl, hd⟩, if_pos (by simpa [settledDrift, and_comm] using hd)]
      exact (raiseEvent_raises _ _).after rfl rfl
    · rw [if_neg (fun h => hd h.2), if_neg (by simpa [settledDrift, and_comm] using hd)]
      exact .none rfl rfl

theorem audioMark_raises (s : State) : Raises s (driftRaises s) (audioMark s) :=
  ((settleCadence_raises { s with audio := { s.audio with
    outputs := s.audio.outputs.map (closeOutput s.audio) } }).then rfl rfl).after rfl rfl

theorem markRest_report (b : State) (r : Option CaptureRecord) (c : Correction) (s : State) :
    (markRest b r c s).report = (audioMark (openCycle c s)).report := by
  simp [markRest]

/-! ### The mark as a whole -/

section
variable {m : Option (Nat × Nat)} {capture : Option CaptureRecord} {s u v t : State}

theorem MarkFrom.audio_eq (h : MarkFrom m capture s u v t) : v.audio = s.audio := by
  have hu : u.audio = s.audio := by rw [h.begun]
  rw [h.worked, ← hu]
  exact (markDemands_frame m u).2.2.2.2.2.2.2.1

theorem MarkFrom.rate_eq (h : MarkFrom m capture s u v t) : t.frame.rate = v.frame.rate := by
  rw [h.made, (markRest_tracked ..).1]
  rfl

/-- The drift reported is the one the mark leaves (R146). -/
theorem MarkFrom.drift (h : MarkFrom m capture s u v t) (hr : t.frame.rate = s.frame.rate) :
    driftRaises (openCycle (markDemands m u).2 v) =
      if s.audio.cadence = .running ∧ s.audio.driftFlag = false ∧ s.audio.tolerance < t.audio.drift.natAbs then
        [.avDrift t.audio.drift s.audio.count (expectedCount s.frame.rate s.audio.phase)] else [] := by
  have ht : t.audio = (audioMark (openCycle (markDemands m u).2 v)).audio := by simp [h.made, markRest]
  have haudio : (openCycle (markDemands m u).2 v).audio = s.audio := by simp [h.audio_eq]
  have hrate : (openCycle (markDemands m u).2 v).frame.rate = s.frame.rate := by simp [← hr, h.rate_eq]
  generalize openCycle (markDemands m u).2 v = w at ht haudio hrate ⊢
  by_cases hc : s.audio.cadence = .running
  · rw [ht, audioMark_drift (by rw [haudio, hc])]
    simp only [driftRaises, haudio, hrate]
  · rw [driftRaises, haudio, if_neg (fun k => hc k.1), if_neg (fun k => hc k.1)]

/-- What a mark leaves in the report unit: what its blocks raise, in their order (log entries 12, 41, 45). -/
theorem MarkFrom.raises (h : MarkFrom m capture s u v t) {beat limit : List EventPayload} (hb : Raises s beat u)
    (hl : Raises (markDemands m u).1 limit v) : t.report =
      ((beat ++ (settlingRaises u.lens ++ (takeoversRaise (settleCycle u) ++ enginesRaise u)) ++ limit
        ++ driftRaises (openCycle (markDemands m u).2 v)).foldl (fun x e => raiseEvent e x) s).report := by
  have hopen : Raises v [] (openCycle (markDemands m u).2 v) := .none (by simp) (by simp)
  have hall := (((hb.trans (markDemands_raises m u)).trans hl).trans hopen).trans (audioMark_raises _)
  rw [List.append_nil] at hall
  rw [h.made, markRest_report]
  exact hall.report

end

/-- The engines that an axis record names as its source. -/
def AxisRecord.drivenBy (x : AxisRecord) (id : EngineId) : Bool := x.source == .engine id

theorem filter_drivenBy {β : Type} (x : AxisRecord) (f : EngineId → β) : (engineIds.filter x.drivenBy).map f =
    match x.source with
    | .engine id => [f id]
    | _ => [] := by
  unfold AxisRecord.drivenBy
  cases x.source with
  | engine id => cases id <;> rfl
  | _ => rfl

theorem takeable_eq (x : AxisRecord) : x.source.takeable = (x.source == .direct || engineIds.any x.drivenBy) := by
  unfold AxisRecord.drivenBy
  cases x.source with
  | engine id => cases id <;> rfl
  | _ => rfl

theorem boundAxis_isSome (c : AxisController) (id : EngineId) :
    (boundAxis c id).isSome = (c.zoom.drivenBy id || c.focus.drivenBy id || c.iris.drivenBy id) := by
  unfold boundAxis AxisRecord.drivenBy
  by_cases hz : c.zoom.source = .engine id
  · simp [hz]
  · by_cases hf : c.focus.source = .engine id
    · simp [hz, hf]
    · by_cases hi : c.iris.source = .engine id <;> simp [hz, hf, hi]

/-- The takeovers raise ENGINE_PREEMPTED for the engine of each axis taken over (R71). -/
theorem takeoversRaise_eq (s : State) : takeoversRaise s =
    (engineIds.filter fun id => zoomTakes s && s.axis.zoom.drivenBy id).map
        (fun id => .enginePreempted id .zoom ((s.engines.get id).move.map InProgress.kind))
      ++ (engineIds.filter fun id => focusTakes s && s.axis.focus.drivenBy id).map
        fun id => .enginePreempted id .focus
          (if zoomTakes s && s.axis.zoom.drivenBy id then none else (s.engines.get id).move.map InProgress.kind) := by
  have hmove : ∀ id, ((zoomTakeover s).engines.get id).move =
      if (zoomTakes s && s.axis.zoom.drivenBy id) = true then none else (s.engines.get id).move := fun id => by
    rw [zoomTakeover_engine]
    exact apply_ite ..
  have hzoom : (if zoomTakes s then takeoverRaises .zoom s else []) =
      (engineIds.filter fun id => zoomTakes s && s.axis.zoom.drivenBy id).map
        (fun id => .enginePreempted id .zoom ((s.engines.get id).move.map InProgress.kind)) := by
    cases zoomTakes s with
    | false => rfl
    | true => exact (filter_drivenBy s.axis.zoom _).symm
  have hfocus : (if focusTakes s then takeoverRaises .focus (zoomTakeover s) else []) =
      (engineIds.filter fun id => focusTakes s && s.axis.focus.drivenBy id).map
        fun id => .enginePreempted id .focus
          (if zoomTakes s && s.axis.zoom.drivenBy id then none else (s.engines.get id).move.map InProgress.kind) := by
    cases focusTakes s with
    | false => rfl
    | true =>
      have hsource : ((zoomTakeover s).axis.get .focus).source = s.axis.focus.source :=
        congrArg AxisRecord.source (focusTakes_zoomTakeover s).2
      refine Eq.trans ?_ (filter_drivenBy s.axis.focus _).symm
      rw [if_pos rfl, takeoverRaises, hsource]
      cases s.axis.focus.source with
      | engine id =>
        dsimp only
        rw [hmove, apply_ite (Option.map InProgress.kind)]
        rfl
      | _ => rfl
  rw [takeoversRaise, hzoom, hfocus]

/-- At a capture mark the limited flag of each axis says that its clamp acted (R101). -/
theorem MarkFrom.acted {mx my : Nat} {capture : Option CaptureRecord} {s u v t : State}
    (h : MarkFrom (some (mx, my)) capture s u v t) :
    (t.stab.mode != .off && t.stab.x.e16 != t.stab.x.corr16 - t.stab.x.a16) = (markDemands (some (mx, my)) u).2.limitedX
      ∧ (t.stab.mode != .off && t.stab.y.e16 != t.stab.y.corr16 - t.stab.y.a16)
        = (markDemands (some (mx, my)) u).2.limitedY := by
  rw [h.stab_eq, markDemands]
  generalize demandOperation (settleCycle u) = w
  exact stabMark_acted mx my w

theorem markDemands_limited (m : Option (Nat × Nat)) (s : State) : (markDemands m s).1.stab.limited = s.stab.limited := by
  have hstab : (demandOperation (settleCycle s)).stab = s.stab := by simp
  rw [markDemands, ← hstab]
  generalize demandOperation (settleCycle s) = w
  rcases m with _ | ⟨mx, my⟩ <;> rfl

theorem captureBeat_stab (s : State) : (captureBeat (abandonCapture s)).stab = s.stab := by simp

/-- What the takeover tests of a mark read: the axis settings as they stood, and the operator while the link is up (R67, R70). -/
theorem MarkFrom.takes {m : Option (Nat × Nat)} {capture : Option CaptureRecord} {s u v t : State}
    (h : MarkFrom m capture s u v t) :
    let p := if t.lens.link.up then s.lens.position else none
    zoomTakes (settleCycle u) = (s.axis.zoomTakeover && s.axis.zoom.source.takeable
        && decide (s.axis.deadband < ((p.map fun x : Position => x.rocker).getD 0).natAbs))
      ∧ focusTakes (settleCycle u) = (s.axis.focusTakeover && s.axis.focus.source.takeable && match p, s.axis.wheelRef with
        | some x, some ref => decide (s.axis.wheelThreshold < (x.wheel - ref) + (ref - x.wheel))
        | _, _ => false) := by
  intro p
  have haxis : (settleCycle u).axis = s.axis := by
    rw [(settleCycle_frame u).2.2.2.2.2.1, h.begun]
  have hinputs : operatorInputs (settleCycle u) = p := by
    rw [operatorInputs, ← h.link_eq, (settleCycle_told u).2.1, h.begun]
  unfold zoomTakes focusTakes wheelMoved rockerOf wheelOf
  rw [haxis, hinputs]
  cases p with
  | none => exact ⟨rfl, rfl⟩
  | some x =>
    refine ⟨rfl, ?_⟩
    cases s.axis.wheelRef <;> rfl

end Sys2Proof.Machine

namespace Sys2Proof.Proofs

open Sys2Proof Sys2Proof.Machine

/-- Settles O39: the occurrences of the blocks of a mark, in the order in which the blocks work. -/
theorem markRaises : Obligations.MarkRaises := by
  intro s t c p cycle lost lens drives ids takeable rocker zoomTaken focusTaken kind byZoom byFocus preempted stopped finishes
    passed done waits engines expected drift raised
  have hblocks : ∀ {m capture u v}, MarkFrom m capture s u v t → settlingRaises u.lens = lens
      ∧ takeoversRaise (settleCycle u) = preempted ∧ enginesRaise u = engines := by
    intro m capture u v h
    have hlens : u.lens = s.lens := by rw [h.begun]
    have haxis : u.axis = s.axis := by rw [h.begun]
    have hengine : u.engines = s.engines := by rw [h.begun]
    have hsettled : (settleCycle u).axis = s.axis := by rw [(settleCycle_frame u).2.2.2.2.2.1, haxis]
    obtain ⟨hzoom, hfocus⟩ := h.takes
    rw [takeable_eq] at hzoom hfocus
    replace hzoom : zoomTakes (settleCycle u) = zoomTaken := hzoom
    replace hfocus : focusTakes (settleCycle u) = focusTaken := by
      rw [hfocus]
      rfl
    have hkind : ∀ id, ((settleCycle u).engines.get id).move.map InProgress.kind = kind id := fun id => by
      have hmove : ((settleCycle u).engines.get id).move = (s.engines.get id).move := by
        rw [settleCycle_engine, apply_ite Engine.move, ite_self, hengine]
      rw [hmove]
      simp only [kind]
      cases (s.engines.get id).move with
      | none => rfl
      | some x => cases x <;> rfl
    refine ⟨by rw [hlens]; rfl, ?_, ?_⟩
    · rw [takeoversRaise_eq]
      simp only [hzoom, hfocus, hsettled, hkind]
      rfl
    · have hwaits : Machine.waits u = waits := funext fun id => by rw [Machine.waits, hengine]
      have hstopped : ∀ id, Machine.stopped u id = stopped id := fun id => by
        rw [Machine.stopped, Machine.preempted, hzoom, hfocus, hsettled, boundAxis_isSome, hlens, haxis]
        rfl
      have hdone : engineRaises u = done := funext fun id => by
        rw [engineRaises, hstopped, hengine]
        simp only [done]
        cases stopped id with
        | true => rfl
        | false =>
          have hpassed : passed (s.engines.get id) = (s.engines.get id).queue.takeWhile Move.passes :=
            congrArg (fun f => (s.engines.get id).queue.takeWhile f) (funext fun m => by cases m <;> rfl)
          have hfinishes : finishes (s.engines.get id) = (s.engines.get id).finishes := rfl
          have hraised : (fun m : Move => match m with
              | .mark v => some (EventPayload.engineMark id v)
              | _ => none) = Move.raised id := funext fun m => by cases m <;> rfl
          rw [hpassed, hfinishes, Engine.markRaises, Engine.completionRaises]
          cases (s.engines.get id).finishes with
          | false => rfl
          | true =>
            cases (s.engines.get id).mode with
            | step => rfl
            | run => exact congrArg (fun f => List.filterMap f _ ++ _) hraised.symm
      rw [enginesRaise, hwaits, hdone]
      rfl
  have hdrift : ∀ {m capture u v}, MarkFrom m capture s u v t → t.frame.rate = s.frame.rate →
      driftRaises (openCycle (markDemands m u).2 v) = drift := fun h hr => by
    rw [h.drift hr]
    simp only [drift, expected]
    unfold expectedCount
    cases s.frame.rate <;> rfl
  refine ⟨fun hexec => ?_, fun g b hstart => ?_⟩
  · rw [exec_frameMarkTimerExpiry] at hexec
    injection hexec with ht
    have h := timerExpiry_marks s
    rw [ht] at h
    have hr : t.frame.rate = s.frame.rate := by rw [← ht, timerExpiry_tracked]
    obtain ⟨hlens, hpreempted, hengines⟩ := hblocks h
    have hbeat : Raises s (if s.frame.tracker = .locked then [.frameBeat .freeWheel none] else [])
        (substituteBeat (reachTime s.frame.expiry s)) := (substituteBeat_raises _).after rfl rfl
    rw [h.raises hbeat (.none rfl rfl), hdrift h hr, hlens, hpreempted, hengines]
    simp only [raised, List.append_assoc, List.append_nil]
  · intro abandoned acted limit
    have h := captureStart_marks g b s
    have hr : t.frame.rate = s.frame.rate := by rw [← hstart, captureStart_frame_eq]
    rw [hstart] at h
    obtain ⟨hlens, hpreempted, hengines⟩ := hblocks h
    have hbeat := (abandonCapture_raises s).trans (captureBeat_raises (abandonCapture s))
    have hlimit : Raises (markDemands (some (g.marginX, g.marginY)) (captureBeat (abandonCapture s))).1 limit
        (captureLatched g b s) := by
      obtain ⟨hx, hy⟩ := h.acted
      have hflag := (markDemands_limited (some (g.marginX, g.marginY)) (captureBeat (abandonCapture s))).trans
        (congrArg Stabiliser.limited (captureBeat_stab s))
      have hlatch := latched_raises s.frame.nextSeq (captureCorrection g s) (newCapture s b (captureCorrection g s))
        (markDemands (some (g.marginX, g.marginY)) (captureBeat (abandonCapture s))).1
      rw [hflag] at hlatch
      have hlist : limit = if (captureCorrection g s).limited && !s.stab.limited
          then [.stabLimit s.frame.nextSeq (captureCorrection g s).limitedX (captureCorrection g s).limitedY] else [] := by
        simp only [limit, acted, hx, hy]
        rfl
      rw [hlist]
      exact hlatch
    rw [h.raises hbeat hlimit, hdrift h hr, hlens, hpreempted, hengines, (abandonCapture_history s).2]
    simp only [raised, abandoned, List.append_assoc]

end Sys2Proof.Proofs
end

section
/-! SUPPORT. The DEMAND that a mark sends, and what a mark leaves of the lens link (R53, R55, R56, R100, R211). -/

namespace Sys2Proof.Machine

theorem clampShift_zero (v : Int) : clampShift 0 v = 0 := by
  unfold clampShift clampInt
  omega

/-- A shift range of 0 clamps the demand to 0 of itself (R53). -/
theorem shiftDemand_eq {P : Prop} [Decidable P] {range : Nat} {v : Int} (h : P → range = 0) :
    (if P then 0 else clampShift range v) = clampShift range v := by
  split
  next hp => rw [h hp, clampShift_zero]
  next => rfl

section
variable {m : Option (Nat × Nat)} {capture : Option CaptureRecord} {s u v t : State}

/-- A mark that leaves the link up opens a cycle with its DEMAND (R53). -/
theorem MarkFrom.lens_up (h : MarkFrom m capture s u v t) (hup : (settleCycle u).lens.link.up = true) :
    t.lens = { (settleCycle u).lens with
      waiting := some (demandFrame (markDemands m u).2 (markDemands m u).1) } := by
  rw [h.lens_eq, openCycle, if_pos (by rwa [markDemands_lens]), joinTransmitter, markDemands_lens]

theorem MarkFrom.lens_down (h : MarkFrom m capture s u v t) (hup : (settleCycle u).lens.link.up = false) :
    t.lens = (settleCycle u).lens := by
  rw [h.lens_eq, openCycle, if_neg (by simp [markDemands_lens, hup]), markDemands_lens]

/-- The DEMAND of a mark, from the demands and shares it stores (R53, R100, R211). -/
theorem MarkFrom.demand (h : MarkFrom m capture s u v t) (hup : t.lens.link.up = true) :
    let i := s.lens.identity
    demandFrame (markDemands m u).2 (markDemands m u).1 =
      { kind := .demand, cancels := 0, live := true
        bytes := composeFrame 0x10 (leNat 2 (clampAxis i .zoom t.axis.zoom.demand)
          ++ leNat 2 (clampAxis i .focus t.axis.focus.demand) ++ leNat 2 (clampAxis i .iris t.axis.iris.demand)
          ++ leInt 2 (clampShift (shiftRanges i).1 (roundDiv (t.stab.x.o16 * s.stab.pixelPitch) 16000))
          ++ leInt 2 (clampShift (shiftRanges i).2 (roundDiv (t.stab.y.o16 * s.stab.pixelPitch) 16000))
          ++ [flagByte (opticalPath s.stab true i)]) } := by
  intro i
  obtain ⟨hstab, hlink, hident, -, -⟩ := h.reads
  have hi : (markDemands m u).1.lens.identity = i := by
    rw [markDemands_lens, (settleCycle_told u).1, h.begun]
  have hdemands := stabMark_demands m (demandOperation (settleCycle u))
  have hx : (markDemands m u).2.demandX = roundDiv (t.stab.x.o16 * s.stab.pixelPitch) 16000 := by
    rw [h.stab_eq, ← hstab]
    exact hdemands.1
  have hy : (markDemands m u).2.demandY = roundDiv (t.stab.y.o16 * s.stab.pixelPitch) 16000 := by
    rw [h.stab_eq, ← hstab]
    exact hdemands.2
  have henable : (markDemands m u).2.enable = opticalPath s.stab true i := by
    rw [markDemands, stabMark_enable, opticalActive_eq, hstab, hlink, hident, hup]
  have hranged : (opticalPath s.stab true i && ((shiftRanges i).1 != 0 || (shiftRanges i).2 != 0)) = opticalPath s.stab true i := by
    unfold opticalPath
    cases i with
    | none => simp
    | some x => simp [shiftRanges, Bool.and_assoc]
  unfold demandFrame
  dsimp only
  rw [hi, ← h.axis_eq, henable, hranged, hx, hy, shiftDemand_eq (·.1), shiftDemand_eq (·.2)]

end

/-- Whatever the settling raises is pending after the mark (R49, R55). -/
theorem MarkMade.settling_pending {s t : State} (h : MarkMade s t) (hl : s.report.events.length = 25) {p : EventPayload}
    (hp : p ∈ settlingRaises s.lens) : (t.report.events.getD (p.kind.number - 1) ⟨false, true, 0⟩).pending = true := by
  rcases h with h | ⟨g, b, h⟩
  · rw [(Proofs.markRaises s t).1 h]
    refine foldl_raiseEvent_own_pending hl ?_
    exact List.mem_append_left _ (List.mem_append_left _ (List.mem_append_left _ (List.mem_append_right _ hp)))
  · rw [(Proofs.markRaises s t).2 g b h]
    refine foldl_raiseEvent_own_pending hl ?_
    exact List.mem_append_left _ (List.mem_append_left _ (List.mem_append_left _ (List.mem_append_left _
      (List.mem_append_right _ hp))))

end Sys2Proof.Machine

namespace Sys2Proof.Proofs

open Sys2Proof Sys2Proof.Machine

/-- Settles O43: stages 1 to 6 read the stabiliser as it stood and the lens link after the settling. -/
theorem stabiliserAtMark : Obligations.StabiliserAtMark := by
  intro s t p up i corr active share x y
  have hshares : ∀ {m capture u v}, MarkFrom m capture s u v t → sharedX (demandOperation (settleCycle u)) = x
      ∧ sharedY (demandOperation (settleCycle u)) = y := fun h => by
    obtain ⟨hx, hy⟩ := h.shared
    rw [hx, hy]
    simp only [StabAxis.shared, displacement_eq]
    exact ⟨rfl, rfl⟩
  refine ⟨fun hexec => ?_, fun g b hstart => ?_⟩
  · rw [exec_frameMarkTimerExpiry] at hexec
    injection hexec with ht
    have h := timerExpiry_marks s
    rw [ht] at h
    obtain ⟨hx, hy⟩ := hshares h
    have hdone : (markDemands none (substituteBeat (reachTime s.frame.expiry s))).1.stab = { s.stab with x := x, y := y } := by
      rw [markDemands, stabMark_none_stab, hx, hy, h.reads.1]
    exact ⟨by rw [h.stab_eq, hdone], by rw [← ht, timerExpiry_tracked]⟩
  · have h := captureStart_marks g b s
    rw [hstart] at h
    obtain ⟨hx, hy⟩ := hshares h
    intro actual ax ay clamp ex ey limited
    have hactual : ∀ shift : Position → Int,
        actualShift (demandOperation (settleCycle (captureBeat (abandonCapture s)))) shift = actual shift := fun shift => by
      obtain ⟨hstab, hlink, -, hposition, -⟩ := h.reads
      have hread := actualShift_eq (demandOperation (settleCycle (captureBeat (abandonCapture s)))) shift
      rw [hstab, hlink, hposition] at hread
      exact hread
    have hshare : ∀ (corr a16 : Int) (margin : Nat), electronicShare s.stab.mode corr a16 margin =
        (if s.stab.mode = .off then 0 else clamp margin (corr - a16),
          s.stab.mode != .off && (if s.stab.mode = .off then 0 else clamp margin (corr - a16)) != corr - a16) :=
      fun corr a16 margin => by
        unfold electronicShare
        by_cases hm : s.stab.mode = .off
        · rw [if_pos hm, if_pos hm, hm]
          rfl
        · rw [if_neg hm, if_neg hm, bne_iff_ne.2 hm]
          rfl
    have hdone : (markDemands (some (g.marginX, g.marginY)) (captureBeat (abandonCapture s))).1.stab =
        { s.stab with x := { x with a16 := ax, e16 := ex }, y := { y with a16 := ay, e16 := ey } } := by
      rw [markDemands, stabMark_some_stab, hx, hy, h.reads.1, hactual, hactual, hshare, hshare]
    have hlimited : limited = (s.stab.mode != .off && ex != x.corr16 - ax || s.stab.mode != .off && ey != y.corr16 - ay) :=
      Bool.and_or_distrib_left ..
    have hcrop : (captureCorrection g s).dx = 4 * roundDiv ex 64 ∧ (captureCorrection g s).dy = roundDiv ey 16
        ∧ (captureCorrection g s).limited = limited := by
      have hc := stabMark_some_crop g.marginX g.marginY (demandOperation (settleCycle (captureBeat (abandonCapture s))))
      rw [hx, hy, h.reads.1, hactual, hactual, hshare, hshare] at hc
      rw [hlimited]
      exact hc
    have hstab : t.stab = { s.stab with
        x := { x with a16 := ax, e16 := ex }, y := { y with a16 := ay, e16 := ey }, limited := limited } := by
      rw [h.stab_eq, hdone, captureLatched_limited, hcrop.2.2]
    have hnewest : t.frame.history.getLast? = some (newCapture s b (captureCorrection g s)) := by
      rw [← hstart, captureStart_frame_eq]
      exact List.getLast?_concat
    refine ⟨hstab, ?_, fun hl hlim hwas => ?_⟩
    · generalize captureCorrection g s = c at hcrop hnewest
      exact ⟨_, hnewest, rfl, hcrop⟩
    · rw [(markRaises s t).2 g b hstart]
      refine foldl_raiseEvent_own_pending hl
        (p := .stabLimit s.frame.nextSeq (s.stab.mode != .off && ex != x.corr16 - ax) (s.stab.mode != .off && ey != y.corr16 - ay))
        (List.mem_append_left _ (List.mem_append_right _ ?_))
      rw [hstab, if_pos (by rw [← hlimited, hlim, hwas]; rfl)]
      exact List.mem_singleton_self _

/-- Settles O40: the settling of the previous cycle, and the DEMAND that joins where the link is up after it. -/
theorem lensAtMark : Obligations.LensAtMark := by
  intro s t hmade i within shift enable body demand expired
  obtain ⟨m, capture, u, v, h⟩ := hmade.marks
  have hlens : u.lens = s.lens := by rw [h.begun]
  have hdemand : (settleCycle u).lens.link.up = true →
      t.lens = { (settleCycle u).lens with waiting := some demand } := fun hup => by
    have hwithin : ∀ v, clampAxis i .zoom v = within (fun x => (x.zoomMin, x.zoomMax)) v
        ∧ clampAxis i .focus v = within (fun x => (x.focusMin, x.focusMax)) v
        ∧ clampAxis i .iris v = within (fun x => (x.irisMin, x.irisMax)) v := fun v => by
      simp only [within, i]
      cases s.lens.identity <;> exact ⟨rfl, rfl, rfl⟩
    have hshift : ∀ o : Int, clampShift (shiftRanges i).1 (roundDiv (o * s.stab.pixelPitch) 16000) = shift (fun x => x.shiftX) o
        ∧ clampShift (shiftRanges i).2 (roundDiv (o * s.stab.pixelPitch) 16000) = shift (fun x => x.shiftY) o := fun o => by
      simp only [shift, i]
      cases s.lens.identity with
      | none => exact ⟨clampShift_zero _, clampShift_zero _⟩
      | some x => exact ⟨rfl, rfl⟩
    have henable : opticalPath s.stab true i = enable := by
      simp only [enable, opticalPath, Bool.and_true]
    rw [h.lens_up hup, h.demand (by rwa [h.link_eq]), (hwithin _).1, (hwithin _).2.1, (hwithin _).2.2, (hshift _).1, (hshift _).2,
      henable]
    rfl
  refine ⟨fun hup => ?_, fun hup hno => ?_, fun hup hno hinv => ?_⟩
  · have hsettled : settleCycle u = u := settleCycle_closed (by rw [hlens, cycleOpen, hup]; rfl)
    rw [h.lens_down (by rw [hsettled, hlens, hup]), hsettled, hlens]
  · have hsettled : settleCycle u = u := settleCycle_closed (by rw [hlens, cycleOpen_eq_false_iff hup]; exact hno)
    rw [hdemand (by rw [hsettled, hlens, hup]), hsettled, hlens]
  · have hopen : cycleOpen s.lens = true := by
      rw [← Bool.not_eq_false, cycleOpen_eq_false_iff hup]
      exact hno
    have hsent : cycleSent s.lens = expired := cycleSent_eq hinv hopen
    refine ⟨fun hl => ?_, fun hl hm => ?_, fun hl hm => ?_⟩
    · have hsettled : (settleCycle u).lens = { s.lens with
          window := none, miss := s.lens.miss + 1, link := .degraded, sending := expired } := by
        rw [settleCycle_online (by rwa [hlens]) (by rwa [hlens]), (raiseEvent_frame _ _).2.2.2.2.2.1, hlens, hsent]
      rw [hdemand (by rw [hsettled]; rfl), hsettled]
    · have hsettled : (settleCycle u).lens = { s.lens with
          window := none, miss := s.lens.miss + 1, sending := expired } := by
        rw [settleCycle_counted (by rwa [hlens]) (by rwa [hlens]) (by rwa [hlens]), hlens, hsent]
      rw [hdemand (by rw [hsettled]; exact hup), hsettled]
    · have hover : (cycleSent s.lens).map (fun f => if isDemand f then f.over else f) = expired := by
        rw [hsent, Option.map_map]
        refine congrArg (s.lens.sending.map ·) (funext fun f => ?_)
        by_cases hd : f.kind = .demand <;> simp [isDemand, TxFrame.over, hd]
      have hkept : (fun f : TxFrame => !isDemand f) = fun f => f.kind == .identifyRequest :=
        funext fun f => by unfold isDemand; cases f.kind <;> rfl
      have hsettled : (settleCycle u).lens = s.lens.lost u.now := by
        rw [settleCycle_lost (by rwa [hlens]) (by rwa [hlens]) (by rwa [hlens]), (linkLoss_frame _).2.2.2.2.2.2.1,
          (raiseEvent_frame _ _).2.2.2.2.2.1, hlens]
      have hlost : settlingRaises s.lens = [.lensState .seeking 0 false] := by
        rw [settlingRaises, linkLost, hopen, hl, decide_eq_true hm]
        rfl
      refine ⟨?_, fun h25 => ?_⟩
      · rw [h.lens_down (by rw [hsettled]; rfl), hsettled, h.now_eq, LensLink.lost, hover, hkept]
      · exact hmade.settling_pending h25 (p := .lensState .seeking 0 false) (by rw [hlost]; exact List.mem_singleton_self _)

end Sys2Proof.Proofs
end

section
/-! SUPPORT. The substitute mark: its FRAME_BEAT, and what the mark's other blocks leave of it (R30, R31, R40). -/

namespace Sys2Proof.Machine

/-- The last part of a mark leaves the clip and overrun holds one lower and the period count 0 (R117, R144). -/
theorem markRest_holds (b : State) (r : Option CaptureRecord) (c : Correction) (s : State) :
    (markRest b r c s).overlay.overrunHold = s.overlay.overrunHold - 1
      ∧ (markRest b r c s).overlay.clipHold = s.overlay.clipHold - 1 ∧ (markRest b r c s).audio.count = 0 := by
  have hmark : ∀ (d : MarkData) (u : State), (metadataMark d u).overlay = u.overlay ∧ (metadataMark d u).audio = u.audio :=
    fun d u => by simp
  have hoverlay : (audioMark (openCycle c s)).overlay = s.overlay := by simp
  unfold markRest
  dsimp only
  rw [(hmark _ _).1, (hmark _ _).2]
  refine ⟨?_, ?_, rfl⟩
  · exact congrArg (fun o : Overlay => o.overrunHold - 1) hoverlay
  · exact congrArg (fun o : Overlay => o.clipHold - 1) hoverlay

/-- After its FRAME_BEAT a substitute mark only adds to the reports. -/
theorem timerExpiry_grows (s : State) :
    ReportsGrow (substituteBeat (reachTime s.frame.expiry s)).report (timerExpiry s).report :=
  markRest_grows (markDemands_grows (.refl _))

/-- In FREE-WHEEL a substitute mark raises no FRAME_BEAT (R31). -/
theorem timerExpiry_freeWheel {s : State} (h : s.frame.tracker = .freeWheel) :
    (timerExpiry s).report.events[5]? = s.report.events[5]? := by
  rw [(timerExpiry_grows s).2.2, substituteBeat_eq, (reachTime_frame ..).2.2.2.2.1, h]
  rfl

/-- In LOCKED it raises FRAME_BEAT (R31). -/
theorem substituteBeat_locked {s : State} (h : s.frame.tracker = .locked) : substituteBeat (reachTime s.frame.expiry s) =
    raiseEvent (.frameBeat .freeWheel none) (freeWheeled (reachTime s.frame.expiry s)) := by
  rw [substituteBeat_eq]
  have ht : (reachTime s.frame.expiry s).frame.tracker = .locked := h
  rw [ht]

theorem timerExpiry_locked {s : State} (h : s.frame.tracker = .locked) (hl : s.report.events.length = 25) :
    (timerExpiry s).report.events[5]? = some (s.report.events.getD 5 ⟨false, true, 0⟩).occurred := by
  rw [(timerExpiry_grows s).2.2, substituteBeat_locked h]
  exact raiseEvent_entry (p := .frameBeat .freeWheel none) (by simp [EventPayload.kind])
    (s := freeWheeled (reachTime s.frame.expiry s)) (getElem?_of_length hl (show 5 < 25 by decide))

/-- With a REPORT window and a place its report comes ahead of the mark's others (log entry 12). -/
theorem timerExpiry_beatQueued {s : State} (h : s.frame.tracker = .locked) (hl : s.report.events.length = 25)
    (hw : (s.window .report).isSome = true) (hq : s.report.queue.length < 16) :
    ∃ more, (timerExpiry s).report.queue = s.report.queue ++ .event .frameBeat
      ((s.report.events.getD 5 ⟨false, true, 0⟩).count + 1) (.frameBeat .freeWheel none) false :: more := by
  have hjoin := raiseEvent_joins (.frameBeat .freeWheel none) (s := freeWheeled (reachTime s.frame.expiry s)) hw hq
    (getElem?_of_length hl (show 5 < 25 by decide))
  obtain ⟨more, hmore⟩ := (timerExpiry_grows s).1
  refine ⟨more, ?_⟩
  rw [← hmore, substituteBeat_locked h, hjoin, List.append_assoc]
  rfl

end Sys2Proof.Machine

namespace Sys2Proof.Proofs

open Sys2Proof Sys2Proof.Machine

/-- Settles O23: FRAME_BEAT comes first, and the mark's other blocks only add to the reports. -/
theorem substituteMarkMade : Obligations.SubstituteMarkMade := by
  intro s
  have h := timerExpiry_marks s
  have hmark : (timerExpiry s).metadata.mark = s.metadata.mark + 1 := by
    rw [h.made, (markRest_tracked ..).2, (markDemands_frame ..).2.2.2.2.2.2.2.2.2.1, h.begun]
  have hoverlay : (markDemands none (substituteBeat (reachTime s.frame.expiry s))).1.overlay = s.overlay := by
    rw [(markDemands_frame ..).2.2.2.2.2.2.1, h.begun]
  obtain ⟨hoverrun, hclip, hcount⟩ := markRest_holds s none (markDemands none (substituteBeat (reachTime s.frame.expiry s))).2
    (markDemands none (substituteBeat (reachTime s.frame.expiry s))).1
  rw [← h.made, hoverlay] at hoverrun hclip
  rw [← h.made] at hcount
  obtain ⟨hstraps, hcommand, hgyro, hrecord, -⟩ := timerExpiry_frame s
  refine ⟨timerExpiry s, rfl, ?_, timerExpiry_tracked s, hmark, hoverrun, hclip, hcount, hstraps, hcommand, hgyro, hrecord,
    timerExpiry_freeWheel, fun hl h25 => ⟨timerExpiry_locked hl h25, timerExpiry_beatQueued hl h25, ?_⟩⟩
  · rw [h.now_eq, (substituteBeat_frame _).1]
    rfl
  · have hlaid := event_laidOut (lap := false) (lost := false) (software := false) (k := .frameBeat)
      (count := (s.report.events.getD 5 ⟨false, true, 0⟩).count + 1) (p := .frameBeat .freeWheel none)
      (Places.byteOf (Places.zero (Places.zero (Places.zero (places_nil _)))))
    exact hlaid

end Sys2Proof.Proofs
end

section
/-! SUPPORT. The metadata record, byte by byte, and what the writer does with it at a mark (R178 to R183, R210). -/

namespace Sys2Proof.Machine

/-! ### Bytes 2 to 16: the mark and its capture (R180) -/

/-- The fields of the mark's kind, the tracker state and the capture record. -/
def captureFields (tracker : Nat) : Option CaptureRecord → List (Nat × Nat × Int)
  | some r => [(2, 1, 1), (3, 1, (tracker : Int)), (4, 2, (r.seq.toNat : Int)), (6, 1, (r.buffer : Int)), (12, 2, r.dx),
      (14, 2, r.dy), (16, 1, if r.limited then 1 else 0)]
  | none => [(2, 1, 2), (3, 1, (tracker : Int))]

theorem captureFields_marked (capture : Option CaptureRecord) :
    captureFields (if capture.isSome then 1 else 2) capture = match capture with
      | some r => [(2, 1, 1), (3, 1, 1), (4, 2, (r.seq.toNat : Int)), (6, 1, (r.buffer : Int)), (12, 2, r.dx), (14, 2, r.dy),
          (16, 1, if r.limited then 1 else 0)]
      | none => [(2, 1, 2), (3, 1, 2)] := by
  cases capture <;> rfl

/-- The fields of the mark's timecode. -/
def labelFields (dropFrame : Bool) (t : Timecode) : List (Nat × Nat × Int) :=
  [(7, 1, if dropFrame then 1 else 0), (8, 1, (t.hours : Int)), (9, 1, (t.minutes : Int)), (10, 1, (t.seconds : Int)),
    (11, 1, (t.frames : Int))]

theorem places_markBytes {d : MarkData} {bytes : List Byte} {fields : List (Nat × Nat × Int)} (h : Places 17 bytes fields) :
    Places 2 (markBytes d ++ bytes) (captureFields d.tracker.code d.capture ++ labelFields d.dropFrame d.timecode ++ fields) := by
  unfold markBytes captureFields labelFields
  cases d.capture with
  | some r =>
    simp only [List.append_assoc, List.cons_append, List.nil_append]
    refine Places.congr ?_ (Places.byte (v := 1) rfl (Places.byteOf (Places.leNat (Places.byteOf (Places.flag (places_timecode
      (Places.leInt (Places.leInt (Places.flag h)))))))))
    intro f
    simp only [List.mem_append, List.mem_cons, List.not_mem_nil, or_false, Nat.reduceAdd]
    exact iff_of_eq (by ac_rfl)
  | none =>
    simp only [List.append_assoc, List.cons_append, List.nil_append, leNat_zero]
    refine Places.congr ?_ (Places.byte (v := 2) rfl (Places.byteOf (Places.gap (n := 2) (Places.zero (Places.flag (places_timecode
      (Places.gap (n := 5) h)))))))
    intro f
    simp only [List.mem_append, List.mem_cons, List.not_mem_nil, or_false, Nat.reduceAdd]
    exact iff_of_eq (by ac_rfl)

/-! ### Bytes 17 to 41: the lens (R181) -/

/-- The fields of the position record, present with its flag. -/
def positionFields : Option Position → List (Nat × Nat × Int)
  | some p => [(17, 1, 1), (18, 2, (p.zoom : Int)), (20, 2, (p.focus : Int)), (22, 2, (p.iris : Int)), (24, 2, (p.fNumber : Int)),
      (26, 2, (p.extender : Int)), (28, 2, p.shiftX), (30, 2, p.shiftY)]
  | none => []

/-- The fields of the focal length, the link and the optical demands. -/
def opticsFields (focal : Nat) (link : LinkState) (c : Correction) : List (Nat × Nat × Int) :=
  [(32, 4, (focal : Int)), (36, 1, (link.code : Int)), (37, 1, if c.enable then 1 else 0), (38, 2, c.demandX), (40, 2, c.demandY)]

theorem places_lensBytes {d : MarkData} {bytes : List Byte} {fields : List (Nat × Nat × Int)} (h : Places 42 bytes fields) :
    Places 17 (lensBytes d ++ bytes) (positionFields d.position ++ (opticsFields d.focal d.link d.correction ++ fields)) := by
  have hoptics : Places 32 (leNat 4 d.focal ++ (byteOf d.link.code :: flagByte d.correction.enable
      :: (leInt 2 d.correction.demandX ++ (leInt 2 d.correction.demandY ++ bytes))))
      (opticsFields d.focal d.link d.correction ++ fields) :=
    Places.leNat (Places.byteOf (Places.flag (Places.leInt (Places.leInt h))))
  unfold lensBytes positionFields
  cases d.position with
  | some p =>
    simp only [List.append_assoc, List.cons_append, List.nil_append]
    exact Places.byte rfl (Places.leNat (Places.leNat (Places.leNat (Places.leNat (Places.leNat (Places.leInt (Places.leInt
      hoptics)))))))
  | none =>
    simp only [List.append_assoc, List.cons_append, List.nil_append]
    exact Places.gap (n := 15) hoptics

/-! ### Bytes 42 to 57: the other blocks (R182) -/

/-- The fields of the modes and pan states, the closed audio period and the drift. -/
def periodFields (d : MarkData) (s : State) : List (Nat × Nat × Int) :=
  [(42, 1, (s.stab.mode.code : Int)), (43, 1, (s.stab.x.pan.code : Int)), (44, 1, (s.stab.y.pan.code : Int)),
    (45, 1, (s.gyro.state.code : Int)), (46, 1, (d.segments.c1 : Int)), (47, 1, (d.segments.c2 : Int)),
    (48, 1, (d.segments.c3 : Int)), (49, 1, (d.segments.c4 : Int)),
    (50, 1, (if d.clips.c1 then 1 else 0) + 2 * (if d.clips.c2 then 1 else 0) + 4 * (if d.clips.c3 then 1 else 0)
      + 8 * (if d.clips.c4 then 1 else 0)),
    (51, 1, if s.audio.driftFlag then 1 else 0), (52, 2, s.audio.drift)]

/-- The fields of the newest clip, none with the list empty. -/
def clipFields : Option Clip → List (Nat × Nat × Int)
  | some c => [(54, 2, (c.number : Int)), (56, 1, (c.state.code : Int))]
  | none => []

theorem places_newestClip {clips : List Clip} {bytes : List Byte} {fields : List (Nat × Nat × Int)} (h : Places 57 bytes fields) :
    Places 54 (newestClipBytes clips ++ bytes) (clipFields clips.getLast? ++ fields) := by
  unfold newestClipBytes clipFields
  cases clips.getLast? with
  | some c =>
    rw [List.append_assoc]
    exact Places.leNat (Places.byteOf h)
  | none => exact Places.gap (n := 3) h

theorem flag_weighted (w : Nat) (b : Bool) : ((if b then w else 0 : Nat) : Int) = w * if b then 1 else 0 := by
  cases b <;> simp

theorem places_clipFlags {k : Nat} {p : PerChannel Bool} {bytes : List Byte} {fields : List (Nat × Nat × Int)}
    (h : Places (k + 1) bytes fields) : Places k (clipFlagBits p :: bytes) ((k, 1, (if p.c1 then (1 : Int) else 0)
      + 2 * (if p.c2 then 1 else 0) + 4 * (if p.c3 then 1 else 0) + 8 * (if p.c4 then 1 else 0)) :: fields) := by
  have hb := Places.byteOf (v := (if p.c1 then 1 else 0) + (if p.c2 then 2 else 0) + (if p.c3 then 4 else 0)
    + (if p.c4 then 8 else 0)) h
  rw [Nat.cast_add, Nat.cast_add, Nat.cast_add, flag_weighted 1, flag_weighted 2, flag_weighted 4, flag_weighted 8,
    Nat.cast_one, one_mul] at hb
  exact hb

theorem places_runningBytes (d : MarkData) (s : State) : Places 42 (runningBytes d s)
    (periodFields d s ++ (clipFields s.record.clips.getLast? ++ [(57, 1, (ringFill s : Int))])) := by
  unfold runningBytes periodFields
  simp only [PerChannel.toList, List.map_cons, List.map_nil, List.append_assoc, List.cons_append, List.nil_append]
  exact Places.byteOf (Places.byteOf (Places.byteOf (Places.byteOf (Places.byteOf (Places.byteOf (Places.byteOf (Places.byteOf
    (places_clipFlags (Places.flag (Places.leInt (places_newestClip (Places.byteOf (places_nil _)))))))))))))

/-! ### The record (R180 to R182, R210) -/

theorem lensBytes_length (d : MarkData) : (lensBytes d).length = 25 := by
  unfold lensBytes
  cases d.position <;> simp [zeros]

theorem markBytes_length (d : MarkData) : (markBytes d).length = 15 := by
  unfold markBytes
  cases d.capture <;> simp [zeros, Timecode.bytes]

theorem runningBytes_length (d : MarkData) (s : State) : (runningBytes d s).length = 16 := by
  unfold runningBytes newestClipBytes
  cases s.record.clips.getLast? <;> simp [zeros, PerChannel.toList]

theorem composeMetadata_laidOut (mark : Half) (d : MarkData) (s : State) : LaidOut (composeMetadata mark d s) 64
    ((0, 2, (mark.toNat : Int)) :: (captureFields d.tracker.code d.capture ++ labelFields d.dropFrame d.timecode
      ++ (positionFields d.position ++ (opticsFields d.focal d.link d.correction
        ++ (periodFields d s ++ (clipFields s.record.clips.getLast? ++ [(57, 1, (ringFill s : Int))])))))) := by
  unfold composeMetadata
  refine laidOut_padTo ?_ ?_
  · simp [lensBytes_length, markBytes_length, runningBytes_length]
  · simp only [List.append_assoc]
    have hall := Places.leNat (n := 2) (v := mark.toNat)
      (places_markBytes (d := d) (places_lensBytes (d := d) (places_runningBytes d s)))
    simpa only [List.append_assoc] using hall

theorem LaidOut.congr {bytes : List Byte} {n : Nat} {fields listed : List (Nat × Nat × Int)}
    (hl : ∀ f, f ∈ listed ↔ f ∈ fields) (h : LaidOut bytes n fields) : LaidOut bytes n listed :=
  ⟨h.1, fun f hf => h.2.1 f ((hl f).1 hf), fun k hk hfree => h.2.2 k hk fun f hf => hfree f ((hl f).2 hf)⟩

/-! ### The writer at a mark (R178, R179, R183) -/

/-- A mark numbered (R179). -/
def numbered (s : State) : State := { s with metadata := { s.metadata with mark := s.metadata.mark + 1 } }

theorem metadataMark_none {d : MarkData} {s : State} (hw : s.window .metadata = none) : metadataMark d s = numbered s := by
  have hwin : (numbered s).window .metadata = none := hw
  unfold metadataMark
  dsimp only
  rw [show ({ s with metadata := { s.metadata with mark := s.metadata.mark + 1 } } : State) = numbered s from rfl, hwin]

/-- With a METADATA window the record composed joins the queue, or waits (R183). -/
theorem metadataMark_some {d : MarkData} {s : State} {w : WindowRecord} (hw : s.window .metadata = some w) :
    metadataMark d s =
      queueMetadata w (s.metadata.mark + 1) (composeMetadata (s.metadata.mark + 1) d (numbered s)) (numbered s) := by
  have hwin : (numbered s).window .metadata = some w := hw
  unfold metadataMark
  dsimp only
  rw [show ({ s with metadata := { s.metadata with mark := s.metadata.mark + 1 } } : State) = numbered s from rfl, hwin]

theorem queueMetadata_joins {w : WindowRecord} {mark : Half} {bytes : List Byte} {s : State} (hw : s.metadata.waiting = none)
    (hl : s.path.injected.length < 8) : queueMetadata w mark bytes s = joinMetadata w bytes s := by
  rw [queueMetadata, hw, decide_eq_true hl]
  rfl

theorem queueMetadata_waits {w : WindowRecord} {mark : Half} {bytes : List Byte} {s : State}
    (h : s.metadata.waiting.isSome = true ∨ 8 ≤ s.path.injected.length) : queueMetadata w mark bytes s =
      { s with metadata := { s.metadata with waiting := some { mark := mark, bytes := bytes } } } := by
  have hfull : (s.metadata.waiting.isNone && decide (s.path.injected.length < 8)) = false := by
    rw [Bool.and_eq_false_iff]
    rcases h with h | h
    · exact .inl (by rw [← Option.not_isSome, h]; rfl)
    · exact .inr (decide_eq_false (Nat.not_lt.2 h))
  rw [queueMetadata, hfull]
  rfl

section
variable {m : Option (Nat × Nat)} {capture : Option CaptureRecord} {s u v t : State}

/-- The state that the writer reads: its own part and the path as before the mark, the stabiliser and the audio unit after it. -/
theorem MarkFrom.written (h : MarkFrom m capture s u v t) : ∃ x, t = metadataMark (markData s capture (markDemands m u).2 v) x
    ∧ x.metadata = s.metadata ∧ x.path = s.path ∧ x.record = s.record ∧ x.gyro = s.gyro ∧ x.stab = t.stab
    ∧ x.audio = t.audio := by
  have hu : u.path = s.path ∧ u.gyro = s.gyro ∧ u.record = s.record ∧ u.metadata = s.metadata := by
    rw [h.begun]
    exact ⟨rfl, rfl, rfl, rfl⟩
  obtain ⟨-, -, hpath, -, -, hgyro, -, -, hrecord, hmetadata, -⟩ := markDemands_frame m u
  have hv : v.path = s.path ∧ v.gyro = s.gyro ∧ v.record = s.record ∧ v.metadata = s.metadata := by
    rw [h.worked]
    exact ⟨hpath.trans hu.1, hgyro.trans hu.2.1, hrecord.trans hu.2.2.1, hmetadata.trans hu.2.2.2⟩
  refine ⟨advanceTimecode (holdsAtMark (audioMark (openCycle (markDemands m u).2 v))), h.made, ?_⟩
  have hmade := h.made
  unfold markRest at hmade
  dsimp only at hmade
  have hstab : t.stab = v.stab := by rw [hmade]; simp
  have haudio : t.audio = (audioMark (openCycle (markDemands m u).2 v)).audio := by rw [hmade]; simp
  simp [hv, hstab, haudio]

theorem MarkFrom.tracker_eq (h : MarkFrom m capture s u v t) : t.frame.tracker = v.frame.tracker := by
  rw [h.made, (markRest_tracked ..).1]
  rfl

/-- A mark leaves the stabiliser's mode and pan states (R98). -/
theorem MarkFrom.modes (h : MarkFrom m capture s u v t) : t.stab.mode = s.stab.mode ∧ t.stab.x.pan = s.stab.x.pan
    ∧ t.stab.y.pan = s.stab.y.pan := by
  rw [h.stab_eq, markDemands, ← h.reads.1]
  generalize demandOperation (settleCycle u) = w
  rcases m with _ | ⟨mx, my⟩ <;> exact ⟨rfl, rfl, rfl⟩

/-- The optical demands are 0 while the optical path is inactive (R100). -/
theorem MarkFrom.optics (h : MarkFrom m capture s u v t) :
    let active := opticalPath s.stab t.lens.link.up s.lens.identity
    let c := (markDemands m u).2
    c.enable = active
      ∧ c.demandX = (if active then roundDiv (t.stab.x.o16 * s.stab.pixelPitch) 16000 else 0)
      ∧ c.demandY = (if active then roundDiv (t.stab.y.o16 * s.stab.pixelPitch) 16000 else 0) := by
  intro active c
  obtain ⟨hstab, hlink, hident, -, -⟩ := h.reads
  have hactive : opticalActive (demandOperation (settleCycle u)) = active := by
    rw [opticalActive_eq, hstab, hlink, hident]
  rw [h.stab_eq, ← hactive, ← hstab]
  simp only [c, markDemands]
  generalize demandOperation (settleCycle u) = w
  unfold stabMark
  rcases m with _ | ⟨mx, my⟩ <;> cases opticalActive w <;> exact ⟨rfl, rfl, rfl⟩

end

end Sys2Proof.Machine

namespace Sys2Proof.Proofs

open Sys2Proof Sys2Proof.Machine

/-- Settles O25: the record composed at a mark, and where it goes. -/
theorem metadataAtMark : Obligations.MetadataAtMark := by
  intro s t capture hmade flag i enable demand segments clipped mark record
  obtain ⟨m, u, v, h, hcode⟩ : ∃ m u v, MarkFrom m capture s u v t
      ∧ v.frame.tracker.code = (if capture.isSome then 1 else 2) := by
    rcases hmade with ⟨hexec, rfl⟩ | ⟨g, b, hstart, -, hnewest⟩
    · rw [exec_frameMarkTimerExpiry] at hexec
      injection hexec with ht
      have h := timerExpiry_marks s
      rw [ht] at h
      exact ⟨_, _, _, h, by rw [← h.tracker_eq, ← ht, timerExpiry_tracked]; rfl⟩
    · have h := captureStart_marks g b s
      have hlast : capture = some (newCapture s b (captureCorrection g s)) := by
        rw [hnewest, ← hstart, captureStart_frame_eq]
        exact List.getLast?_concat
      rw [hstart, ← hlast] at h
      exact ⟨_, _, _, h, by rw [← h.tracker_eq, ← hstart, captureStart_frame_eq, hlast]; rfl⟩
  obtain ⟨x, ht, hmetadata, hpath, hrecord, hgyro, hstab, haudio⟩ := h.written
  have hwindow : x.window .metadata = s.window .metadata := by rw [State.window, State.window, hpath]
  refine ⟨fun hw => ?_, fun w hw => ?_⟩
  · rw [ht, metadataMark_none (hwindow.trans hw), numbered, hmetadata, hpath]
    exact ⟨rfl, rfl⟩
  · have hmark := metadataMark_some (d := markData s capture (markDemands m u).2 v) (hwindow.trans hw)
    rw [← ht, hmetadata] at hmark
    refine ⟨composeMetadata mark (markData s capture (markDemands m u).2 v) (numbered x), ?_, fun hwait hl => ?_,
      fun hfull => ?_⟩
    · have hring : (ringFill (numbered x) : Int) = match s.ring with
          | some (size, _) => ((s.record.guarded * 64 / size : Nat) : Int)
          | none => 0 := by
        have hsame : (numbered x).ring = s.ring := by
          rw [State.ring, State.ring, State.window, State.window, numbered, hpath]
        rw [ringFill, hsame, numbered, hrecord]
        cases s.ring <;> rfl
      have hoptics : opticsFields s.lens.focal s.lens.link (markDemands m u).2 = [(32, 4, (s.lens.focal : Int)),
          (36, 1, (s.lens.link.code : Int)), (37, 1, flag enable), (38, 2, demand t.stab.x.o16),
          (40, 2, demand t.stab.y.o16)] := by
        obtain ⟨henable, hx, hy⟩ := h.optics
        rw [opticsFields, henable, hx, hy]
        rfl
      have hperiod : periodFields (markData s capture (markDemands m u).2 v) (numbered x) = [(42, 1, (s.stab.mode.code : Int)),
          (43, 1, (s.stab.x.pan.code : Int)), (44, 1, (s.stab.y.pan.code : Int)), (45, 1, (s.gyro.state.code : Int)),
          (46, 1, (segments .c1 : Int)), (47, 1, (segments .c2 : Int)), (48, 1, (segments .c3 : Int)),
          (49, 1, (segments .c4 : Int)), (50, 1, clipped .c1 + 2 * clipped .c2 + 4 * clipped .c3 + 8 * clipped .c4),
          (51, 1, flag t.audio.driftFlag), (52, 2, t.audio.drift)] := by
        obtain ⟨hmode, hpanX, hpanY⟩ := h.modes
        simp only [periodFields, markData, numbered, periodSegments, periodClips, h.audio_eq, hgyro, hstab, haudio, hmode, hpanX,
          hpanY]
        rfl
      have hclips : (numbered x).record.clips = s.record.clips := by rw [numbered, hrecord]
      have hlaid := composeMetadata_laidOut mark (markData s capture (markDemands m u).2 v) (numbered x)
      rw [hperiod, hring, hclips, markData, hoptics, hcode] at hlaid
      have hparts : record = _ ++ captureFields (if capture.isSome then 1 else 2) capture ++ positionFields s.lens.position
          ++ clipFields s.record.clips.getLast? :=
        congrArg₂ (· ++ ·) (congrArg₂ (· ++ ·) (congrArg (_ ++ ·) (captureFields_marked capture).symm) rfl) rfl
      refine LaidOut.congr (fun f => ?_) hlaid
      rw [hparts]
      simp only [labelFields, List.mem_append, List.mem_cons, List.not_mem_nil, or_false]
      exact iff_of_eq (by ac_rfl)
    · rw [hmark, queueMetadata_joins (by rw [numbered, hmetadata, hwait]) (by rwa [numbered, hpath]), joinMetadata, numbered,
        hmetadata, hpath]
      exact ⟨rfl, rfl⟩
    · rw [hmark, queueMetadata_waits (by rwa [numbered, hmetadata, hpath]), numbered, hmetadata, hpath]
      exact ⟨rfl, rfl⟩

end Sys2Proof.Proofs
end

section
/-! SUPPORT. The lens link's cycle: entering SEEKING, a missed cycle, and the end of a window held open (R49, R50, R54, R55,
R81). -/

namespace Sys2Proof.Machine

/-! ### The link loss and SEEKING (R50, R81) -/

/-- An engine as a link loss leaves it: HELD when it is some axis's source (R81). -/
def heldIfBound (c : AxisController) (id : EngineId) (g : Engine) : Engine :=
  if c.zoom.source = .engine id ∨ c.focus.source = .engine id ∨ c.iris.source = .engine id then { g with state := .held } else g

/-- The engines after a link loss (R81). -/
def boundHeld (c : AxisController) (m : MoveEngines) : MoveEngines :=
  ⟨heldIfBound c .e1 m.e1, heldIfBound c .e2 m.e2, heldIfBound c .e3 m.e3⟩

/-- A link loss holds every engine that is an axis's source, and does nothing else (R81). -/
theorem linkLoss_eq (s : State) : linkLoss s = { s with engines := boundHeld s.axis s.engines } := by
  have hbound : ∀ id g, (if (boundAxis s.axis id).isSome then { g with state := .held } else g) = heldIfBound s.axis id g := by
    intro id g
    refine if_congr ?_ rfl rfl
    simp [boundAxis_isSome, AxisRecord.drivenBy, or_assoc]
  exact congrArg (fun m => { s with engines := m }) (congr (congrArg₂ MoveEngines.mk (hbound _ _) (hbound _ _)) (hbound _ _))

/-- The lens link as it enters SEEKING at a time: no DEMAND waits, and one being sent opens no window (R50). -/
def LensLink.sought (now : Nat) (l : LensLink) : LensLink :=
  { l with
    window := none, miss := 0, link := .seeking, seek := some now
    waiting := l.waiting.filter fun f => f.kind == .identifyRequest
    sending := l.sending.map fun f => if f.kind = .demand then { f with live := false } else f }

theorem not_isDemand_eq (f : TxFrame) : (!isDemand f) = (f.kind == .identifyRequest) := by
  unfold isDemand
  cases f.kind <;> rfl

theorem isDemand_iff {f : TxFrame} : isDemand f = true ↔ f.kind = .demand := by simp [isDemand]

/-- A DEMAND of the transmitter's whose cycle is over (R50). -/
theorem over_if_demand (f : TxFrame) :
    (if isDemand f then f.over else f) = if f.kind = .demand then { f with live := false } else f :=
  if_congr isDemand_iff rfl rfl

theorem enterSeeking_eq (s : State) : enterSeeking s = { s with lens := s.lens.sought s.now } := by
  simp only [enterSeeking, LensLink.sought, not_isDemand_eq, over_if_demand]

/-! ### A missed cycle (R49, R55) -/

/-- What the miss of the cycle of `s` makes of `t`, at the time `now` (R49, R55, R81). -/
def cycleMissed (s : State) (now : Nat) (t : State) : State :=
  match s.lens.link with
  | .online => raiseEvent (.lensState .degraded (s.lens.miss + 1) false) { t with
      lens := { t.lens with window := none, miss := s.lens.miss + 1, link := .degraded } }
  | .degraded =>
    if s.lens.miss < 7 then { t with lens := { t.lens with window := none, miss := s.lens.miss + 1 } }
    else raiseEvent (.lensState .seeking 0 false) { t with
      lens := { t.lens with
        window := none, miss := 0, link := .seeking, seek := some now
        waiting := s.lens.waiting.filter fun f => f.kind == .identifyRequest
        sending := s.lens.sending.map fun f => if f.kind = .demand then { f with live := false } else f }
      engines := boundHeld s.axis s.engines }
  | _ => t

/-- `t` is in the cycle of `s`: the link, the transmitter, the window, the axes and the engines are those of `s`. -/
structure SameCycle (s t : State) : Prop where
  link : t.lens.link = s.lens.link
  miss : t.lens.miss = s.lens.miss
  waiting : t.lens.waiting = s.lens.waiting
  sending : t.lens.sending = s.lens.sending
  window : t.lens.window = s.lens.window
  axis : t.axis = s.axis
  engines : t.engines = s.engines

theorem SameCycle.refl (s : State) : SameCycle s s := ⟨rfl, rfl, rfl, rfl, rfl, rfl, rfl⟩

/-- A missed cycle, by the link state and the miss count (R55). -/
theorem missCycle_eq {s t : State} (h : SameCycle s t) : missCycle t = cycleMissed s t.now t := by
  obtain ⟨hlink, hmiss, hwaiting, hsending, -, haxis, hengines⟩ := h
  unfold missCycle cycleMissed
  rw [hlink, hmiss]
  cases s.lens.link with
  | online => rfl
  | degraded =>
    by_cases hm : s.lens.miss < 7
    · simp only [if_pos hm, if_neg (show ¬ s.lens.miss + 1 ≥ 8 by omega)]
    · simp only [if_neg hm, if_pos (show s.lens.miss + 1 ≥ 8 by omega)]
      rw [linkLoss_eq, enterSeeking_eq, raiseLensState, raiseEvent_eq, raiseEvent_eq, ← hwaiting, ← hsending, ← haxis,
        ← hengines]
      rfl
  | absent => rfl
  | seeking => rfl

/-- What the end of the frame that started at `start` makes of `t` when the window of `s` was held open for it (R54). -/
def windowClosed (s : State) (start now : Nat) (t : State) : State :=
  match s.lens.window with
  | some w => if w.opens ≤ start ∧ start ≤ w.closes ∧ w.closes ≤ now then cycleMissed s now t else t
  | none => t

theorem endHeldWindow_eq {s t : State} (h : SameCycle s t) (start : Nat) :
    endHeldWindow start t = windowClosed s start t.now t := by
  unfold endHeldWindow windowClosed
  rw [h.window, missCycle_eq h]
  cases s.lens.window with
  | none => rfl
  | some w => simp [ReplyWindow.contains, and_assoc]

/-- The provisional identity is dropped when its 2 ms are over, and nothing else changes (R51). -/
theorem lapseProvisional_eq (s : State) : lapseProvisional s = { s with lens := { s.lens with
    provisional := s.lens.provisional.filter fun q => decide (s.now < q.deadline) } } := by
  unfold lapseProvisional
  cases h : s.lens.provisional with
  | none => exact congrArg (fun p => { s with lens := { s.lens with provisional := p } }) h
  | some q =>
    by_cases hq : q.deadline ≤ s.now
    · simp [hq, Option.filter]
    · have hsame : { s with lens := { s.lens with provisional := some q } } = s := by rw [← h]
      simp [hq, Option.filter, Nat.not_le.1 hq, hsame]

end Sys2Proof.Machine
end

section
/-! SUPPORT. The lens link's invariant: the transmitter, the reply window and the miss count fit the link state (R47, R49, R50, R53
to R56, R59), kept by everything that receives, sends and times. -/

namespace Sys2Proof.Machine

theorem LensInv.of_lens_eq {s t : State} (h : LensInv s) (hl : t.lens = s.lens) : LensInv t := by
  unfold LensInv
  rw [hl]
  exact h

/-- The invariant reads the link state, the transmitter, the window, the miss count and the line alone. -/
theorem LensInv.of_fields {s t : State} (h : LensInv s) (hlink : t.lens.link = s.lens.link)
    (hmiss : t.lens.miss = s.lens.miss) (hwaiting : t.lens.waiting = s.lens.waiting)
    (hsending : t.lens.sending = s.lens.sending) (hwindow : t.lens.window = s.lens.window)
    (hstart : t.lens.charStart = s.lens.charStart) (hlow : t.lens.lineLow = s.lens.lineLow) : LensInv t := by
  unfold LensInv
  rw [hlink, hmiss, hwaiting, hsending, hwindow, hstart, hlow]
  exact h

/-! ### The link's changes (R50, R55) -/

section
variable {s : State}

/-- An IDENTIFY REQUEST alone waits in SEEKING, and a DEMAND being sent opens no window (R50). -/
theorem LensInv.sought (h : LensInv s) {t : State} {now : Nat} (ht : t.lens = s.lens.sought now) : LensInv t := by
  obtain ⟨-, -, -, -, -, -, -, hline, hlow⟩ := h
  have hwaits : ∀ f, t.lens.waiting = some f → isDemand f = false := fun f hf => by
    rw [ht] at hf
    rw [← Bool.not_eq_true', not_isDemand_eq]
    exact (Option.filter_eq_some_iff.1 hf).2
  have hsends : ∀ f, t.lens.sending = some f → isDemand f = true → f.live = false := fun f hf hd => by
    rw [ht] at hf
    obtain ⟨g, -, rfl⟩ := Option.map_eq_some_iff.1 hf
    by_cases hk : g.kind = .demand
    · simp [hk]
    · rw [if_neg hk] at hd
      exact absurd (isDemand_iff.1 hd) hk
  refine ⟨fun f hf => ?_, fun f hf hl => ?_, fun _ => ?_, fun ha => ?_, ?_, fun hw => ?_, fun f g hf hd _ => ?_, fun hs => ?_, ?_⟩
  · rw [frameFits, hwaits f hf, ht]; rfl
  · rw [frameFits, ht]
    cases hd : isDemand f with
    | true => exact absurd hl (by simp [hsends f hf hd])
    | false => rfl
  · rw [ht]; rfl
  · rw [ht] at ha; cases ha
  · rw [ht]; rfl
  · rw [ht] at hw; cases hw
  · exact fun hg => hwaits g hg
  · rw [ht] at hs ⊢
    exact hline (by simpa [LensLink.sought] using hs)
  · rw [ht]; exact hlow

theorem enterSeeking_lensInv (h : LensInv s) : LensInv (enterSeeking s) := h.sought (congrArg State.lens (enterSeeking_eq s))

/-- A missed cycle closes the window; it counts 1 to 7, or leads to SEEKING (R49, R55). -/
theorem missCycle_lensInv (h : LensInv s) : LensInv (missCycle s) := by
  rw [missCycle_eq (.refl s), cycleMissed]
  have hall := h
  obtain ⟨hwaits, hsends, hdown, habsent, hmiss, hwindow, hone, hline, hlow⟩ := h
  cases hl : s.lens.link with
  | absent => exact hall
  | seeking => exact hall
  | online =>
    rw [hl] at hwaits hsends hmiss
    refine LensInv.of_lens_eq (s := { s with lens := { s.lens with
      window := none, miss := s.lens.miss + 1, link := .degraded } }) ?_ (by simp)
    exact ⟨hwaits, hsends, fun _ => rfl, fun ha => (by cases ha),
      ⟨by simp, by simp only [show s.lens.miss = 0 by simpa using hmiss]; decide⟩, fun hw => (by cases hw), hone, hline, hlow⟩
  | degraded =>
    rw [hl] at hmiss
    by_cases hm : s.lens.miss < 7
    · simp only [if_pos hm]
      exact ⟨hwaits, hsends, fun _ => rfl, habsent, by simp only [hl, if_true]; omega, fun hw => (by cases hw), hone, hline, hlow⟩
    · simp only [if_neg hm]
      exact hall.sought (now := s.now) (by simp [LensLink.sought])

theorem endHeldWindow_lensInv (n : Nat) (h : LensInv s) : LensInv (endHeldWindow n s) := by
  unfold endHeldWindow
  repeat' split
  · exact missCycle_lensInv h
  all_goals exact h

theorem lapseProvisional_lensInv (h : LensInv s) : LensInv (lapseProvisional s) := by
  rw [lapseProvisional_eq]
  exact h

theorem abandonFrame_lensInv (a : Assembly) (h : LensInv s) : LensInv (abandonFrame a s) := by
  unfold abandonFrame
  refine endHeldWindow_lensInv _ (lapseProvisional_lensInv ?_)
  dsimp only
  repeat' split
  all_goals exact h

theorem abandonOnGap_lensInv (h : LensInv s) : LensInv (abandonOnGap s) := by
  unfold abandonOnGap
  repeat' split
  · exact abandonFrame_lensInv _ h
  all_goals exact h

/-! ### A received frame (R46, R51, R57) -/

/-- F as a POSITION leaves it (R58). -/
def focalAfter (i : Option Identity) (p : Position) (focal : Nat) : Nat :=
  match i with
  | some i => focalLength i p
  | none => focal

theorem storePosition_eq (p : Position) (s : State) : storePosition p s = { s with lens := { s.lens with
    position := some p, miss := 0, focal := focalAfter s.lens.identity p s.lens.focal } } := by
  unfold storePosition recomputeFocal focalAfter
  dsimp only
  cases s.lens.identity <;> rfl

/-- ONLINE with a miss count of 0 and with no IDENTIFY REQUEST waiting: the state a POSITION leaves (R46, R50). -/
theorem online_lensInv (p : Position) (h : LensInv s) : LensInv (becomeOnline (storePosition p s)) := by
  rw [storePosition_eq]
  obtain ⟨hwaits, hsends, hdown, habsent, hmiss, hwindow, hone, hline, hlow⟩ := h
  have hkept : ∀ {f}, Option.filter isDemand s.lens.waiting = some f → s.lens.waiting = some f ∧ isDemand f = true :=
    fun hf => Option.filter_eq_some_iff.1 hf
  have hsent : ∀ {f}, s.lens.sending.map (fun f => if isDemand f then f else f.over) = some f → f.live = true →
      s.lens.sending = some f ∧ isDemand f = true := fun {f} hf hlive => by
    obtain ⟨g, hg, rfl⟩ := Option.map_eq_some_iff.1 hf
    cases hd : isDemand g with
    | true => exact ⟨by simpa using hg, by simpa using hd⟩
    | false => rw [hd] at hlive; cases hlive
  refine ⟨fun f hf => (hkept hf).2, fun f hf hlive => (hsent hf hlive).2, fun hu => (by cases hu), fun ha => (by cases ha), rfl,
    fun hw => ⟨fun f hf => (hwindow hw).1 f (hkept hf).1, fun f hf hd => ?_⟩, fun f g hf hd hlive hg => ?_, fun hs => ?_, hlow⟩
  · by_contra hlive
    obtain ⟨hs, -⟩ := hsent hf (by simpa using hlive)
    exact hlive ((hwindow hw).2 f hs hd)
  · exact hone f g (hsent hf hlive).1 hd hlive (hkept hg).1
  · exact hline (by simpa [becomeOnline] using hs)

theorem takePosition_lensInv (p : Position) (h : LensInv s) (hl : s.lens.link.up = true) : LensInv (takePosition p s) := by
  unfold takePosition
  dsimp only
  split
  · exact (online_lensInv p h).of_lens_eq (by simp)
  · rename_i hd
    have hon : s.lens.link = .online := by cases hk : s.lens.link <;> simp_all [LinkState.up]
    rw [storePosition_eq]
    obtain ⟨hwaits, hsends, hdown, habsent, hmiss, hrest⟩ := h
    exact ⟨hwaits, hsends, hdown, habsent, by simp [hon], hrest⟩

/-- Whatever else the completed reply brings, its lens link is the one a POSITION leaves with the new identity (R51). -/
theorem completeReply_lens (i : Identity) (p : Position) (s : State) : (completeReply i p s).lens =
    (becomeOnline (storePosition p { s with lens := { s.lens with identity := some i, provisional := none } })).lens := by
  unfold completeReply
  dsimp only
  repeat' split
  all_goals simp

theorem completeReply_lensInv (i : Identity) (p : Position) (h : LensInv s) : LensInv (completeReply i p s) := by
  refine LensInv.of_lens_eq (online_lensInv p ?_) (completeReply_lens i p s)
  exact h

theorem answerCycle_lensInv (n : Nat) (h : LensInv s) : LensInv (answerCycle n s) := by
  unfold answerCycle
  repeat' split
  · obtain ⟨hwaits, hsends, hdown, habsent, hmiss, hwindow, hrest⟩ := h
    exact ⟨hwaits, hsends, fun _ => rfl, habsent, hmiss, fun hw => (by cases hw), hrest⟩
  all_goals exact h

theorem positionArrives_lensInv (n : Nat) (p : Position) (h : LensInv s) : LensInv (positionArrives n p s) := by
  unfold positionArrives
  dsimp only
  split
  · exact h
  · exact answerCycle_lensInv n (completeReply_lensInv _ p h)
  · exact lapseProvisional_lensInv h
  · rename_i ha hs _
    refine lapseProvisional_lensInv (answerCycle_lensInv n (takePosition_lensInv p h ?_))
    cases hl : s.lens.link <;> simp_all [LinkState.up]

theorem identityArrives_lensInv (n : Nat) (i : Identity) (h : LensInv s) : LensInv (identityArrives n i s) := by
  unfold identityArrives
  split
  · exact h
  · refine endHeldWindow_lensInv n ?_
    exact h

theorem noticeArrives_lensInv (n : Nat) (k : Notice) (h : LensInv s) : LensInv (noticeArrives n k s) := by
  unfold noticeArrives
  dsimp only
  split
  · exact h
  · refine endHeldWindow_lensInv n (lapseProvisional_lensInv (h.of_lens_eq ?_))
    split <;> simp

theorem nothingTaken_lensInv (n : Nat) (h : LensInv s) : LensInv (nothingTaken n s) :=
  endHeldWindow_lensInv n (lapseProvisional_lensInv h)

theorem frameTaken_lensInv (n : Nat) (r : Received) (h : LensInv s) : LensInv (frameTaken n r s) := by
  cases r with
  | position p => exact positionArrives_lensInv n p h
  | identity i => exact identityArrives_lensInv n i h
  | notice k => exact noticeArrives_lensInv n k h
  | discarded => exact nothingTaken_lensInv n h

/-- What the receiver makes of a character keeps the invariant (R45). -/
theorem applyReception_lensInv (n : Nat) (r : Reception) (h : LensInv s) : LensInv (applyReception n r s) := by
  cases r with
  | hunting => exact nothingTaken_lensInv n h
  | assembling a => exact h
  | abandoned =>
    unfold applyReception
    dsimp only
    split
    · exact abandonFrame_lensInv _ h
    · exact h
  | received start ty payload => exact frameTaken_lensInv start _ h

theorem readOwn_lensInv (b : Byte) (h : LensInv s) : LensInv (readOwn s b) := applyReception_lensInv _ _ h

theorem readOwns_lensInv (bs : List Byte) (h : LensInv s) : LensInv (bs.foldl readOwn s) := by
  induction bs generalizing s with
  | nil => exact h
  | cons b bs ih => exact ih (readOwn_lensInv b h)

theorem readBackUntil_lensInv (t : Nat) (h : LensInv s) : LensInv (readBackUntil t s) := by
  unfold readBackUntil
  split
  · exact readOwns_lensInv _ h
  · exact h

/-! ### The frame being sent and the line, left alone by the receiver (R43, R47, 3.2) -/

/-- The bytes of the frame being sent, when it began, how many of its characters were read back, and the level of the line: all
that the receiver's work on other frames leaves alone. -/
def LensLink.wire (l : LensLink) : Option (List Byte) × Nat × Nat × Option Nat × Bool :=
  (l.sending.map TxFrame.bytes, l.sentAt, l.readBack, l.charStart, l.lineLow)

theorem wire_sought (now : Nat) (l : LensLink) : (l.sought now).wire = l.wire := by
  unfold LensLink.wire LensLink.sought
  cases l.sending with
  | none => rfl
  | some f => by_cases hd : f.kind = .demand <;> simp [hd]

@[simp] theorem missCycle_wire (s : State) : (missCycle s).lens.wire = s.lens.wire := by
  rw [missCycle_eq (.refl s), cycleMissed]
  cases s.lens.link with
  | absent => rfl
  | seeking => rfl
  | online => simp [LensLink.wire]
  | degraded =>
    by_cases hm : s.lens.miss < 7
    · simp only [if_pos hm]; rfl
    · simp only [if_neg hm, raiseEvent_frame]
      exact wire_sought s.now s.lens

@[simp] theorem endHeldWindow_wire (n : Nat) (s : State) : (endHeldWindow n s).lens.wire = s.lens.wire := by
  unfold endHeldWindow
  repeat' split
  all_goals simp

@[simp] theorem lapseProvisional_wire (s : State) : (lapseProvisional s).lens.wire = s.lens.wire := by
  rw [lapseProvisional_eq]
  rfl

@[simp] theorem abandonFrame_wire (a : Assembly) (s : State) : (abandonFrame a s).lens.wire = s.lens.wire := by
  unfold abandonFrame
  rw [endHeldWindow_wire, lapseProvisional_wire]
  dsimp only
  repeat' split
  all_goals rfl

@[simp] theorem abandonOnGap_wire (s : State) : (abandonOnGap s).lens.wire = s.lens.wire := by
  unfold abandonOnGap
  repeat' split
  all_goals simp

/-- ONLINE leaves the bytes of the frame being sent (R50). -/
theorem online_wire (p : Position) (s : State) : (becomeOnline (storePosition p s)).lens.wire = s.lens.wire := by
  rw [storePosition_eq]
  unfold LensLink.wire becomeOnline
  cases s.lens.sending with
  | none => rfl
  | some f => cases hd : isDemand f <;> simp [hd, TxFrame.over]

@[simp] theorem positionArrives_wire (n : Nat) (p : Position) (s : State) : (positionArrives n p s).lens.wire = s.lens.wire := by
  have hanswer : ∀ t, (answerCycle n t).lens.wire = t.lens.wire := fun t => by
    unfold answerCycle
    repeat' split
    all_goals rfl
  have htake : (takePosition p s).lens.wire = s.lens.wire := by
    unfold takePosition
    dsimp only
    split
    · simp [online_wire]
    · rw [storePosition_eq]; rfl
  unfold positionArrives
  dsimp only
  split
  · rfl
  · rw [hanswer, completeReply_lens, online_wire]; rfl
  · simp
  · rw [lapseProvisional_wire, hanswer, htake]

@[simp] theorem frameTaken_wire (n : Nat) (r : Received) (s : State) : (frameTaken n r s).lens.wire = s.lens.wire := by
  cases r with
  | position p => exact positionArrives_wire n p s
  | identity i =>
    unfold frameTaken identityArrives
    dsimp only
    split
    · rfl
    · rw [endHeldWindow_wire]; rfl
  | notice k =>
    unfold frameTaken noticeArrives
    dsimp only
    split
    · rfl
    · split <;> simp
  | discarded => simp [frameTaken, nothingTaken]

@[simp] theorem applyReception_wire (n : Nat) (r : Reception) (s : State) : (applyReception n r s).lens.wire = s.lens.wire := by
  cases r with
  | hunting => simp [applyReception, nothingTaken]
  | assembling a => rfl
  | abandoned =>
    unfold applyReception
    dsimp only
    split <;> simp
  | received start ty payload =>
    unfold applyReception
    dsimp only
    rw [frameTaken_wire]
    rfl

/-- Reading a character back counts it, and leaves the rest (3.2). -/
theorem readOwn_wire (s : State) (b : Byte) :
    (readOwn s b).lens.wire = { s.lens with readBack := s.lens.readBack + 1 }.wire := by
  unfold readOwn
  dsimp only
  rw [applyReception_wire]
  rfl

theorem readOwns_wire (bs : List Byte) (s : State) :
    (bs.foldl readOwn s).lens.wire = { s.lens with readBack := s.lens.readBack + bs.length }.wire := by
  induction bs generalizing s with
  | nil => rfl
  | cons b bs ih =>
    have hb := readOwn_wire s b
    simp only [LensLink.wire, Prod.mk.injEq] at hb ih ⊢
    obtain ⟨hbytes, hat, hback, hstart, hlow⟩ := hb
    obtain ⟨ibytes, iat, iback, istart, ilow⟩ := ih (readOwn s b)
    refine ⟨ibytes.trans hbytes, iat.trans hat, ?_, istart.trans hstart, ilow.trans hlow⟩
    rw [List.foldl_cons, iback, hback, List.length_cons]
    omega

/-- The characters still to be read back by a time. -/
def unread (t : Nat) (l : LensLink) (bytes : List Byte) : List Byte := (bytes.take ((t - l.sentAt) / byteTime)).drop l.readBack

theorem readBackUntil_wire (t : Nat) (s : State) : ∃ n, (readBackUntil t s).lens.wire = { s.lens with readBack := n }.wire
    ∧ ∀ f, s.lens.sending = some f → n = s.lens.readBack + (unread t s.lens f.bytes).length := by
  unfold readBackUntil
  split
  · rename_i f hf
    refine ⟨_, readOwns_wire _ s, fun g hg => ?_⟩
    rw [hf] at hg
    cases hg
    rfl
  · rename_i hf
    exact ⟨s.lens.readBack, rfl, fun f h => by rw [hf] at h; cases h⟩

/-- With every whole character read back there is nothing to read (3.2). -/
theorem readBackUntil_of_read {t : Nat} {s : State} (h : ∀ f, s.lens.sending = some f → unread t s.lens f.bytes = []) :
    readBackUntil t s = s := by
  unfold readBackUntil
  split
  · rename_i f hf
    exact congrArg (List.foldl readOwn s) (h f hf)
  · rfl

theorem unread_eq_nil {t : Nat} {l : LensLink} {bytes : List Byte} (h : (t - l.sentAt) / byteTime ≤ l.readBack) :
    unread t l bytes = [] :=
  List.drop_eq_nil_of_le ((List.length_take_le ..).trans h)

/-- What was read back is not read again. -/
theorem readBackUntil_twice (t : Nat) (s : State) : readBackUntil t (readBackUntil t s) = readBackUntil t s := by
  obtain ⟨n, hwire, hn⟩ := readBackUntil_wire t s
  refine readBackUntil_of_read fun g hg => ?_
  simp only [LensLink.wire, Prod.mk.injEq] at hwire
  obtain ⟨hbytes, hat, hback, -, -⟩ := hwire
  rw [hg] at hbytes
  obtain ⟨f, hf, hfg⟩ := Option.map_eq_some_iff.1 hbytes.symm
  have hlength := hn f hf
  unfold unread at hlength ⊢
  rw [hat, hback, ← hfg]
  refine List.drop_eq_nil_of_le ?_
  rw [List.length_drop] at hlength
  omega

/-- Reading back leaves the bytes being sent, their beginning and the line (3.2). -/
theorem readBackUntil_line (t : Nat) (s : State) :
    (readBackUntil t s).lens.sending.map TxFrame.bytes = s.lens.sending.map TxFrame.bytes
      ∧ (readBackUntil t s).lens.sentAt = s.lens.sentAt ∧ (readBackUntil t s).lens.charStart = s.lens.charStart
      ∧ (readBackUntil t s).lens.lineLow = s.lens.lineLow := by
  obtain ⟨n, hwire, -⟩ := readBackUntil_wire t s
  simp only [LensLink.wire, Prod.mk.injEq] at hwire
  obtain ⟨hbytes, hat, -, hstart, hlow⟩ := hwire
  exact ⟨hbytes, hat, hstart, hlow⟩

theorem isSome_of_map_eq {α β : Type} {f : α → β} {x y : Option α} (h : x.map f = y.map f) : x.isSome = y.isSome := by
  simpa using congrArg Option.isSome h

/-! ### The transmitter (R47, R48, R54) -/

/-- With no frame being sent the line is the lens's alone, and its low level keeps a start bit off it (R43, R47). -/
theorem LensInv.not_sending (h : LensInv s) {start : Option Nat} (hstart : s.lens.lineLow = true → start = none) :
    LensInv { s with lens := { s.lens with sending := none, charStart := start } } := by
  obtain ⟨hwaits, hsends, hdown, habsent, hmiss, hwindow, hone, hline, hlow⟩ := h
  exact ⟨hwaits, fun f hf => (by cases hf), hdown, fun ha => ⟨(habsent ha).1, rfl⟩, hmiss,
    fun hw => ⟨(hwindow hw).1, fun f hf => (by cases hf)⟩, fun f g hf => (by cases hf), fun hs => (by cases hs), hstart⟩

theorem stopDriving_lensInv (h : LensInv s) : LensInv (stopDriving s) := by
  unfold stopDriving
  split
  · rename_i f hf
    have hread := readBackUntil_lensInv s.now h
    obtain ⟨hbytes, -, -, -⟩ := readBackUntil_line s.now s
    have hsome : (readBackUntil s.now s).lens.sending.isSome = true := by rw [isSome_of_map_eq hbytes, hf]; rfl
    obtain ⟨-, -, -, -, -, -, -, hline, -⟩ := id hread
    refine hread.not_sending fun hlow => ?_
    rw [(hline hsome).2] at hlow
    cases hlow
  · exact h

/-- A frame that has been read back as far as it was sent leaves the transmitter when the part stops driving it. -/
theorem stopDriving_of_read {f : TxFrame} (hf : s.lens.sending = some f) (hr : readBackUntil s.now s = s) :
    stopDriving s = { s with lens := { s.lens with sending := none, charStart := characterOnLine s } } := by
  unfold stopDriving
  rw [hf]
  dsimp only
  rw [hr]

/-- A frame of the kind the link sends may wait, while no cycle is open for a second DEMAND (R47, R53). -/
theorem LensInv.joins (h : LensInv s) {f : TxFrame} (hfits : frameFits s.lens.link f) (ha : s.lens.link ≠ .absent)
    (hw : isDemand f = true → s.lens.window = none)
    (hs : isDemand f = true → ∀ g, s.lens.sending = some g → isDemand g = true → g.live = false) :
    LensInv (joinTransmitter f s) := by
  obtain ⟨hwaits, hsends, hdown, habsent, hmiss, hwindow, hone, hline, hlow⟩ := h
  refine ⟨fun g hg => ?_, hsends, hdown, fun hl => absurd hl ha, hmiss, fun hk => ⟨fun g hg => ?_, (hwindow hk).2⟩,
    fun g k hg hd hl hk => ?_, hline, hlow⟩
  · cases hg
    exact hfits
  · cases hg
    rw [← Bool.not_eq_true]
    intro hd
    rw [show (joinTransmitter f s).lens.window = none from hw hd] at hk
    cases hk
  · cases hk
    rw [← Bool.not_eq_true]
    intro hd'
    rw [hs hd' g hg hd] at hl
    cases hl

theorem cancelFrame_lensInv {f : TxFrame} (h : LensInv s) (hf : s.lens.sending = some f) (hr : readBackUntil s.now s = s) :
    LensInv (cancelFrame f s) := by
  have hstopped := stopDriving_lensInv h
  have heq := stopDriving_of_read hf hr
  obtain ⟨-, hsends, -, habsent, -, hwindow, -, -, -⟩ := h
  unfold cancelFrame
  dsimp only
  split
  · exact hstopped.of_lens_eq (by simp)
  · split
    · exact hstopped
    · rename_i hlive
      simp only [Bool.or_eq_true, Bool.not_eq_true', not_or, Bool.not_eq_false] at hlive
      have hjoins := hstopped.joins (f := { f with cancels := 1 })
      rw [heq] at hjoins ⊢
      refine hjoins (hsends f hf hlive.1) (fun ha => ?_) (fun hd => ?_) fun _ g hg => (by cases hg)
      · rw [(habsent ha).2] at hf
        cases hf
      · rw [← Option.not_isSome_iff_eq_none]
        intro hw
        rw [(hwindow hw).2 f hf hd] at hlive
        cases hlive.1

theorem completeFrame_lensInv {f : TxFrame} (h : LensInv s) (hf : s.lens.sending = some f) : LensInv (completeFrame f s) := by
  obtain ⟨hwaits, hsends, hdown, habsent, hmiss, hwindow, hone, hline, hlow⟩ := h
  refine ⟨hwaits, fun g hg => (by cases hg), fun hu => ?_, fun ha => ⟨(habsent ha).1, rfl⟩, hmiss,
    fun hw => ⟨fun g hg => ?_, fun g hg => (by cases hg)⟩, fun g k hg => (by cases hg), fun hs => (by cases hs), hlow⟩
  · have hu : s.lens.link.up = false := hu
    simp [completeFrame, hu, hdown hu]
  · by_cases hd : isDemand f = true ∧ f.live = true
    · exact hone f g hf hd.1 hd.2 hg
    · refine (hwindow ?_).1 g hg
      have hopens : ¬ ((isDemand f && f.live && s.lens.link.up) = true) := by
        simp only [Bool.and_eq_true]
        exact fun hk => hd hk.1
      simpa only [completeFrame, if_neg hopens] using hw

theorem frameCompletes_lensInv (h : LensInv s) : LensInv (frameCompletes s) := by
  unfold frameCompletes
  split
  · rename_i f hf
    have hread : LensInv (readBackUntil (f.stop s) (reachTime (f.stop s) s)) := by
      refine readBackUntil_lensInv _ ?_
      exact h
    dsimp only
    split
    · exact completeFrame_lensInv hread (by assumption)
    · exact hread
  · exact h

theorem completeIfDone_lensInv (h : LensInv s) : LensInv (completeIfDone s) := by
  unfold completeIfDone
  repeat' split
  · exact frameCompletes_lensInv h
  all_goals exact h

/-- A waiting frame is sent on a line that is high and idle (R43, R47). -/
theorem startFrame_lensInv (h : LensInv s) (hstart : s.lens.charStart = none)
    (hlow : s.lens.lineLow = false) : LensInv (startFrame s) := by
  unfold startFrame
  dsimp only
  have hgap : LensInv (abandonOnGap (reachTime (s.lens.lineSince + 2 * byteTime) s)) := abandonOnGap_lensInv h
  have hwire := abandonOnGap_wire (reachTime (s.lens.lineSince + 2 * byteTime) s)
  simp only [LensLink.wire, Prod.mk.injEq, reachTime_frame] at hwire
  obtain ⟨-, -, -, hwstart, hwlow⟩ := hwire
  rw [hstart] at hwstart
  rw [hlow] at hwlow
  split
  · rename_i f hf
    obtain ⟨hwaits, hsends, hdown, habsent, hmiss, hwindow, hone, hline, -⟩ := hgap
    refine ⟨fun g hg => (by cases hg), fun g hg _ => ?_, hdown, fun ha => ?_, hmiss,
      fun hw => ⟨fun g hg => (by cases hg), fun g hg hd => ?_⟩, fun g k _ _ _ hk => (by cases hk), fun _ => ⟨hwstart, hwlow⟩,
      fun _ => hwstart⟩
    · cases hg
      exact hwaits f hf
    · rw [(habsent ha).1] at hf
      cases hf
    · cases hg
      rw [(hwindow hw).1 f hf] at hd
      cases hd
  · exact hgap

theorem frameStarts_lensInv (h : LensInv s) : LensInv (frameStarts s) := by
  unfold frameStarts
  split
  · exact h
  · rename_i hguard
    simp only [Bool.or_eq_true, not_or, Bool.not_eq_true, Option.isSome_eq_false_iff, Option.isNone_iff_eq_none] at hguard
    obtain ⟨⟨-, hstart⟩, hlow⟩ := hguard
    exact startFrame_lensInv h hstart hlow

theorem frameCancelled_lensInv (h : LensInv s) : LensInv (frameCancelled s) := by
  unfold frameCancelled
  split
  · rename_i bit _
    dsimp only
    generalize hu : readBackUntil _ _ = u
    have hread : LensInv u := by
      rw [← hu]
      refine readBackUntil_lensInv _ ?_
      exact h
    have hnow : u.now = (reachTime (s.lens.sentAt + bit * bitTime) s).now := by rw [← hu]; simp
    split
    · refine cancelFrame_lensInv hread (by assumption) ?_
      rw [hnow, ← hu, readBackUntil_twice]
    · exact hread
  · exact h

/-! ### The lens's characters and the timers (R43, R45, R47, R50, R51, R54) -/

theorem startBitFalls_lensInv (h : LensInv s) : LensInv (startBitFalls s) := by
  unfold startBitFalls
  split
  · exact h
  · rename_i hguard
    simp only [Bool.or_eq_true, not_or, Bool.not_eq_true, Option.isSome_eq_false_iff, Option.isNone_iff_eq_none] at hguard
    obtain ⟨⟨-, hlow⟩, hs⟩ := hguard
    have hgap : LensInv (abandonOnGap (reachTime s.lens.lineSince s)) := abandonOnGap_lensInv h
    have hwire := abandonOnGap_wire (reachTime s.lens.lineSince s)
    simp only [LensLink.wire, Prod.mk.injEq, reachTime_frame, hs, Option.map_none, Option.map_eq_none_iff] at hwire
    obtain ⟨hsent, -, -, -, hwlow⟩ := hwire
    have hnew := hgap.not_sending (start := some (abandonOnGap (reachTime s.lens.lineSince s)).now)
      fun hl => by rw [hwlow, hlow] at hl; cases hl
    refine hnew.of_fields rfl rfl rfl ?_ rfl rfl rfl
    exact hsent

/-- A character that ends stood on a line that the part did not drive; it may leave the line low (R43, R47). -/
theorem lineHeard_lensInv (c : LineChar) (h : LensInv s) (hstart : s.lens.charStart.isSome = true) :
    LensInv (lineHeard c s) := by
  obtain ⟨hwaits, hsends, hdown, habsent, hmiss, hwindow, hone, hline, hlow⟩ := h
  refine ⟨hwaits, hsends, hdown, habsent, hmiss, hwindow, hone, fun hs => ?_, fun _ => rfl⟩
  rw [(hline hs).1] at hstart
  cases hstart

theorem readCharacter_lensInv {c : LineChar} {t : State} {n : Nat} {r : Reception} (h : LensInv s)
    (hr : readCharacter c s = some (n, r, t)) : LensInv t := by
  obtain ⟨start, hs, heq⟩ := Option.map_eq_some_iff.1 hr
  cases heq
  refine lineHeard_lensInv c ?_ (by simp [hs])
  exact h

theorem hearCharacter_lensInv (c : LineChar) (h : LensInv s) : LensInv (hearCharacter c s) := by
  unfold hearCharacter
  split
  · exact applyReception_lensInv _ _ (readCharacter_lensInv h (by assumption))
  · exact applyReception_lensInv _ _ (readCharacter_lensInv h (by assumption))
  · exact h

theorem abandonByCharacter_lensInv (c : LineChar) (h : LensInv s) : LensInv (abandonByCharacter c s) := by
  unfold abandonByCharacter
  split
  · exact applyReception_lensInv _ _ (readCharacter_lensInv h (by assumption))
  · exact h

theorem abandonByGap_lensInv (h : LensInv s) : LensInv (abandonByGap s) := by
  unfold abandonByGap
  split
  · exact h
  · refine abandonOnGap_lensInv ?_
    exact h

theorem frameEnding_lensInv {c : LineChar} {t : State} {n : Nat} {r : Received} (h : LensInv s)
    (hr : frameEnding c s = some (n, r, t)) : LensInv t := by
  unfold frameEnding at hr
  split at hr
  · rename_i hc
    cases hr
    have hread := readCharacter_lensInv h hc
    exact hread
  · cases hr

theorem lineReturnsHigh_lensInv (h : LensInv s) : LensInv (lineReturnsHigh s) := by
  unfold lineReturnsHigh
  split
  · obtain ⟨hwaits, hsends, hdown, habsent, hmiss, hwindow, hone, hline, hlow⟩ := h
    exact ⟨hwaits, hsends, hdown, habsent, hmiss, hwindow, hone, fun hs => ⟨(hline hs).1, rfl⟩, fun hl => (by cases hl)⟩
  · exact h

theorem identityTimeout_lensInv (h : LensInv s) : LensInv (identityTimeout s) := by
  unfold identityTimeout
  split
  · dsimp only
    have hread : ∀ d t, LensInv (readBackUntil t (reachTime d s)) := fun d t => by
      refine readBackUntil_lensInv t ?_
      exact h
    split
    · exact hread ..
    · exact hread ..
  · exact h

theorem windowEnds_lensInv (h : LensInv s) : LensInv (windowEnds s) := by
  have hreached : ∀ d, LensInv (reachTime d s) := fun _ => h.of_lens_eq rfl
  have hends : ∀ (held : Bool) (d : Nat), LensInv (if held then reachTime d s else missCycle (reachTime d s)) := fun held d => by
    split
    · exact hreached d
    · exact missCycle_lensInv (hreached d)
  unfold windowEnds
  split
  · exact hends _ _
  · exact h

/-- An IDENTIFY REQUEST waits in SEEKING (R50). -/
theorem seekExpires_lensInv (h : LensInv s) : LensInv (seekExpires s) := by
  unfold seekExpires
  split
  · rename_i t hl _
    have hjoins := h.joins (f := identifyRequestFrame) (by rw [hl]; rfl) (by simp [hl]) (fun hd => (by cases hd))
      fun hd => (by cases hd)
    exact hjoins
  · exact h

/-! ### The cycles of a mark (R53, R56) -/

theorem settleCycle_lensInv (h : LensInv s) : LensInv (settleCycle s) := by
  unfold settleCycle
  repeat' split
  · exact h
  · exact missCycle_lensInv h
  · exact missCycle_lensInv h
  · rename_i f hf _
    obtain ⟨hwaits, hsends, hdown, habsent, hmiss, hwindow, hone, hline, hlow⟩ := h
    refine missCycle_lensInv ⟨hwaits, fun g hg hl => ?_, hdown, fun ha => ?_, hmiss,
      fun hw => ⟨(hwindow hw).1, fun g hg _ => ?_⟩, fun g k hg hd hl => ?_, fun _ => hline (by rw [hf]; rfl), hlow⟩
    · cases hg; cases hl
    · rw [(habsent ha).2] at hf; cases hf
    · cases hg; rfl
    · cases hg; cases hl
  · exact h
  · exact h

/-- A missed cycle leaves no window, and no live DEMAND on the line that was none before (R50, R55). -/
theorem missCycle_closes (hup : s.lens.link.up = true) : (missCycle s).lens.window = none
    ∧ ∀ g, (missCycle s).lens.sending = some g → isDemand g = true → g.live = true → s.lens.sending = some g := by
  rw [missCycle_eq (.refl s), cycleMissed]
  cases hl : s.lens.link with
  | absent => rw [hl] at hup; cases hup
  | seeking => rw [hl] at hup; cases hup
  | online => exact ⟨by simp, fun g hg _ _ => by simpa using hg⟩
  | degraded =>
    by_cases hm : s.lens.miss < 7
    · simp only [if_pos hm, true_and]
      exact fun g hg _ _ => hg
    · simp only [if_neg hm, raiseEvent_frame, true_and]
      intro g hg hd hlive
      obtain ⟨f, hf, rfl⟩ := Option.map_eq_some_iff.1 hg
      by_cases hk : f.kind = .demand
      · simp [hk] at hlive
      · rwa [if_neg hk]

/-- After the settling no window is open and no live DEMAND is being sent (R53, R56). -/
theorem settleCycle_closes (h : LensInv s) : (settleCycle s).lens.window = none
    ∧ ∀ g, (settleCycle s).lens.sending = some g → isDemand g = true → g.live = false := by
  cases hup : s.lens.link.up with
  | false =>
    rw [settleCycle_closed (by rw [cycleOpen, hup]; rfl)]
    obtain ⟨-, hsends, hdown, -⟩ := h
    refine ⟨hdown hup, fun g hg hd => ?_⟩
    by_contra hlive
    have hfits := hsends g hg (by simpa using hlive)
    rw [frameFits, hd, hup] at hfits
    cases hfits
  | true =>
    cases ho : cycleOpen s.lens with
    | false =>
      rw [settleCycle_closed ho]
      obtain ⟨hw, -, hs⟩ := (cycleOpen_eq_false_iff hup).1 ho
      exact ⟨hw, hs⟩
    | true =>
      rw [settleCycle_open ho, cycleSent_eq h ho]
      obtain ⟨hw, hs⟩ := missCycle_closes (s := { s with lens := { s.lens with
        sending := s.lens.sending.map fun f => if f.kind = .demand then { f with live := false } else f } }) hup
      refine ⟨hw, fun g hg hd => ?_⟩
      by_contra hlive
      obtain ⟨f, hf, rfl⟩ := Option.map_eq_some_iff.1 (hs g hg hd (by simpa using hlive))
      by_cases hk : f.kind = .demand
      · simp [hk] at hlive
      · rw [if_neg hk] at hd
        exact hk (isDemand_iff.1 hd)

/-- A mark settles the cycle before it opens one (R53, R56). -/
theorem MarkFrom.lensInv {m : Option (Nat × Nat)} {capture : Option CaptureRecord} {u v t : State}
    (hmark : MarkFrom m capture s u v t) (h : LensInv s) : LensInv t := by
  have hu : LensInv u := h.of_lens_eq (by rw [hmark.begun])
  refine LensInv.of_lens_eq ?_ hmark.lens_eq
  have hlens := markDemands_lens m u
  have hsettled : LensInv (markDemands m u).1 := (settleCycle_lensInv hu).of_lens_eq hlens
  obtain ⟨hw, hs⟩ := settleCycle_closes hu
  rw [← hlens] at hw hs
  unfold openCycle
  split
  · rename_i hup
    exact hsettled.joins hup.symm (fun ha => by rw [ha] at hup; cases hup) (fun _ => hw) fun _ => hs
  · exact hsettled

/-! ### Acceptance (R1, R8, R13, R25) -/

theorem sensorWrite_lensInv (w : WindowRecord) (addr len : Nat) (h : LensInv s) : LensInv (sensorWrite w addr len s) := by
  unfold sensorWrite
  repeat' split
  · exact (captureStart_marks ..).lensInv h
  · exact h.of_lens_eq (by simp)
  · exact h

theorem ownerWrite_lensInv (cls : ReadClass) (addr : Nat) (beats : List Beat) (h : LensInv s) :
    LensInv (ownerWrite cls addr beats s).1 := by
  unfold ownerWrite
  split
  · exact h.of_lens_eq (by simp)
  · exact sensorWrite_lensInv _ _ _ h
  · exact h.of_lens_eq (by simp)
  · exact h.of_lens_eq (by simp)
  · exact h

theorem acceptWrite_lensInv (b : WriteBurst) (h : LensInv s) : LensInv (acceptWrite b s) := by
  unfold acceptWrite
  split
  · exact h.of_lens_eq (by simp)
  · exact h.of_lens_eq (by simp)
  · rename_i cls _
    have howner := ownerWrite_lensInv cls b.addr.toNat b.beats h
    split <;> rename_i heq <;> rw [heq] at howner <;> exact howner.of_lens_eq (by simp)

theorem acceptRequest_lensInv (r : Request) (h : LensInv s) : LensInv (acceptRequest r s) := by
  cases r with
  | write b => exact acceptWrite_lensInv b h
  | read b => exact h.of_lens_eq (by simp [acceptRequest])

theorem settle_lensInv (h : LensInv s) : LensInv (settle s) := by
  unfold settle
  generalize s.path.waiting.length = n
  fun_induction settleWaiting n s with
  | case1 => exact h
  | case2 => exact h
  | case3 n s r rest hr hl ih =>
    refine ih (acceptRequest_lensInv r ?_)
    exact h
  | case4 n s r rest hr hl ahead b behind ho ih =>
    refine ih (acceptWrite_lensInv b ?_)
    exact h
  | case5 => exact h

theorem presentRequest_lensInv (r : Request) (h : LensInv s) : LensInv (presentRequest r s) := by
  refine settle_lensInv ?_
  exact h

theorem issueNext_lensInv (h : LensInv s) : LensInv (issueNext s) := by
  unfold issueNext
  repeat' split
  · exact h
  · exact h.of_lens_eq (by simp)
  · unfold issuePass
    split
    · refine settle_lensInv ?_
      exact h
    · exact h

/-! ### Commands (R59, R63, R190) -/

theorem enterAbsent_lensInv (h : LensInv s) : LensInv (enterAbsent s) := by
  obtain ⟨-, -, -, -, -, -, -, -, hlow⟩ := h
  exact ⟨fun f hf => (by cases hf), fun f hf => (by cases hf), fun _ => rfl, fun _ => ⟨rfl, rfl⟩, rfl, fun hw => (by cases hw),
    fun f g hf => (by cases hf), fun hs => (by cases hs), hlow⟩

theorem lensEnable_lensInv (r : CommandRecord) (h : LensInv s) : LensInv (lensEnable r s).1 := by
  unfold lensEnable
  repeat' split
  · exact h
  · have hseek : LensInv (enterSeeking { s with lens := { s.lens with enable := true } }) := enterSeeking_lensInv h
    exact hseek.of_lens_eq (by simp [completes])
  · exact h

theorem lensDisable_lensInv (r : CommandRecord) (h : LensInv s) : LensInv (lensDisable r s).1 := by
  unfold lensDisable
  split
  · exact h
  · have habsent : LensInv (enterAbsent { stopDriving s with lens := { (stopDriving s).lens with enable := false } }) :=
      enterAbsent_lensInv (stopDriving_lensInv h)
    refine habsent.of_lens_eq ?_
    dsimp only [completes]
    split <;> simp

theorem lensReSeek_lensInv (r : CommandRecord) (h : LensInv s) : LensInv (lensReSeek r s).1 := by
  unfold lensReSeek
  dsimp only
  repeat' split
  · exact h
  · exact (enterSeeking_lensInv h).of_lens_eq (by simp [completes])
  · exact enterSeeking_lensInv h

theorem resetLens_lensInv (h : LensInv s) : LensInv (resetLens s) := by
  have hlow := stopDriving_lensInv h
  obtain ⟨-, -, -, -, -, -, -, -, hlow⟩ := hlow
  have hcleared : LensInv { resetEngines (resetAxes (stopDriving s)) with
      lens := (stopDriving s).lens.cleared s.straps.lensEn s.now } :=
    ⟨fun f hf => (by cases hf), fun f hf => (by cases hf), fun _ => rfl, fun _ => ⟨rfl, rfl⟩,
      by cases he : s.straps.lensEn <;> simp [LensLink.cleared], fun hw => (by cases hw), fun f g hf => (by cases hf),
      fun hs => (by cases hs), hlow⟩
  rw [resetLens_eq]
  dsimp only
  split
  · exact hcleared
  · exact hcleared.of_lens_eq (by simp)

theorem resetPart_lensInv (h : LensInv s) : LensInv (resetPart s) := by
  have hlens : LensInv (resetLens (resetReport s)) := resetLens_lensInv (h.of_lens_eq (by simp))
  exact hlens.of_lens_eq (by simp [resetPart])

/-- A command's step keeps the invariant when its meaning does (R190). -/
theorem runCommand_lensInv {accepts : CommandRecord → Bool} {body : CommandRecord → State → State × Completion}
    (hbody : ∀ r (u : State), LensInv u → LensInv (body r u).1) (h : LensInv s) : LensInv (runCommand accepts body s) := by
  unfold runCommand
  repeat' split
  · rename_i r _ _
    have hrun : LensInv (body r (popCommand s)).1 := hbody r _ h
    exact hrun.of_lens_eq (by simp [finishCommand])
  all_goals exact h

/-- A command of another block leaves the lens link alone (R190). -/
theorem runCommand_lens {accepts : CommandRecord → Bool} {body : CommandRecord → State → State × Completion}
    (hbody : ∀ r (u : State), (body r u).1.lens = u.lens) (h : LensInv s) : LensInv (runCommand accepts body s) :=
  runCommand_lensInv (fun r u hu => hu.of_lens_eq (hbody r u)) h

/-! ### The commands of the other blocks leave the lens link alone -/

@[simp] theorem windowCommands_lens (r : CommandRecord) (s : State) : (setWindow r s).1.lens = s.lens
    ∧ (clearWindow r s).1.lens = s.lens := by
  simp only [setWindow, clearWindow]
  refine ⟨?_, ?_⟩ <;> repeat' split
  all_goals simp [completes, refuses]

@[simp] theorem reportCommands_lens (r : CommandRecord) (s : State) : (unknownCommand r s).1.lens = s.lens
    ∧ (setEventMask r s).1.lens = s.lens ∧ (ackEvent r s).1.lens = s.lens ∧ (serviceDone r s).1.lens = s.lens
    ∧ (raiseCommand r s).1.lens = s.lens ∧ (statusRequest r s).1.lens = s.lens := by
  simp only [unknownCommand, setEventMask, ackEvent, serviceDone, raiseCommand, statusRequest]
  and_intros <;> repeat' split
  all_goals simp [completes, refuses]

@[simp] theorem resetJobs_lens (r : CommandRecord) (s : State) : (resetJobStab r s).1.lens = s.lens
    ∧ (resetJobFrame r s).1.lens = s.lens ∧ (resetJobAudio r s).1.lens = s.lens ∧ (resetJobOverlay r s).1.lens = s.lens
    ∧ (resetJobRecord r s).1.lens = s.lens ∧ (resetJobReport r s).1.lens = s.lens := by
  simp [resetJobStab, resetJobFrame, resetJobAudio, resetJobOverlay, resetJobRecord, resetJobReport, completes]

@[simp] theorem frameCommands_lens (r : CommandRecord) (s : State) : (setFrameRate r s).1.lens = s.lens
    ∧ (setTimecode r s).1.lens = s.lens ∧ (setTimecodeMode r s).1.lens = s.lens := by
  simp only [setFrameRate, setTimecode, setTimecodeMode]
  and_intros <;> repeat' split
  all_goals simp [completes, refuses]

@[simp] theorem axisCommands_lens (r : CommandRecord) (s : State) : (setAxisSource r s).1.lens = s.lens
    ∧ (setDirectDemand r s).1.lens = s.lens ∧ (setRocker r s).1.lens = s.lens ∧ (setOverride r s).1.lens = s.lens := by
  simp only [setAxisSource, setDirectDemand, setRocker, setOverride]
  and_intros <;> repeat' split
  all_goals simp [completes, refuses]

@[simp] theorem engineCommands_lens (r : CommandRecord) (s : State) : (engineAppend r s).1.lens = s.lens
    ∧ (engineModeRun r s).1.lens = s.lens ∧ (engineModeStep r s).1.lens = s.lens ∧ (engineModeHold r s).1.lens = s.lens
    ∧ (engineFlush r s).1.lens = s.lens := by
  simp only [engineAppend, engineModeRun, engineModeStep, setEngineMode, engineModeHold, engineFlush]
  and_intros <;> repeat' split
  all_goals simp [completes, refuses]

@[simp] theorem stabCommands_lens (r : CommandRecord) (s : State) : (gyroSetup r s).1.lens = s.lens
    ∧ (stabSetup r s).1.lens = s.lens ∧ (stabMode r s).1.lens = s.lens ∧ (biasCapture r s).1.lens = s.lens
    ∧ (stabRecentre r s).1.lens = s.lens := by
  simp only [gyroSetup, stabSetup, stabMode, biasCapture, stabRecentre]
  and_intros <;> repeat' split
  all_goals simp [completes, refuses]

@[simp] theorem overlayCommands_lens (r : CommandRecord) (s : State) : (overlayBegin r s).1.lens = s.lens
    ∧ (overlayElement r s).1.lens = s.lens ∧ (overlayCommit r s).1.lens = s.lens ∧ (setPalette r s).1.lens = s.lens
    ∧ (setZebra r s).1.lens = s.lens := by
  simp only [overlayBegin, overlayElement, overlayCommit, setPalette, setZebra]
  and_intros <;> repeat' split
  all_goals simp [completes, refuses]

@[simp] theorem audioCommands_lens (r : CommandRecord) (s : State) : (audioRoute r s).1.lens = s.lens
    ∧ (audioLimiter r s).1.lens = s.lens ∧ (audioMeter r s).1.lens = s.lens ∧ (audioSyncReset r s).1.lens = s.lens := by
  simp only [audioRoute, audioLimiter, audioMeter, audioSyncReset]
  and_intros <;> repeat' split
  all_goals simp [completes, refuses]

@[simp] theorem recordCommands_lens (r : CommandRecord) (s : State) : (recordSetup r s).1.lens = s.lens
    ∧ (recStart r s).1.lens = s.lens ∧ (recStop r s).1.lens = s.lens ∧ (clipDiscard r s).1.lens = s.lens := by
  simp only [recordSetup, recStart, recStop, clipDiscard]
  and_intros <;> repeat' split
  all_goals simp [completes, refuses]

theorem runBiasCapture_lensInv (h : LensInv s) : LensInv (runBiasCapture s) := by
  unfold runBiasCapture
  repeat' split
  · rename_i r _ _ _ t c heq
    have ht : t.lens = s.lens := by rw [← show (biasCapture r (popCommand s)).1 = t by rw [heq]]; simp
    exact h.of_lens_eq (by simpa using ht)
  · rename_i r _ _ _ t heq
    have ht : t.lens = s.lens := by rw [← show (biasCapture r (popCommand s)).1 = t by rw [heq]]; simp
    exact h.of_lens_eq ht
  all_goals exact h

end

/-! ### Every step -/

/-- Every step keeps the lens link's invariant. -/
theorem exec_lensInv {i : Instr} {s t : State} (hexec : exec i s = .next t) (h : LensInv s) : LensInv t := by
  cases i
  case pinReset cws e => cases hexec; exact (lensInv_reset cws e).of_lens_eq rfl
  case upstreamWriteAccepted b =>
    simp only [exec, execUpstreamWriteAccepted] at hexec
    split at hexec <;> cases hexec
    exact presentRequest_lensInv _ h
  case upstreamReadAccepted b =>
    simp only [exec, execUpstreamReadAccepted] at hexec
    split at hexec <;> cases hexec
    exact presentRequest_lensInv _ h
  case arbiterIssue => cases hexec; exact issueNext_lensInv h
  case readReturn a =>
    simp only [exec, execReadReturn] at hexec
    repeat' split at hexec
    all_goals cases hexec
    all_goals exact h.of_lens_eq (by simp)
  case forwardedWriteResponse d =>
    simp only [exec, execForwardedWriteResponse] at hexec
    repeat' split at hexec
    all_goals cases hexec
    all_goals exact h.of_lens_eq (by simp)
  case injectedWriteResponse d =>
    simp only [exec, execInjectedWriteResponse] at hexec
    split at hexec <;> cases hexec
    split <;> exact h.of_lens_eq (by simp)
  case upstreamResponseReturned tag => cases hexec; exact h.of_lens_eq (by simp)
  case frameMarkTimerExpiry => cases hexec; exact (timerExpiry_marks s).lensInv h
  case metadataRecordJoins => cases hexec; exact h.of_lens_eq (by simp)
  case lensFrameAbandoned cause =>
    cases cause <;> cases hexec
    · exact abandonByCharacter_lensInv _ h
    · exact abandonByGap_lensInv h
  case lensFrameDiscarded check =>
    cases hexec
    unfold discardFrame
    split
    · exact nothingTaken_lensInv _ (frameEnding_lensInv h (by assumption))
    · exact h
  case positionTaken check =>
    cases hexec
    unfold takePositionFrame
    split
    · exact positionArrives_lensInv _ _ (frameEnding_lensInv h (by assumption))
    · exact h
  case identityTaken check =>
    cases hexec
    unfold takeIdentityFrame
    split
    · exact identityArrives_lensInv _ _ (frameEnding_lensInv h (by assumption))
    · exact h
  case noticeTaken check =>
    cases hexec
    refine settle_lensInv ?_
    unfold takeNoticeFrame
    split
    · exact noticeArrives_lensInv _ _ (frameEnding_lensInv h (by assumption))
    · exact h
  case identityReplyTimeout => cases hexec; exact identityTimeout_lensInv h
  case lensFrameStart => cases hexec; exact frameStarts_lensInv h
  case lensFrameComplete => cases hexec; exact frameCompletes_lensInv h
  case lensFrameCancelled => cases hexec; exact frameCancelled_lensInv h
  case replyWindowExpiry => cases hexec; exact windowEnds_lensInv h
  case seekTimerExpiry => cases hexec; exact seekExpires_lensInv h
  case lensCharacterReceived event =>
    cases event <;> cases hexec
    · exact startBitFalls_lensInv (completeIfDone_lensInv h)
    · exact hearCharacter_lensInv _ h
    · exact lineReturnsHigh_lensInv h
  case sampleTimerExpiry =>
    cases hexec
    unfold sampleTimerExpires
    repeat' split
    all_goals exact h
  case sampleEvent gdi =>
    cases hexec
    unfold sampleEvent
    split
    · exact h.of_lens_eq (by simp)
    · exact h
  case quietIntervalEnd => cases hexec; exact h.of_lens_eq (by simp)
  case reportLeavesQueue => cases hexec; exact settle_lensInv (h.of_lens_eq (by simp))
  case heldReportJoins => cases hexec; exact settle_lensInv (h.of_lens_eq (by simp))
  case biasCapture => cases hexec; exact runBiasCapture_lensInv h
  case lensLinkEnable => cases hexec; exact runCommand_lensInv (fun r _ => lensEnable_lensInv r) h
  case lensLinkDisable => cases hexec; exact runCommand_lensInv (fun r _ => lensDisable_lensInv r) h
  case lensLinkReSeek => cases hexec; exact runCommand_lensInv (fun r _ => lensReSeek_lensInv r) h
  case resetJobLens =>
    cases hexec
    refine runCommand_lensInv (fun r u hu => ?_) h
    unfold resetJobLens
    split
    · exact hu
    · exact resetLens_lensInv hu
  case resetJobPart => cases hexec; exact runCommand_lensInv (fun _ _ hu => resetPart_lensInv hu) h
  case setWindow => cases hexec; exact settle_lensInv (runCommand_lens (by simp) h)
  case clearWindow => cases hexec; exact settle_lensInv (runCommand_lens (by simp) h)
  case recordSetup => cases hexec; exact settle_lensInv (runCommand_lens (by simp) h)
  case recStart => cases hexec; exact settle_lensInv (runCommand_lens (by simp) h)
  all_goals
    cases hexec
    exact runCommand_lens (by simp) h

theorem step_lensInv {s t : State} (hstep : step s = .next t) (h : LensInv s) : LensInv t := by
  unfold step at hstep
  split at hstep
  · exact exec_lensInv hstep h
  · cases hstep
    exact h

end Sys2Proof.Machine

namespace Sys2Proof.Proofs

open Sys2Proof Sys2Proof.Machine

/-- Settles O4: each operation on the lens link keeps the invariant, the other blocks leave the lens link alone, and a mark
settles the cycle before it opens one. -/
theorem stepKeepsLens : Obligations.StepKeepsLens :=
  fun _ _ h hstep => step_lensInv hstep h

end Sys2Proof.Proofs
end

section
/-! SUPPORT. What a received frame holds: the fields of a POSITION, an IDENTITY and a NOTICE as their bytes, and the focal length
(R44 to R46, R57, R58, R211). -/

namespace Sys2Proof.Machine

/-! ### The fields (11.5) -/

theorem field_one (p : List Byte) (k : Nat) : field p k 1 = (p.getD k 0).toNat := by simp [field_eq_sum]

theorem field_two (p : List Byte) (k : Nat) : field p k 2 = (p.getD k 0).toNat + 256 * (p.getD (k + 1) 0).toNat := by
  rw [field_add p k 1 1, field_one, field_one, pow_one]

theorem field_three (p : List Byte) (k : Nat) :
    field p k 3 = field p k 2 + 65536 * (p.getD (k + 2) 0).toNat := by
  rw [field_add p k 2 1, field_one, show 256 ^ 2 = 65536 from rfl]

theorem byteOf_toNat (b : Byte) : byteOf b.toNat = b := by
  rw [byteOf, BitVec.ofNat_toNat, BitVec.setWidth_eq]

/-- The extender percent is brought into 100 to 400 (R46). -/
theorem clampNat_extender (v : Nat) : clampNat 100 400 v = if v < 100 then 100 else if 400 < v then 400 else v := by
  unfold clampNat
  split
  · omega
  · split <;> omega

/-- A rocker of −128 is stored as −127 (R46). -/
theorem rocker_stored {v : Nat} (h : v < 256) :
    max (-127) (signed 8 v) = if v < 128 then (v : Int) else if v = 128 then -127 else (v : Int) - 256 := by
  rw [signed_of_width]
  split
  · omega
  · split <;> omega

/-! ### Which frame it is (R45) -/

theorem classifyFrame_position {p : List Byte} (h : p.length = 18) : classifyFrame 0x20 p = .position (positionOf p) :=
  if_pos ⟨rfl, h⟩

/-- The limits of an identity are in order (R45). -/
def Identity.ordered (i : Identity) : Prop := i.zoomMin ≤ i.zoomMax ∧ i.focusMin ≤ i.focusMax ∧ i.irisMin ≤ i.irisMax

theorem classifyFrame_identity {p : List Byte} (h : p.length = 56) (ho : (identityOf p).ordered) :
    classifyFrame 0x21 p = .identity (identityOf p) := by
  unfold classifyFrame
  rw [if_neg (show ¬ ((0x21 : Byte) = positionType ∧ _) from fun hk => absurd hk.1 (by decide)), if_pos ⟨rfl, h⟩]
  exact if_pos ho

theorem classifyFrame_notice (b : Byte) : classifyFrame 0x22 [b] = match Notice.ofCode b.toNat with
    | some n => .notice n
    | none => .discarded := by
  unfold classifyFrame
  rw [if_neg (show ¬ ((0x22 : Byte) = positionType ∧ _) from fun hk => absurd hk.1 (by decide)),
    if_neg (show ¬ ((0x22 : Byte) = identityType ∧ _) from fun hk => absurd hk.1 (by decide)), if_pos ⟨rfl, rfl⟩, field_one]
  rfl

/-- The codes of the three notices (11.5). -/
theorem Notice.ofCode_eq_none {n : Nat} (h1 : n ≠ 1) (h2 : n ≠ 2) (h3 : n ≠ 3) : Notice.ofCode n = none := by
  unfold Notice.ofCode
  split
  · exact absurd rfl h1
  · exact absurd rfl h2
  · exact absurd rfl h3
  · rfl

/-- Every other frame is discarded (R45, R57). -/
theorem classifyFrame_discarded {ty : Byte} {p : List Byte} (hposition : ty = 0x20 → p.length ≠ 18)
    (hidentity : ty = 0x21 → p.length ≠ 56 ∨ ¬ (identityOf p).ordered)
    (hnotice : ty = 0x22 → p ≠ [1] ∧ p ≠ [2] ∧ p ≠ [3]) : classifyFrame ty p = .discarded := by
  unfold classifyFrame
  rw [if_neg (show ¬ (ty = positionType ∧ p.length = 18) from fun hk => hposition hk.1 hk.2)]
  by_cases hi : ty = identityType ∧ p.length = 56
  · rw [if_pos hi]
    exact if_neg ((hidentity hi.1).resolve_left fun hl => hl hi.2)
  · rw [if_neg hi]
    by_cases hn : ty = noticeType ∧ p.length = 1
    · obtain ⟨hty, hl⟩ := hn
      obtain ⟨b, rfl⟩ := List.length_eq_one_iff.1 hl
      obtain ⟨h1, h2, h3⟩ := hnotice hty
      have hcode : ∀ k : Byte, [b] ≠ [k] → field [b] 0 1 ≠ k.toNat := fun k hk hb =>
        hk (congrArg ([·]) (BitVec.eq_of_toNat_eq ((field_one [b] 0).symm.trans hb)))
      rw [if_pos ⟨hty, hl⟩, Notice.ofCode_eq_none (hcode 1 h1) (hcode 2 h2) (hcode 3 h3)]
    · exact if_neg hn

/-! ### The focal length (R58) -/

/-- The focal length between two entries of the table is not negative: f is below 8,192. -/
theorem bare_focal_nonneg {lo hi f : Nat} (hf : f < 8192) :
    0 ≤ (lo : Int) + Int.tdiv (((hi : Int) - (lo : Int)) * (f : Nat)) 8192 := by
  rcases Nat.le_total lo hi with h | h
  · have : 0 ≤ Int.tdiv (((hi : Int) - (lo : Int)) * (f : Nat)) 8192 :=
      Int.tdiv_nonneg (Int.mul_nonneg (by omega) (by omega)) (by omega)
    omega
  · have hneg : Int.tdiv (((hi : Int) - (lo : Int)) * (f : Nat)) 8192 = -(((lo - hi) * f / 8192 : Nat) : Int) := by
      rw [show ((hi : Int) - (lo : Int)) * (f : Nat) = -(((lo - hi) * f : Nat) : Int) by push_cast [h]; ring, Int.neg_tdiv]
      exact congrArg (- ·) (Int.ofNat_tdiv _ 8192)
    have hle : (lo - hi) * f / 8192 ≤ lo := by
      calc (lo - hi) * f / 8192 ≤ (lo - hi) * 8192 / 8192 := Nat.div_le_div_right (Nat.mul_le_mul_left _ hf.le)
        _ = lo - hi := Nat.mul_div_cancel _ (by decide)
        _ ≤ lo := Nat.sub_le ..
    rw [hneg]
    omega

/-- F at a POSITION (R58). -/
theorem focalLength_eq (i : Identity) (p : Position) :
    let table := fun k : Nat => (i.focal.getD k 0 : Int)
    let k := p.zoom / 8192
    let bare := table k + Int.tdiv ((table (k + 1) - table k) * (p.zoom % 8192 : Nat)) 8192
    (focalLength i p : Int) = if i.extender = true then Int.tdiv (bare * p.extender) 100 else bare := by
  intro table k bare
  have hbare : 0 ≤ bare := bare_focal_nonneg (Nat.mod_lt _ (by decide))
  have heq : focalLength i p = (Int.tdiv (bare * (extenderFactor i p : Nat)) 100).toNat := by
    unfold focalLength
    simp only [truncDiv_eq_tdiv]
    rfl
  rw [heq, Int.toNat_of_nonneg (Int.tdiv_nonneg (Int.mul_nonneg hbare (by omega)) (by omega)), extenderFactor]
  split
  · rfl
  · exact Int.mul_tdiv_cancel _ (by decide)

end Sys2Proof.Machine

namespace Sys2Proof.Proofs

open Sys2Proof Sys2Proof.Machine

/-- Settles O33: each frame by its type, its payload field by field, and F from the table. -/
theorem lensFramesRead : Obligations.LensFramesRead := by
  refine ⟨?_, focalLength_eq⟩
  intro ty p byte two twos position identity ordered
  have htwo : ∀ k, field p k 2 = two k := field_two p
  have hthree : ∀ k, field p (24 + 3 * k) 3 = two (24 + 3 * k) + 65536 * byte (26 + 3 * k) := fun k => by
    rw [field_three, htwo, show 24 + 3 * k + 2 = 26 + 3 * k by omega]
  have hposition : positionOf p = position := by
    have hrocker := rocker_stored (p.getD 14 0).isLt
    simp only [positionOf, htwo, field_one, byteOf_toNat, clampNat_extender, hrocker]
    rfl
  have hidentity : identityOf p = identity := by
    simp only [identityOf, htwo, field_one, hthree]
    rfl
  have hordered : (identityOf p).ordered ↔ ordered := by rw [hidentity]; rfl
  refine ⟨?_, ?_, ?_, ?_, ?_, fun h20 h21 h22 => ?_⟩
  · rintro rfl hl
    rw [classifyFrame_position hl, hposition]
  · rintro rfl hl ho
    rw [classifyFrame_identity hl (hordered.2 ho), hidentity]
  · rintro rfl rfl
    exact classifyFrame_notice 1
  · rintro rfl rfl
    exact classifyFrame_notice 2
  · rintro rfl rfl
    exact classifyFrame_notice 3
  · exact classifyFrame_discarded h20 (fun h => (h21 h).imp_right (mt hordered.1)) h22

end Sys2Proof.Proofs
end

section
/-! SUPPORT. A POSITION that completes: what it stores, the cycle it answers, and the identity reply it completes (R46, R50 to R52,
R54, R58, R72). -/

namespace Sys2Proof.Machine

/-! ### The character that completes a frame (R44, R45) -/

/-- The end of the character on the line (R43). -/
theorem readCharacter_some {s : State} {last : Nat} (h : s.lens.charStart = some last) (c : LineChar) :
    readCharacter c s = some (last, receive s.lens.rx last c, afterCharacter last c s.lens.rx s) := by
  unfold readCharacter
  rw [h]
  rfl

theorem receive_completes {s : State} {start last : Nat} {ty : Byte} {p : List Byte} {c : LineChar}
    (h : Completes s start ty p last c) : receive s.lens.rx last c = .received start ty p := by
  obtain ⟨len, hrx, hl, hgood, hsum, -⟩ := h
  simp [receive, hrx, hgood, hl, show sumBytes (ty :: len :: (p ++ [c.data])) = 0 from hsum]

/-- A frame that its CHECK completes is taken in the state after that character. -/
theorem frameEnding_completes {s : State} {start last : Nat} {ty : Byte} {p : List Byte} {c : LineChar}
    (h : Completes s start ty p last c) :
    frameEnding c s = some (start, classifyFrame ty p, afterCharacter last c none s) := by
  have hreceived := receive_completes h
  obtain ⟨len, -, -, -, -, hstart⟩ := h
  unfold frameEnding
  rw [readCharacter_some hstart, hreceived]
  rfl

/-! ### What a POSITION stores (R46, R50, R54) -/

/-- A POSITION answers the window that its start lies in (R54). -/
def windowAnswered (start : Nat) (window : Option ReplyWindow) : Option ReplyWindow :=
  match window with
  | some w => if w.opens ≤ start ∧ start ≤ w.closes then none else some w
  | none => none

theorem answerCycle_eq (start : Nat) (s : State) :
    answerCycle start s = { s with lens := { s.lens with window := windowAnswered start s.lens.window } } := by
  unfold answerCycle windowAnswered
  cases h : s.lens.window with
  | none => exact congrArg (fun w => { s with lens := { s.lens with window := w } }) h
  | some w =>
    by_cases hw : w.opens ≤ start ∧ start ≤ w.closes
    · simp [ReplyWindow.contains, hw]
    · have hsame : { s with lens := { s.lens with window := some w } } = s := by rw [← h]
      simp [ReplyWindow.contains, hw, hsame]

theorem becomeOnline_eq (s : State) : becomeOnline s = { s with lens := { s.lens with
    link := .online, seek := none, waiting := s.lens.waiting.filter fun f => f.kind == .demand
    sending := s.lens.sending.map fun f => if f.kind = .demand then f else { f with live := false } } } := by
  have hkept : (fun f : TxFrame => if isDemand f then f else f.over) =
      fun f => if f.kind = .demand then f else { f with live := false } :=
    funext fun f => if_congr isDemand_iff rfl rfl
  rw [becomeOnline, hkept]
  rfl

/-- In ONLINE a POSITION that completes no reply is stored, and nothing else (R46). -/
theorem takePosition_online {p : Position} {s : State} (h : s.lens.link = .online) :
    takePosition p s = storePosition p s := by
  simp [takePosition, h]

/-- In DEGRADED it leads back to ONLINE, with LENS_STATE (R46, R50). -/
theorem takePosition_degraded {p : Position} {s : State} (h : s.lens.link = .degraded) :
    takePosition p s = raiseEvent (.lensState .online 0 false) (becomeOnline (storePosition p s)) := by
  simp only [takePosition, h, if_true, raiseLensState, storePosition_eq]
  rfl

/-- A POSITION that starts after the 2 ms of the provisional identity, or with none held, completes no reply (R51). -/
theorem positionArrives_alone {start : Nat} {p : Position} {s : State}
    (h : ∀ v, s.lens.provisional = some v → v.deadline < start) : positionArrives start p s =
      if s.lens.link = .absent then s else if s.lens.link = .seeking then lapseProvisional s
      else lapseProvisional (answerCycle start (takePosition p s)) := by
  unfold positionArrives
  cases hv : s.lens.provisional with
  | none => cases s.lens.link <;> rfl
  | some v =>
    simp only [if_neg (Nat.not_le.2 (h v hv))]
    cases s.lens.link <;> rfl

/-- One that starts by the end of the 2 ms completes it (R51). -/
theorem positionArrives_completing {start : Nat} {p : Position} {s : State} {v : Provisional}
    (hv : s.lens.provisional = some v) (hstart : start ≤ v.deadline) (hl : s.lens.link ≠ .absent) :
    positionArrives start p s = answerCycle start (completeReply v.identity p s) := by
  unfold positionArrives
  simp only [hv, if_pos hstart]

/-! ### The identity reply (R51, R52, R72) -/

/-- The engine bound to an axis takes the axis's aligned demand as its output (R72). -/
def outputAligned (c : AxisController) (zoom focus iris : Nat) (id : EngineId) (g : Engine) : Engine :=
  if c.zoom.source = .engine id then { g with output := zoom }
  else if c.focus.source = .engine id then { g with output := focus }
  else if c.iris.source = .engine id then { g with output := iris } else g

theorem alignEngines_eq (c : AxisController) (zoom focus iris : Nat) (m : MoveEngines) :
    alignEngines c zoom focus iris m = ⟨outputAligned c zoom focus iris .e1 m.e1, outputAligned c zoom focus iris .e2 m.e2,
      outputAligned c zoom focus iris .e3 m.e3⟩ := by
  have hbound : ∀ id g, (match boundAxis c id with
      | some .zoom => { g with output := zoom }
      | some .focus => { g with output := focus }
      | some .iris => { g with output := iris }
      | none => g) = outputAligned c zoom focus iris id g := by
    intro id g
    unfold boundAxis outputAligned
    by_cases hz : c.zoom.source = .engine id
    · rw [if_pos hz, if_pos hz]
    · rw [if_neg hz, if_neg hz]
      by_cases hf : c.focus.source = .engine id
      · rw [if_pos hf, if_pos hf]
      · rw [if_neg hf, if_neg hf]
        by_cases hi : c.iris.source = .engine id
        · rw [if_pos hi, if_pos hi]
        · rw [if_neg hi, if_neg hi]
  exact congr (congrArg₂ MoveEngines.mk (hbound _ _) (hbound _ _)) (hbound _ _)

/-- The lens link as a completed reply leaves it, before the demands are aligned (R51). -/
def replied (i : Identity) (p : Position) (s : State) : State :=
  becomeOnline (storePosition p { s with lens := { s.lens with identity := some i, provisional := none } })

theorem replied_eq (i : Identity) (p : Position) (s : State) : replied i p s = { s with lens := { s.lens with
    identity := some i, provisional := none, position := some p, miss := 0, focal := focalLength i p
    link := .online, seek := none, waiting := s.lens.waiting.filter fun f => f.kind == .demand
    sending := s.lens.sending.map fun f => if f.kind = .demand then f else { f with live := false } } } := by
  rw [replied, becomeOnline_eq, storePosition_eq]
  rfl

/-- The first reply aligns the demands (R51). -/
theorem completeReply_first {i : Identity} {p : Position} {s : State} (h : s.lens.identity = none) : completeReply i p s =
    if s.lens.link = .online then align p (replied i p s) else raiseLensState false (align p (replied i p s)) := by
  unfold completeReply
  simp only [h]
  rfl

/-- Another lens is a lens change: the engines flushed and the demands aligned (R52). -/
theorem completeReply_changed {i old : Identity} {p : Position} {s : State} (h : s.lens.identity = some old)
    (hd : identityDiffers old i = true) :
    completeReply i p s = raiseLensState true (align p (flushAll (replied i p s))) := by
  unfold completeReply
  simp only [h, hd]
  rfl

/-- The same lens aligns the demands from SEEKING alone (R51). -/
theorem completeReply_same {i old : Identity} {p : Position} {s : State} (h : s.lens.identity = some old)
    (hd : identityDiffers old i = false) : completeReply i p s =
    let t := if s.lens.link = .seeking then align p (replied i p s) else replied i p s
    if s.lens.link = .online then t else raiseLensState false t := by
  unfold completeReply
  simp only [h, hd]
  rfl

theorem identityDiffers_iff {a b : Identity} : identityDiffers a b = true ↔ a.name ≠ b.name ∨ a.zoomMin ≠ b.zoomMin
    ∨ a.zoomMax ≠ b.zoomMax ∨ a.focusMin ≠ b.focusMin ∨ a.focusMax ≠ b.focusMax ∨ a.irisMin ≠ b.irisMin
    ∨ a.irisMax ≠ b.irisMax ∨ a.shiftX ≠ b.shiftX ∨ a.shiftY ≠ b.shiftY := by
  simp [identityDiffers, or_assoc]

end Sys2Proof.Machine

namespace Sys2Proof.Proofs

open Sys2Proof Sys2Proof.Machine

/-- Settles O34: with no reply to complete, the link state alone decides what a POSITION does. -/
theorem positionTaken : Obligations.PositionTaken := by
  intro s start ty p last c q hc hclass after
  have hexec : exec (.positionTaken c) s = .next (positionArrives start q after) := by
    simp only [exec, execPositionTaken, takePositionFrame, frameEnding_completes hc, hclass]
    rfl
  refine ⟨fun hl => ?_, fun hlate => ?_⟩
  · have hnothing : positionArrives start q after = after := by
      unfold positionArrives
      rw [show after.lens.link = .absent from hl]
    rw [hexec, hnothing]
  · intro t stored
    have harrives := positionArrives_alone (p := q) (s := after) hlate
    rw [show after.lens.link = s.lens.link from rfl] at harrives
    refine ⟨fun hl => ?_, fun hl => ?_, fun hl => ?_⟩
    · simp only [hl, reduceCtorEq, if_false, takePosition_online (s := after) hl, storePosition_eq, answerCycle_eq,
        lapseProvisional_eq] at harrives
      exact hexec.trans (congrArg _ harrives)
    · simp only [hl, reduceCtorEq, if_false, takePosition_degraded (s := after) hl, becomeOnline_eq, storePosition_eq,
        raiseEvent_eq, answerCycle_eq, lapseProvisional_eq] at harrives
      rw [raiseEvent_eq]
      exact hexec.trans (congrArg _ harrives)
    · simp only [hl, reduceCtorEq, if_false, if_true, lapseProvisional_eq] at harrives
      exact hexec.trans (congrArg _ harrives)

/-- Settles O35: the reply stored, and the demands aligned, the engines flushed and LENS_STATE raised as the stored identity and
the link state before it ask. -/
theorem identityReplyCompleted : Obligations.IdentityReplyCompleted := by
  intro s start ty p last c q v hc hclass hv hstart hl i u t zoom focus iris set output aligned flush flushed differs reported
  have hexec : exec (.positionTaken c) s = .next (answerCycle start (completeReply i q u)) := by
    simp only [exec, execPositionTaken, takePositionFrame, frameEnding_completes hc, hclass]
    exact congrArg _ (positionArrives_completing hv hstart hl)
  have halign : align q (replied i q u) = { replied i q u with axis := (aligned t).axis, engines := (aligned t).engines } := by
    simp only [align, alignEngines_eq, replied_eq]
    rfl
  have hflush : align q (flushAll (replied i q u)) =
      { replied i q u with axis := (aligned flushed).axis, engines := (aligned flushed).engines } := by
    simp only [align, alignEngines_eq, replied_eq]
    rfl
  have hdiffers : ∀ old, identityDiffers old i = true ↔ differs old := fun _ => identityDiffers_iff
  have htold : ∀ changed a m, answerCycle start (raiseLensState changed { replied i q u with axis := a, engines := m }) =
      raiseEvent (.lensState .online 0 changed) { t with axis := a, engines := m } := fun changed a m => by
    rw [answerCycle_eq, raiseLensState, raiseEvent_eq, raiseEvent_eq, replied_eq]
    rfl
  have hquiet : ∀ a m, answerCycle start { replied i q u with axis := a, engines := m } = { t with axis := a, engines := m } :=
    fun a m => by
      rw [answerCycle_eq, replied_eq]
      rfl
  refine ⟨fun hid hnot => ?_, fun hid hon => ?_, fun old hid hd => ?_, fun old hid hd => ?_⟩
  · have hfirst := completeReply_first (i := i) (p := q) (s := u) hid
    rw [if_neg (show ¬ u.lens.link = .online from hnot)] at hfirst
    rw [hexec, hfirst, halign, htold]
  · have hfirst := completeReply_first (i := i) (p := q) (s := u) hid
    rw [if_pos (show u.lens.link = .online from hon)] at hfirst
    rw [hexec, hfirst, halign, hquiet]
  · rw [hexec, completeReply_changed (s := u) hid ((hdiffers old).2 hd), hflush, htold]
  · have hsame := completeReply_same (p := q) (s := u) hid (Bool.eq_false_iff.2 (mt (hdiffers old).1 hd))
    rw [show u.lens.link = s.lens.link from rfl] at hsame
    refine ⟨fun hl => ?_, fun hl => ?_, fun hl => ?_⟩
    · simp only [hl, if_true, reduceCtorEq, if_false] at hsame
      rw [hexec, hsame, halign, htold]
    · simp only [hl, reduceCtorEq, if_false] at hsame
      rw [hexec, hsame]
      exact congrArg _ (htold false u.axis u.engines)
    · simp only [hl, reduceCtorEq, if_false, if_true] at hsame
      rw [hexec, hsame]
      exact congrArg _ (hquiet u.axis u.engines)

end Sys2Proof.Proofs
end

section
/-! SUPPORT. A frame that is no POSITION, and the record button of a NOTICE against the commands it stands for (R45, R51, R54, R57,
R173). -/

namespace Sys2Proof.Machine

/-! ### The end of a frame that is no POSITION (R45, R51, R54) -/

/-- The cycle after a character is that before it: a character changes the receiver, the line and the clock. -/
theorem sameCycle_afterCharacter (last : Nat) (c : LineChar) (rx : Option Assembly) (s : State) :
    SameCycle s (afterCharacter last c rx s) := ⟨rfl, rfl, rfl, rfl, rfl, rfl, rfl⟩

/-- What drops a provisional identity stays in the cycle. -/
theorem SameCycle.lapseProvisional {s t : State} (h : SameCycle s t) : SameCycle s (lapseProvisional t) := by
  rw [lapseProvisional_eq]
  exact ⟨h.link, h.miss, h.waiting, h.sending, h.window, h.axis, h.engines⟩

/-- So does what leaves the lens link, the axes and the engines alone. -/
theorem SameCycle.of_eq {s t u : State} (h : SameCycle s t) (hl : u.lens = t.lens) (ha : u.axis = t.axis)
    (he : u.engines = t.engines) : SameCycle s u :=
  ⟨hl ▸ h.link, hl ▸ h.miss, hl ▸ h.waiting, hl ▸ h.sending, hl ▸ h.window, ha.trans h.axis, he.trans h.engines⟩

/-- A provisional identity is dropped by the 2 ms of the state it was held in. -/
def lapsed (s : State) (now : Nat) (t : State) : State :=
  { t with lens := { t.lens with provisional := s.lens.provisional.filter fun q => decide (now < q.deadline) } }

theorem nothingTaken_eq {s t : State} (h : SameCycle s t) (hp : t.lens.provisional = s.lens.provisional) (start : Nat) :
    nothingTaken start t = windowClosed s start t.now (lapsed s t.now t) := by
  rw [nothingTaken, endHeldWindow_eq h.lapseProvisional, lapseProvisional_eq, hp]
  rfl

/-! ### REC START and REC STOP without their command record (R161, R164, R173) -/

/-- A state with another command interface. -/
def State.commanded (c : CommandInterface) (s : State) : State := { s with command := c }

theorem evaluateLevel_commanded (c : CommandInterface) (s : State) :
    evaluateLevel (s.commanded c) = (evaluateLevel s).commanded c := by
  unfold evaluateLevel
  rw [show (s.commanded c).ring = s.ring from rfl]
  cases s.ring with
  | none => rfl
  | some ring =>
    dsimp only
    rw [apply_ite (State.commanded c), raiseEvent_eq, raiseEvent_eq]
    rfl

theorem defineDrain_commanded (n : Nat) (c : CommandInterface) (s : State) :
    defineDrain n (s.commanded c) = (defineDrain n s).commanded c := by
  unfold defineDrain
  rw [show (s.commanded c).record = s.record from rfl]
  cases s.record.drain <;> rfl

theorem addClip_commanded (st : ClipState) (start : Option Nat) (chain : Option Half) (c : CommandInterface) (s : State) :
    addClip st start chain (s.commanded c) = (addClip st start chain s).commanded c := by
  rw [addClip, addClip, raiseEvent_eq, raiseEvent_eq]
  rfl

/-- REC START does not look at the command interface, and completes with a status alone. -/
theorem recStartWith_commanded (named : Option Nat) (c : CommandInterface) (s : State) :
    recStartWith named (s.commanded c) = ((recStartWith named s).1.commanded c, (recStartWith named s).2) := by
  unfold recStartWith
  rw [show recStartChecks (s.commanded c) = recStartChecks s from rfl, show (s.commanded c).ring = s.ring from rfl,
    show (s.commanded c).record = s.record from rfl, show (s.commanded c).frame = s.frame from rfl]
  cases firstRefusal (recStartChecks s) with
  | some st => rfl
  | none =>
    cases s.ring with
    | none => rfl
    | some ring =>
      simp only [addClip_commanded]
      cases clipIn .closing s.record.clips with
      | some clip => rfl
      | none =>
        dsimp only
        split
        · rfl
        · cases startEntry (min 240 (named.getD ring.2.preRoll)) s.record.index with
          | none => rfl
          | some e => simp only [defineDrain_commanded, evaluateLevel_commanded]; rfl

theorem recStartWith_completes (named : Option Nat) (s : State) :
    ∃ st, recStartWith named s = completes st (recStartWith named s).1 := by
  unfold recStartWith
  repeat' split
  all_goals exact ⟨_, rfl⟩

/-- REC STOP does not look at the command interface. -/
theorem recStopNow_commanded (c : CommandInterface) (s : State) :
    recStopNow (s.commanded c) = ((recStopNow s).1.commanded c, (recStopNow s).2) := by
  unfold recStopNow
  rw [show (s.commanded c).record = s.record from rfl]
  cases clipIn .opened s.record.clips with
  | some clip => simp only [raiseEvent_eq]; rfl
  | none =>
    cases clipIn .armed s.record.clips with
    | some clip => simp only [raiseEvent_eq]; rfl
    | none => rfl

/-- With a clip ARMED or OPEN, REC STOP is done (R164). -/
theorem recStopNow_completes {s : State} (h : ∃ c ∈ s.record.clips, c.state = .armed ∨ c.state = .opened) :
    recStopNow s = completes .done (recStopNow s).1 := by
  unfold recStopNow
  cases ho : clipIn .opened s.record.clips with
  | some clip => rfl
  | none =>
    obtain ⟨c, hc, harmed | hopen⟩ := h
    · obtain ⟨clip, ha⟩ := clipIn_eq_some_of_mem ⟨c, hc, harmed⟩
      rw [ha]
      rfl
    · exact absurd hopen (clipIn_eq_none.1 ho c hc)

theorem clipAtWork_iff {clips : List Clip} : (hasClip .armed clips || hasClip .opened clips) = true ↔
    ∃ c ∈ clips, c.state = .armed ∨ c.state = .opened := by
  simp only [hasClip, Bool.or_eq_true, List.any_eq_true, beq_iff_eq]
  grind

/-- The record button with no clip at work is REC START (R173). -/
theorem recordButton_start {s : State} {size : Nat} {setup : RingSetup} (hr : s.ring = some (size, setup))
    (hb : setup.button = true) (h : ¬ ∃ c ∈ s.record.clips, c.state = .armed ∨ c.state = .opened) :
    recordButton s = (recStartWith none s).1 := by
  simp only [recordButton, hr, hb, Bool.not_true, Bool.false_eq_true, if_false, if_neg (mt clipAtWork_iff.1 h)]

/-- With one it is REC STOP (R173). -/
theorem recordButton_stop {s : State} {size : Nat} {setup : RingSetup} (hr : s.ring = some (size, setup))
    (hb : setup.button = true) (h : ∃ c ∈ s.record.clips, c.state = .armed ∨ c.state = .opened) :
    recordButton s = (recStopNow s).1 := by
  simp only [recordButton, hr, hb, Bool.not_true, Bool.false_eq_true, if_false, if_pos (clipAtWork_iff.2 h)]

end Sys2Proof.Machine

namespace Sys2Proof.Proofs

open Sys2Proof Sys2Proof.Machine

/-- Settles O36: what each frame leaves is the same ending, the lapsed identity and then the window held open for it; and the
record button is REC START or REC STOP, which never look at the command interface. -/
theorem identityAndNoticeTaken : Obligations.IdentityAndNoticeTaken := by
  refine ⟨?_, fun s => ⟨fun hr => by simp [recordButton, hr], ?_⟩⟩
  · intro s start ty p last c hc u drives hold missed ends lapses
    have hcycle : SameCycle s u := sameCycle_afterCharacter last c none s
    refine ⟨fun i hi => ?_, fun n hn hw => ?_, fun hd => ?_⟩
    · have hexec : exec (.identityTaken c) s = .next (identityArrives start i u) := by
        simp only [exec, execIdentityTaken, takeIdentityFrame, frameEnding_completes hc, hi]
        rfl
      refine ⟨fun hl => ?_, fun hl => ?_⟩
      · rw [hexec, identityArrives, if_pos (show u.lens.link = .absent from hl)]
      · rw [hexec, identityArrives, if_neg (show ¬ u.lens.link = .absent from hl)]
        exact congrArg _ (endHeldWindow_eq ⟨rfl, rfl, rfl, rfl, rfl, rfl, rfl⟩ start)
    · have hsettled : settle (noticeArrives start n u) = noticeArrives start n u :=
        settle_of_waiting_nil (by simpa [u, afterCharacter] using hw)
      have hexec : exec (.noticeTaken c) s = .next (noticeArrives start n u) := by
        rw [← hsettled]
        simp only [exec, execNoticeTaken, takeNoticeFrame, frameEnding_completes hc, hn]
        rfl
      have hraised : SameCycle s (raiseEvent (.lensNotice n) u) := hcycle.of_eq (by simp) (by simp) (by simp)
      refine ⟨fun hl => ?_, fun hl hother => ?_, fun hl hbutton => ?_⟩
      · rw [hexec, noticeArrives, if_pos (show u.lens.link = .absent from hl)]
      · rw [hexec, noticeArrives, if_neg (show ¬ u.lens.link = .absent from hl)]
        simp only [if_neg hother]
        refine congrArg _ ((nothingTaken_eq hraised (by simp [u, afterCharacter]) start).trans ?_)
        rw [show (raiseEvent (.lensNotice n) u).now = u.now by simp]
        rfl
      · rw [hexec, noticeArrives, if_neg (show ¬ u.lens.link = .absent from hl)]
        simp only [if_pos hbutton]
        refine congrArg _ ((nothingTaken_eq (hraised.of_eq (by simp) (by simp) (by simp)) (by simp [u, afterCharacter])
          start).trans ?_)
        rw [show (recordButton (raiseEvent (.lensNotice n) u)).now = u.now by simp]
        rfl
    · have hexec : exec (.lensFrameDiscarded c) s = .next (nothingTaken start u) := by
        simp only [exec, execLensFrameDiscarded, discardFrame, frameEnding_completes hc, hd]
        rfl
      exact hexec.trans (congrArg _ (nothingTaken_eq hcycle rfl start))
  · intro size setup hr
    refine ⟨fun hb => by simp [recordButton, hr, hb], fun r hb hw => ?_⟩
    intro asked done
    have hnext : NextIs asked r := ⟨rfl, rfl⟩
    refine ⟨by simp, fun hcode hhalf hnone => ?_, fun hcode hclip => ?_⟩
    · obtain ⟨st, hst⟩ := recStartWith_completes none s
      have hidle : ¬ ∃ c ∈ s.record.clips, c.state = .armed ∨ c.state = .opened := by
        rintro ⟨c, hc, h | h⟩
        · exact (hnone c hc).1 h
        · exact (hnone c hc).2 h
      have hbody : recStart r (popCommand asked) = completes st done := by
        rw [recStart, if_pos hhalf]
        refine (recStartWith_commanded none ⟨[], []⟩ s).trans ?_
        rw [show done = (recordButton s).commanded ⟨[], []⟩ from rfl, recordButton_start hr hb hidle, hst]
        rfl
      refine ⟨st, ?_⟩
      rw [exec, execRecStart, runCommand_next hnext (CommandRecord.is_of_code hcode (by decide)), hbody,
        finishCommand_completes]
      exact congrArg _ (settle_offer (by simpa [done] using hw))
    · have hbody : recStop r (popCommand asked) = completes .done done := by
        refine (recStopNow_commanded ⟨[], []⟩ s).trans ?_
        rw [show done = (recordButton s).commanded ⟨[], []⟩ from rfl, recordButton_stop hr hb hclip, recStopNow_completes hclip]
        rfl
      exact next_runCommand (fun _ => rfl) hnext (CommandRecord.is_of_code hcode (by decide)) hbody

end Sys2Proof.Proofs
end

section
/-! SUPPORT. SET AXIS SOURCE and LENS LINK, branch by branch (R50, R59, R65, R81). -/

namespace Sys2Proof.Machine

section
variable {r : CommandRecord} {s : State} {a : Axis} {src : Source}

/-! ### SET AXIS SOURCE (R64, R65) -/

/-- ROCKER fits ZOOM alone, WHEEL fits FOCUS alone, any other source fits every axis (R64, R65). -/
theorem sourceFits_iff : sourceFits a src = true ↔ (src = .rocker → a = .zoom) ∧ (src = .wheel → a = .focus) := by
  cases src <;> cases a <;> simp [sourceFits]

theorem Axis.eq_of_ofCode {n : Nat} (h : Axis.ofCode n = some a) : n = a.code := by
  unfold Axis.ofCode at h
  split at h <;> cases h <;> rfl

/-- An axis or a source that names nothing, or two that do not fit, are refused (R65). -/
theorem setAxisSource_refused (h : ∀ a src, Axis.ofCode (r.byte 4) = some a → Source.ofCode (r.byte 5) = some src →
    sourceFits a src = false) : setAxisSource r s = refuses .refusedRange s := by
  unfold setAxisSource
  cases ha : Axis.ofCode (r.byte 4) with
  | none => rfl
  | some a =>
    cases hs : Source.ofCode (r.byte 5) with
    | none => rfl
    | some src => simp [h a src ha hs]

theorem setAxisSource_current (ha : Axis.ofCode (r.byte 4) = some a) (hs : Source.ofCode (r.byte 5) = some src)
    (hf : sourceFits a src = true) (h : (s.axis.get a).source = src) : setAxisSource r s = completes .done s := by
  simp [setAxisSource, ha, hs, hf, h]

/-- An axis that a source does not drive keeps its record as the source leaves the others (R65). -/
theorem releaseEngine_get {c : AxisController} (h : (c.get a).source ≠ src) : (releaseEngine src c).get a = c.get a := by
  cases src with
  | engine id =>
    have hkept : releaseFrom id (c.get a) = c.get a := if_neg h
    cases a <;> exact hkept
  | rocker | wheel | direct | hold => rfl

/-- The engines when a source becomes an axis's source: an engine takes the axis's demand as its output (R65). -/
def MoveEngines.taken (src : Source) (demand : Nat) (m : MoveEngines) : MoveEngines :=
  match src with
  | .engine id => m.set id { m.get id with output := demand }
  | _ => m

theorem setAxisSource_new (ha : Axis.ofCode (r.byte 4) = some a) (hs : Source.ofCode (r.byte 5) = some src)
    (hf : sourceFits a src = true) (h : (s.axis.get a).source ≠ src) :
    setAxisSource r s = completes .done { s with
      axis := (releaseEngine src s.axis).set a { source := src, demand := (s.axis.get a).demand
                                                 direct := if src = .direct then (s.axis.get a).demand else (s.axis.get a).direct }
      engines := s.engines.taken src (s.axis.get a).demand } := by
  simp only [setAxisSource, ha, hs, hf, if_neg h, releaseEngine_get h, Bool.not_true, Bool.false_eq_true, if_false]
  rfl

/-! ### LENS LINK (R59) -/

/-- An action that names none of the three. -/
theorem CommandRecord.linkActionNone_iff (h : r.code = 0x0028) : r.linkActionNone = true ↔ r.byte 4 = 0 ∨ 3 < r.byte 4 := by
  have hin : [1, 2, 3].contains (r.byte 4) = true ↔ ¬ (r.byte 4 = 0 ∨ 3 < r.byte 4) := by
    simp only [List.contains_iff_mem, List.mem_cons, List.not_mem_nil, or_false]
    omega
  rw [CommandRecord.linkActionNone, CommandRecord.is_of_code h (by decide), Bool.true_and, Bool.not_eq_true',
    ← Bool.not_eq_true, hin, not_not]

theorem raiseLensState_enterSeeking (s : State) :
    raiseLensState false (enterSeeking s) = raiseEvent (.lensState .seeking 0 false) (enterSeeking s) := rfl

theorem LinkState.not_absent_of_up {l : LinkState} (h : l.up = true) : l ≠ .absent := by
  rintro rfl
  cases h

end

end Sys2Proof.Machine

namespace Sys2Proof.Proofs

open Sys2Proof Sys2Proof.Machine

/-- Settles O56: command by command, each branch of its meaning. -/
theorem lensAndAxisCommands : Obligations.LensAndAxisCommands := by
  intro s r h
  have hrow : ∀ {n : Nat}, r.code = BitVec.ofNat 16 n → n < 65536 → r.is n = true := CommandRecord.is_of_code
  refine ⟨fun hc hbad => ?_, fun a src hc ha hs hrocker hwheel => ?_, fun hc ha => ?_, fun a hc ha => ?_, fun hc => ?_,
    fun hc hbad => ?_, fun hc hz hf => ?_, fun hc => ?_⟩
  · refine next_runCommand (body := setAxisSource) (fun _ => rfl) h (hrow hc (by decide))
      (setAxisSource_refused fun a src ha hs => ?_)
    rw [← Bool.not_eq_true, sourceFits_iff]
    rintro ⟨hrocker, hwheel⟩
    rcases hbad with hnone | hnone | ⟨h5, h4⟩ | ⟨h5, h4⟩
    · rw [hnone] at ha
      cases ha
    · rw [hnone] at hs
      cases hs
    · rw [h5] at hs
      cases hs
      rw [Axis.eq_of_ofCode ha, hrocker rfl] at h4
      exact h4 rfl
    · rw [h5] at hs
      cases hs
      rw [Axis.eq_of_ofCode ha, hwheel rfl] at h4
      exact h4 rfl
  · intro cur
    have hfits : sourceFits a src = true := sourceFits_iff.2 ⟨hrocker, hwheel⟩
    refine ⟨fun hcur => ?_, fun hcur => ?_⟩
    · exact next_runCommand (body := setAxisSource) (fun _ => rfl) h (hrow hc (by decide))
        (setAxisSource_current ha hs hfits hcur)
    · intro freed
      have hexec : exec .setAxisSource s = .next (finishCommand r (setAxisSource r (popCommand s))) :=
        next_runCommand (fun _ => rfl) h (hrow hc (by decide)) rfl
      rw [hexec, setAxisSource_new (s := popCommand s) ha hs hfits hcur]
      cases src <;> rfl
  · refine next_runCommand (body := setDirectDemand) (fun _ => rfl) h (hrow hc (by decide)) (x := refuses _ _) ?_
    rw [setDirectDemand, ha]
    rfl
  · refine next_runCommand (body := setDirectDemand) (fun _ => rfl) h (hrow hc (by decide))
      (x := completes _ _) ?_
    rw [setDirectDemand, ha]
    refine congrArg (completes · _) (doneOrClamped_of_iff ?_)
    rw [bne_iff_ne]
    omega
  · refine next_runCommand (body := setRocker) (fun _ => rfl) h (hrow hc (by decide))
      (congrArg (completes · _) (doneOrClamped_of_iff ?_))
    simp only [Bool.or_eq_true, bne_iff_ne, clampNat]
    omega
  · refine next_runCommand (body := setOverride) (fun _ => rfl) h (hrow hc (by decide)) (x := refuses _ _) ?_
    unfold setOverride
    rcases hbad with hbad | hbad
    · rw [flagOfCode_of_gt hbad]
      rfl
    · rw [flagOfCode_of_gt hbad]
      cases flagOfCode (r.byte 4) <;> rfl
  · refine next_runCommand (body := setOverride) (fun _ => rfl) h (hrow hc (by decide)) (x := completes _ _) ?_
    rw [setOverride, flagOfCode_of_le hz, flagOfCode_of_le hf]
    refine congrArg (completes · _) (doneOrClamped_of_iff ?_)
    rw [bne_iff_ne]
    omega
  · intro seeking u absent lost
    have hselects : ∀ {v}, r.byte 4 = v → r.selects 0x0028 v = true := CommandRecord.selects_of hc (by decide)
    have hnone := CommandRecord.linkActionNone_iff hc
    have hseek : ∀ enable, enterSeeking { popCommand s with lens := { s.lens with enable := enable } } = seeking enable :=
      fun enable => enterSeeking_eq _
    have hloss : ∀ t, linkLoss t = lost t := linkLoss_eq
    have henable : (r.selects 0x0028 1 || r.linkActionNone) = true → exec .lensLinkEnable s =
        .next (finishCommand r (lensEnable r (popCommand s))) :=
      fun ha => next_runCommand (body := lensEnable) (fun _ => rfl) h ha rfl
    have hdisable : r.byte 4 = 2 → exec .lensLinkDisable s = .next (finishCommand r (lensDisable r (popCommand s))) :=
      fun hb => next_runCommand (body := lensDisable) (fun _ => rfl) h (hselects hb) rfl
    have hreseek : r.byte 4 = 3 → exec .lensLinkReSeek s = .next (finishCommand r (lensReSeek r (popCommand s))) :=
      fun hb => next_runCommand (body := lensReSeek) (fun _ => rfl) h (hselects hb) rfl
    refine ⟨fun hb => ?_, fun hb hl => ?_, fun hb hl => ?_, fun hb hl => ?_, fun hb hl hup => ?_, fun hb hl hup => ?_,
      fun hb hl => ?_, fun hb hl => ?_, fun hb hup => ?_⟩
    · rw [henable (by rw [hnone.2 hb, Bool.or_true]), lensEnable, if_pos (hnone.2 hb), finishCommand_refuses]
    · rw [henable (by rw [hselects hb, Bool.true_or]), lensEnable, if_neg (by rw [hnone]; omega),
        if_pos (show (popCommand s).lens.link = .absent from hl), finishCommand_completes,
        raiseLensState_enterSeeking]
      exact congrArg (fun t => Host.Outcome.next (completed r .done .none (raiseEvent _ t))) (hseek true)
    · rw [henable (by rw [hselects hb, Bool.true_or]), lensEnable, if_neg (by rw [hnone]; omega),
        if_neg (show ¬ (popCommand s).lens.link = .absent from hl), finishCommand_completes]
    · rw [hdisable hb, lensDisable, if_pos (show (popCommand s).lens.link = .absent from hl), finishCommand_completes]
    · rw [hdisable hb, lensDisable, if_neg (show ¬ (popCommand s).lens.link = .absent from hl)]
      simp only [hup, u]
      rfl
    · rw [hdisable hb, lensDisable, if_neg (show ¬ (popCommand s).lens.link = .absent from hl), ← hloss]
      simp only [u] at hup
      simp only [hup]
      rfl
    · rw [hreseek hb, lensReSeek, if_pos (show (popCommand s).lens.link = .absent from hl), finishCommand_refuses]
    · have hnot : ¬ (popCommand s).lens.link = .absent := by rw [show (popCommand s).lens.link = .seeking from hl]; decide
      have hdown : ¬ (popCommand s).lens.link.up = true := by rw [show (popCommand s).lens.link = .seeking from hl]; decide
      rw [hreseek hb, lensReSeek, if_neg hnot, if_neg hdown, finishCommand_completes]
      exact congrArg _ (congrArg _ (hseek s.lens.enable))
    · have hnot : ¬ (popCommand s).lens.link = .absent := LinkState.not_absent_of_up hup
      rw [hreseek hb, lensReSeek, if_neg hnot, if_pos (show (popCommand s).lens.link.up = true from hup),
        finishCommand_completes, hloss, raiseLensState_enterSeeking]
      exact congrArg (fun t => Host.Outcome.next (completed r .done .none (lost (raiseEvent _ t)))) (hseek s.lens.enable)

end Sys2Proof.Proofs
end

section
/-! SUPPORT. The lens link's timers: the reply window, the identity reply and the seek timer (R50, R51, R54, R55). -/

namespace Sys2Proof.Machine

variable {s : State}

/-! ### A missed cycle, by the link state (R49, R55) -/

theorem cycleMissed_online (h : s.lens.link = .online) (now : Nat) (t : State) : cycleMissed s now t =
    raiseEvent (.lensState .degraded (s.lens.miss + 1) false) { t with
      lens := { t.lens with window := none, miss := s.lens.miss + 1, link := .degraded } } := by
  rw [cycleMissed, h]

theorem cycleMissed_counts (h : s.lens.link = .degraded) (hm : s.lens.miss < 7) (now : Nat) (t : State) :
    cycleMissed s now t = { t with lens := { t.lens with window := none, miss := s.lens.miss + 1 } } := by
  rw [cycleMissed, h]
  exact if_pos hm

theorem cycleMissed_eighth (h : s.lens.link = .degraded) (hm : 7 ≤ s.lens.miss) (now : Nat) (t : State) :
    cycleMissed s now t = raiseEvent (.lensState .seeking 0 false) { t with
      lens := { t.lens with
        window := none, miss := 0, link := .seeking, seek := some now
        waiting := s.lens.waiting.filter fun f => f.kind == .identifyRequest
        sending := s.lens.sending.map fun f => if f.kind = .demand then { f with live := false } else f }
      engines := boundHeld s.axis s.engines } := by
  rw [cycleMissed, h]
  exact if_neg (Nat.not_lt.2 hm)

/-! ### The reply window's end (R54) -/

/-- When what is being received began: the frame under assembly, or the character on the line that may be a SYNC. -/
def receivingSince (s : State) : Option Nat :=
  match s.lens.rx with
  | some a => some a.start
  | none => characterOnLine s

/-- What is being received began in the window. -/
def ReplyWindow.Holds (w : ReplyWindow) (s : State) : Prop :=
  ∃ n, receivingSince s = some n ∧ w.opens ≤ n ∧ n ≤ w.closes

theorem ReplyWindow.holds_iff {w : ReplyWindow} : ((receivingSince s).map w.contains).getD false = true ↔ w.Holds s := by
  unfold ReplyWindow.Holds
  cases receivingSince s <;> simp [ReplyWindow.contains]

theorem windowEnds_held {w : ReplyWindow} (h : s.lens.window = some w) (hw : w.Holds (reachTime w.closes s)) :
    windowEnds s = reachTime w.closes s := by
  unfold windowEnds
  rw [h]
  exact if_pos (ReplyWindow.holds_iff.2 hw)

theorem windowEnds_missed {w : ReplyWindow} (h : s.lens.window = some w) (hw : ¬ w.Holds (reachTime w.closes s)) :
    windowEnds s = cycleMissed (reachTime w.closes s) (reachTime w.closes s).now (reachTime w.closes s) := by
  rw [← missCycle_eq (.refl _)]
  unfold windowEnds
  rw [h]
  exact if_neg (mt ReplyWindow.holds_iff.1 hw)

/-! ### The identity reply's end (R51) -/

theorem mayComplete_iff {q : Provisional} : mayComplete q s = true ↔
    (∃ a, s.lens.rx = some a ∧ a.start ≤ q.deadline ∧ (a.bytes = [] ∨ a.bytes.head? = some 0x20))
      ∨ (s.lens.rx = none ∧ ∃ n, characterOnLine s = some n ∧ n ≤ q.deadline) := by
  unfold mayComplete
  cases s.lens.rx with
  | some a => simp [positionType]
  | none => cases characterOnLine s <;> simp

/-- With every whole character of a frame of the part's read back, nothing is read (3.2). -/
theorem readBackUntil_of_allRead (h : AllRead s) : readBackUntil s.now s = s :=
  readBackUntil_of_read fun f hf => unread_eq_nil (h (by rw [hf]; rfl))

theorem identityTimeout_stays {q : Provisional} (h : s.lens.provisional = some q) (hread : AllRead (reachTime q.deadline s))
    (hq : mayComplete q (reachTime q.deadline s) = true) : identityTimeout s = reachTime q.deadline s := by
  unfold identityTimeout
  rw [h]
  dsimp only
  rw [readBackUntil_of_allRead hread, if_pos hq]

theorem identityTimeout_drops {q : Provisional} (h : s.lens.provisional = some q) (hread : AllRead (reachTime q.deadline s))
    (hq : ¬ mayComplete q (reachTime q.deadline s) = true) :
    identityTimeout s = { s with now := max s.now q.deadline, lens := { s.lens with provisional := none } } := by
  unfold identityTimeout
  rw [h]
  dsimp only
  rw [readBackUntil_of_allRead hread, if_neg hq]
  rfl

end Sys2Proof.Machine

namespace Sys2Proof.Proofs

open Sys2Proof Sys2Proof.Machine

/-- Settles O38: a window's end and an identity reply's end turn on what is being received, and a missed cycle on the link
state and the miss count. -/
theorem lensTimersExpire : Obligations.LensTimersExpire := by
  intro s line drives hold
  have hline : ∀ at_, line at_ = characterOnLine { s with now := at_ } := fun _ => rfl
  refine ⟨fun w hw => ?_, fun q hq => ?_, fun q hl hs => ?_⟩
  · intro t start held
    have hmissed : ¬ held → exec .replyWindowExpiry s = .next (cycleMissed t t.now t) :=
      fun h => congrArg _ (windowEnds_missed hw h)
    refine ⟨fun h => congrArg _ (windowEnds_held hw h), fun h hl => ?_, fun h hl hm => ?_, fun h hl hm => ?_⟩
    all_goals refine (hmissed h).trans (congrArg _ ?_)
    · exact cycleMissed_online hl _ _
    · exact cycleMissed_counts hl hm _ _
    · exact cycleMissed_eighth hl hm _ _
  · intro t hread may
    have hmay : mayComplete q t = true ↔ may := by
      refine mayComplete_iff.trans ?_
      simp only [may, t, hline]
      cases s.lens.rx <;> simp
    exact ⟨fun h => congrArg _ (identityTimeout_stays hq hread (hmay.2 h)),
      fun h => congrArg _ (identityTimeout_drops hq hread (mt hmay.1 h))⟩
  · have hrequest : identifyRequestFrame = ⟨.identifyRequest, [0xA5, 0x11, 0x00, 0xEF], 0, true⟩ := by decide
    have hexpires : seekExpires s = { s with now := max s.now q, lens := { s.lens with
        seek := some (q + 8 * 2700000), waiting := some identifyRequestFrame } } := by
      unfold seekExpires
      rw [hl, hs]
      rfl
    rw [← hrequest, ← hexpires]
    rfl

end Sys2Proof.Proofs
end

section
/-! SUPPORT. The lens's characters: what the receiver makes of one, a frame that is abandoned, and the line (R43, R45, R47, R51,
R54). -/

namespace Sys2Proof.Machine

variable {s : State}

/-! ### A frame that is abandoned (R45, R51, R54) -/

/-- A provisional identity stays when its 2 ms are not over and the frame was no POSITION that began within them (R51). -/
def staysPast (a : Assembly) (now : Nat) (q : Provisional) : Bool :=
  decide (now < q.deadline) && !(a.bytes.head? == some positionType && decide (a.start ≤ q.deadline))

/-- A frame abandoned at a time: the provisional identity, and then the window held open for it. -/
def frameAbandoned (s : State) (a : Assembly) (now : Nat) (t : State) : State :=
  windowClosed s a.start now { t with lens := { t.lens with provisional := s.lens.provisional.filter (staysPast a now) } }

/-- A POSITION abandoned that began within the 2 ms of the provisional identity drops it (R51). -/
def replyAbandoned (a : Assembly) (t : State) : State :=
  match t.lens.provisional with
  | some q => if a.bytes.head? = some positionType ∧ a.start ≤ q.deadline
      then { t with lens := { t.lens with provisional := none } } else t
  | none => t

theorem replyAbandoned_eq (a : Assembly) (t : State) : replyAbandoned a t = { t with lens := { t.lens with
    provisional :=
      t.lens.provisional.filter fun q => !(a.bytes.head? == some positionType && decide (a.start ≤ q.deadline)) } } := by
  have hsame : ∀ p, t.lens.provisional = p → t = { t with lens := { t.lens with provisional := p } } := fun p hp => by rw [← hp]
  unfold replyAbandoned
  cases hp : t.lens.provisional with
  | none => exact hsame none hp
  | some q =>
    by_cases hpos : a.bytes.head? = some positionType ∧ a.start ≤ q.deadline
    · simp [Option.filter, hpos]
    · have hno : (a.bytes.head? == some positionType && decide (a.start ≤ q.deadline)) = false := by
        simpa [← Bool.not_eq_true] using hpos
      simp only [if_neg hpos, Option.filter, hno, Bool.not_false, if_true]
      exact hsame _ hp

theorem abandonFrame_eq {s t : State} (h : SameCycle s t) (hp : t.lens.provisional = s.lens.provisional) (a : Assembly) :
    abandonFrame a t = frameAbandoned s a t.now { t with lens := { t.lens with rx := none } } := by
  have hcycle : ∀ p, SameCycle s { t with lens := { t.lens with rx := none, provisional := p } } := fun _ =>
    ⟨h.link, h.miss, h.waiting, h.sending, h.window, h.axis, h.engines⟩
  have hstep : abandonFrame a t =
      endHeldWindow a.start (lapseProvisional (replyAbandoned a { t with lens := { t.lens with rx := none } })) := rfl
  have hstays : (t.lens.provisional.filter fun q => !(a.bytes.head? == some positionType && decide (a.start ≤ q.deadline))).filter
      (fun q => decide (t.now < q.deadline)) = s.lens.provisional.filter (staysPast a t.now) := by
    rw [hp, Option.filter_filter]
    exact congrArg (Option.filter · _) (funext fun q => Bool.and_comm _ _)
  rw [hstep, replyAbandoned_eq, lapseProvisional_eq]
  dsimp only
  rw [hstays]
  exact endHeldWindow_eq (hcycle _) a.start

/-! ### What the receiver makes of a character (R45) -/

section
variable {last start : Nat} {c : LineChar} {ty len : Byte} {payload : List Byte}

theorem receive_sync (hg : LineCharBad c = false) (hd : c.data = 0xA5) :
    receive none last c = .assembling { start := last, bytes := [] } := by
  simp [receive, hg, show c.data = syncByte from hd]

theorem receive_hunting (h : LineCharBad c = true ∨ c.data ≠ 0xA5) : receive none last c = .hunting := by
  rcases h with hbad | hdata
  · simp [receive, hbad]
  · simp [receive, show c.data ≠ syncByte from hdata]

theorem receive_type (hg : LineCharBad c = false) :
    receive (some { start := start, bytes := [] }) last c = .assembling { start := start, bytes := [c.data] } := by
  simp [receive, hg]

theorem receive_len (hg : LineCharBad c = false) (hl : c.data.toNat ≤ 64) :
    receive (some { start := start, bytes := [ty] }) last c = .assembling { start := start, bytes := [ty, c.data] } := by
  simp [receive, hg, Nat.not_lt.2 hl]

theorem receive_long (hg : LineCharBad c = false) (hl : 64 < c.data.toNat) :
    receive (some { start := start, bytes := [ty] }) last c = .abandoned := by
  simp [receive, hg, hl]

theorem receive_payload (hg : LineCharBad c = false) (hl : payload.length < len.toNat) :
    receive (some { start := start, bytes := ty :: len :: payload }) last c
      = .assembling { start := start, bytes := ty :: len :: payload ++ [c.data] } := by
  simp [receive, hg, hl]

theorem receive_check (hg : LineCharBad c = false) (hl : len.toNat ≤ payload.length)
    (hs : sumBytes (ty :: len :: payload ++ [c.data]) ≠ 0) :
    receive (some { start := start, bytes := ty :: len :: payload }) last c = .abandoned := by
  have hsum : sumBytes (ty :: len :: (payload ++ [c.data])) ≠ 0 := hs
  simp only [receive, hg, Bool.false_eq_true, if_false, if_neg (Nat.not_lt.2 hl), List.cons_append, if_neg hsum]

theorem receive_bad {a : Assembly} (hb : LineCharBad c = true) : receive (some a) last c = .abandoned := by
  simp [receive, hb]

/-! ### A character's end (R43, R45) -/

theorem hearCharacter_assembling {a : Assembly} (h : s.lens.charStart = some last)
    (hr : receive s.lens.rx last c = .assembling a) : hearCharacter c s = afterCharacter last c (some a) s := by
  unfold hearCharacter
  rw [readCharacter_some h, hr]
  rfl

theorem hearCharacter_hunting (h : s.lens.charStart = some last) (hr : receive s.lens.rx last c = .hunting) :
    hearCharacter c s = nothingTaken last (afterCharacter last c s.lens.rx s) := by
  unfold hearCharacter
  rw [readCharacter_some h, hr]
  rfl

theorem abandonByCharacter_abandoned {a : Assembly} (h : s.lens.charStart = some last) (ha : s.lens.rx = some a)
    (hr : receive s.lens.rx last c = .abandoned) :
    abandonByCharacter c s = abandonFrame a (afterCharacter last c s.lens.rx s) := by
  unfold abandonByCharacter
  rw [readCharacter_some h, hr]
  dsimp only
  rw [applyReception, show (afterCharacter last c s.lens.rx s).lens.rx = some a from ha]

theorem readCharacter_none (h : s.lens.charStart = none) : readCharacter c s = none := by
  rw [readCharacter, h]
  rfl

end

/-! ### A gap and a start bit (R43, R45, R47) -/

theorem abandonOnGap_over {a : Assembly} (ha : s.lens.rx = some a) (h : s.lens.lineSince + 2 * byteTime < s.now) :
    abandonOnGap s = abandonFrame a s := by
  unfold abandonOnGap
  rw [ha]
  exact if_pos h

theorem abandonOnGap_within (h : ∀ a, s.lens.rx = some a → s.now ≤ s.lens.lineSince + 2 * byteTime) : abandonOnGap s = s := by
  unfold abandonOnGap
  cases ha : s.lens.rx with
  | none => rfl
  | some a => exact if_neg (Nat.not_lt.2 (h a ha))

/-- A start bit that falls on a line that is not idle does nothing. -/
theorem startBitFalls_busy (h : s.lens.charStart.isSome = true ∨ s.lens.lineLow = true ∨ s.lens.sending.isSome = true) :
    startBitFalls s = s := by
  refine if_pos ?_
  simpa [or_assoc] using h

theorem startBitFalls_idle (hc : s.lens.charStart = none) (hl : s.lens.lineLow = false) (hs : s.lens.sending = none) :
    let t := abandonOnGap (reachTime s.lens.lineSince s)
    startBitFalls s = { t with lens := { t.lens with charStart := some t.now } } := by
  unfold startBitFalls
  simp [hc, hl, hs]

theorem completeIfDone_idle (h : s.lens.sending = none) : completeIfDone s = s := by
  rw [completeIfDone, h]

theorem completeIfDone_sending {f : TxFrame} (h : s.lens.sending = some f) (hn : s.now < f.stop s) : completeIfDone s = s := by
  rw [completeIfDone, h]
  exact if_neg (Nat.not_le.2 hn)

theorem completeIfDone_done {f : TxFrame} (h : s.lens.sending = some f) (hd : f.stop s ≤ s.now) :
    completeIfDone s = frameCompletes s := by
  rw [completeIfDone, h]
  exact if_pos hd

/-- A frame that completes leaves the transmitter (R47). -/
theorem frameCompletes_sending (s : State) : (frameCompletes s).lens.sending = none := by
  unfold frameCompletes
  split
  · dsimp only
    split
    · rfl
    · assumption
  · assumption

end Sys2Proof.Machine

namespace Sys2Proof.Proofs

open Sys2Proof Sys2Proof.Machine

/-- Settles O32: what a character's end does turns on what the receiver makes of it, and what a start bit does on the line. -/
theorem lensCharactersCollected : Obligations.LensCharactersCollected := by
  intro s drives hold missed closes ended
  have hended : ∀ a at_ t, ended a at_ t = frameAbandoned s a at_ t := fun _ _ _ => rfl
  refine ⟨fun c last hstart => ?_, fun hstart c => ?_, fun a ha hsending hstart => ?_, fun hstart hlow hsending => ?_,
    fun hbusy hsending => ?_, fun f hf hnow => ?_, fun f t hf hnow ht => ?_, fun hlow => ?_, fun hlow => ?_⟩
  · intro at_ hears abandons
    have hcycle := sameCycle_afterCharacter last c s.lens.rx s
    have hhears : ∀ {a}, receive s.lens.rx last c = .assembling a → hears (some a) := fun hr =>
      congrArg _ (hearCharacter_assembling hstart hr)
    have habandons : ∀ {a}, s.lens.rx = some a → receive s.lens.rx last c = .abandoned → abandons a := fun {a} ha hr => by
      refine congrArg _ ((abandonByCharacter_abandoned hstart ha hr).trans ((abandonFrame_eq hcycle rfl a).trans ?_))
      rw [hended]
      rfl
    refine ⟨fun hrx => ⟨fun hg hd => ?_, fun hno => ?_⟩, fun start hrx hg => ?_,
      fun start ty hrx hg => ⟨fun hl => ?_, fun hl => ?_⟩, fun start ty len payload hrx hg => ⟨fun hl => ?_, fun hl hsum => ?_⟩,
      fun a hrx hb => ?_⟩
    · exact hhears (hrx ▸ receive_sync hg hd)
    · intro u
      refine congrArg _ ((hearCharacter_hunting hstart (hrx ▸ receive_hunting hno)).trans ?_)
      rw [nothingTaken_eq hcycle rfl, hrx]
      rfl
    · exact hhears (hrx ▸ receive_type hg)
    · exact hhears (hrx ▸ receive_len hg hl)
    · exact habandons hrx (hrx ▸ receive_long hg hl)
    · exact hhears (hrx ▸ receive_payload hg hl)
    · exact habandons hrx (hrx ▸ receive_check hg hl hsum)
    · exact habandons hrx (hrx ▸ receive_bad hb)
  · simp [exec, execLensCharacterReceived, execLensFrameAbandoned, hearCharacter, abandonByCharacter, readCharacter_none hstart]
  · intro end_
    have hgap : abandonByGap s = abandonOnGap (reachTime (s.lens.lineSince + 2 * byteTime + 1) s) := by
      simp [abandonByGap, hsending, hstart, ha]
    have hover : s.lens.lineSince + 2 * byteTime < end_ := lt_of_lt_of_le (Nat.lt_succ_self _) (le_max_right _ _)
    have hend := abandonOnGap_over (s := reachTime (s.lens.lineSince + 2 * byteTime + 1) s) ha hover
    exact congrArg _ (hgap.trans (hend.trans (abandonFrame_eq ⟨rfl, rfl, rfl, rfl, rfl, rfl, rfl⟩ rfl a)))
  · intro falls stands
    have hexec : exec (.lensCharacterReceived .startBit) s = .next (startBitFalls s) :=
      congrArg (fun t => Host.Outcome.next (startBitFalls t)) (completeIfDone_idle hsending)
    have hidle := startBitFalls_idle hstart hlow hsending
    refine ⟨fun hwithin => ?_, fun a ha hover => ?_⟩
    · rw [hexec, hidle, abandonOnGap_within (s := reachTime s.lens.lineSince s) hwithin]
      rfl
    · have habandoned : abandonOnGap (reachTime s.lens.lineSince s) =
          ended a falls { s with now := falls, lens := { s.lens with rx := none } } :=
        (abandonOnGap_over (s := reachTime s.lens.lineSince s) ha hover).trans
          (abandonFrame_eq ⟨rfl, rfl, rfl, rfl, rfl, rfl, rfl⟩ rfl a)
      have hfalls : ∀ t : State, t.now = falls → { t with lens := { t.lens with charStart := some t.now } } = stands t :=
        fun t h => congrArg (fun n => { t with lens := { t.lens with charStart := some n } }) h
      rw [hexec, hidle, hfalls _ (by simp [falls]), habandoned]
  · exact congrArg _ ((congrArg startBitFalls (completeIfDone_idle hsending)).trans
      (startBitFalls_busy (or_assoc.1 (.inl hbusy))))
  · exact congrArg _ ((congrArg startBitFalls (completeIfDone_sending hf hnow)).trans
      (startBitFalls_busy (.inr (.inr (by rw [hf]; rfl)))))
  · have hdone : completeIfDone s = frameCompletes s := completeIfDone_done hf hnow
    cases ht
    exact congrArg (fun t => Host.Outcome.next (startBitFalls t))
      (hdone.trans (completeIfDone_idle (frameCompletes_sending s)).symm)
  · exact congrArg _ (if_pos hlow)
  · exact congrArg _ (if_neg (by rw [hlow]; decide))

end Sys2Proof.Proofs
end

section
/-! SUPPORT. The transmitter: the bits of a frame, its start, the frame that completes and is read back whole, and the frame that is
cancelled (R43, R47, R48, R54, R59, 3.2). -/

namespace Sys2Proof.Machine

variable {s : State}

/-! ### The bits of a frame (R43) -/

theorem characterBits_length (c : LineChar) : (characterBits c).length = 11 := by simp [characterBits]

/-- A character of the part's own: the start bit, the data, the odd parity and the stop bit. -/
theorem ownBits_getElem? (b : Byte) {k : Nat} (hk : k < 11) : (characterBits (ownCharacter b))[k]? =
    some (if k = 0 then false else if k ≤ 8 then b.getLsbD (k - 1)
      else if k = 9 then ((List.range 8).filter fun i => b.getLsbD i).length % 2 == 0 else true) := by
  interval_cases k <;> rfl

theorem TxFrame.bits_length (f : TxFrame) : f.bits.length = 11 * f.bytes.length := by
  simp [TxFrame.bits, List.length_flatMap, characterBits_length, Nat.mul_comm]

/-- The bits of frames' characters lie back to back, 11 to each. -/
theorem flatMap_bits_getElem? (bytes : List Byte) (j : Nat) {k : Nat} (hk : k < 11) :
    (bytes.flatMap fun b => characterBits (ownCharacter b))[11 * j + k]?
      = (bytes[j]?).bind fun b => (characterBits (ownCharacter b))[k]? := by
  induction bytes generalizing j with
  | nil => simp
  | cons b bytes ih =>
    rw [List.flatMap_cons, List.getElem?_append, characterBits_length]
    cases j with
    | zero => simp [hk]
    | succ j =>
      rw [if_neg (by omega), show 11 * (j + 1) + k - 11 = 11 * j + k by omega, ih, List.getElem?_cons_succ]

theorem TxFrame.bits_getElem? (f : TxFrame) {j k : Nat} {b : Byte} (hb : f.bytes[j]? = some b) (hk : k < 11) :
    f.bits[11 * j + k]? = some (if k = 0 then false else if k ≤ 8 then b.getLsbD (k - 1)
      else if k = 9 then ((List.range 8).filter fun i => b.getLsbD i).length % 2 == 0 else true) := by
  rw [TxFrame.bits, flatMap_bits_getElem? f.bytes j hk, hb, ← ownBits_getElem? b hk]
  rfl

/-- A bit that the part releases lies in a character of the frame, and is not its start bit. -/
theorem TxFrame.released {f : TxFrame} {bit : Nat} (h : f.bits[bit]? = some true) :
    bit / 11 < f.bytes.length ∧ bit % 11 ≠ 0 := by
  obtain ⟨hlt, -⟩ := List.getElem?_eq_some_iff.1 h
  rw [f.bits_length] at hlt
  have hj : bit / 11 < f.bytes.length := by omega
  refine ⟨hj, fun hzero => ?_⟩
  have hstart := f.bits_getElem? (List.getElem?_eq_getElem hj) (show 0 < 11 by decide)
  rw [show 11 * (bit / 11) + 0 = bit by omega, h, if_pos rfl] at hstart
  cases hstart

/-! ### A waiting frame starts (R45, R47) -/

/-- A frame as it begins to be sent. -/
def frameBegun (g : TxFrame) (t : State) : State :=
  { t with lens := { t.lens with waiting := none, sending := some g, sentAt := t.now, readBack := 0 } }

theorem startFrame_within {f : TxFrame} (hf : s.lens.waiting = some f)
    (h : s.lens.rx = none ∨ max s.now (s.lens.lineSince + 2 * byteTime) = s.lens.lineSince + 2 * byteTime) :
    startFrame s = frameBegun f (reachTime (s.lens.lineSince + 2 * byteTime) s) := by
  have hgap : abandonOnGap (reachTime (s.lens.lineSince + 2 * byteTime) s) = reachTime (s.lens.lineSince + 2 * byteTime) s := by
    refine abandonOnGap_within fun a ha => ?_
    rcases h with hrx | hnow
    · rw [show s.lens.rx = some a from ha] at hrx
      cases hrx
    · exact le_of_eq hnow
  unfold startFrame
  rw [hgap]
  dsimp only
  rw [show (reachTime (s.lens.lineSince + 2 * byteTime) s).lens.waiting = some f from hf]
  rfl

/-- A gap that has run out when the waiting frame starts abandons the frame under assembly first. -/
theorem abandonByGap_over {a : Assembly} (ha : s.lens.rx = some a) (hs : s.lens.sending = none) (hc : s.lens.charStart = none)
    (h : s.lens.lineSince + 2 * byteTime < max s.now (s.lens.lineSince + 2 * byteTime)) :
    abandonByGap { s with now := max s.now (s.lens.lineSince + 2 * byteTime) } =
      abandonOnGap (reachTime (s.lens.lineSince + 2 * byteTime) s) := by
  have htime : ∀ n, s.lens.lineSince + 2 * byteTime < n → max n (s.lens.lineSince + 2 * byteTime + 1) = n := fun _ hn =>
    max_eq_left hn
  simp only [abandonByGap, hs, hc, ha, Option.isSome_none, Option.isNone_some, Bool.or_self, Bool.false_eq_true, if_false,
    reachTime, htime _ h]

/-! ### A frame of the part's own read back whole (R43 to R45, R47, 3.2) -/

/-- The part's own characters have odd parity and a high stop bit. -/
theorem ownCharacter_good (b : Byte) : LineCharBad (ownCharacter b) = false := by
  rw [← Bool.not_eq_true, lineCharBad_iff]
  simp only [ownCharacter, onesOf, Bool.false_eq_true, if_false, Nat.add_zero, beq_iff_eq, not_or]
  refine ⟨by decide, ?_⟩
  split <;> omega

/-- `n` characters of the frame being sent have been read back, and the receiver holds `rx`. -/
def readSoFar (s : State) (rx : Option Assembly) (n : Nat) : State :=
  { s with lens := { s.lens with rx := rx, readBack := n, lineSince := s.lens.sentAt + n * byteTime } }

section
variable {b ty len : Byte} {payload : List Byte} {start n : Nat} {rx : Option Assembly}

theorem readOwn_collects {a : Assembly}
    (hr : receive s.lens.rx (s.lens.sentAt + s.lens.readBack * byteTime) (ownCharacter b) = .assembling a) :
    readOwn s b = readSoFar s (some a) (s.lens.readBack + 1) := by
  unfold readOwn readSoFar
  dsimp only
  rw [hr, Nat.succ_mul, ← Nat.add_assoc]
  rfl

theorem readOwn_readSoFar {a : Assembly} (hr : ∀ at_, receive rx at_ (ownCharacter b) = .assembling a) :
    readOwn (readSoFar s rx n) b = readSoFar s (some a) (n + 1) :=
  readOwn_collects (s := readSoFar s rx n) (hr _)

/-- The payload is collected character by character. -/
theorem readOwns_payload (p q : List Byte) (h : p.length + q.length ≤ len.toNat) (n : Nat) :
    q.foldl readOwn (readSoFar s (some { start := start, bytes := ty :: len :: p }) n)
      = readSoFar s (some { start := start, bytes := ty :: len :: (p ++ q) }) (n + q.length) := by
  induction q generalizing p n with
  | nil => simp
  | cons b q ih =>
    rw [List.length_cons] at h
    have hb : readOwn (readSoFar s (some { start := start, bytes := ty :: len :: p }) n) b =
        readSoFar s (some { start := start, bytes := ty :: len :: (p ++ [b]) }) (n + 1) :=
      readOwn_readSoFar fun _ => receive_payload (ownCharacter_good b) (show p.length < len.toNat by omega)
    rw [List.foldl_cons, hb, ih (p ++ [b]) (by rw [List.length_append, List.length_singleton]; omega), List.append_assoc,
      List.length_cons, Nat.add_assoc, Nat.add_comm 1, List.singleton_append]

theorem nothingTaken_idle (hw : s.lens.window = none) (hp : s.lens.provisional = none) (start : Nat) :
    nothingTaken start s = s := by
  rw [nothingTaken, lapseProvisional, hp, endHeldWindow, hw]

theorem receive_last {last : Nat} {c : LineChar} (hg : LineCharBad c = false) (hl : len.toNat ≤ payload.length)
    (hs : sumBytes (ty :: len :: payload ++ [c.data]) = 0) :
    receive (some { start := start, bytes := ty :: len :: payload }) last c = .received start ty payload := by
  simp only [receive, hg, Bool.false_eq_true, if_false, if_neg (Nat.not_lt.2 hl), List.cons_append]
  exact if_pos hs

/-- A frame that the receiver discards leaves nothing behind when no window is open and no identity is held. -/
theorem readOwn_discards (hr : ∀ at_, receive rx at_ (ownCharacter b) = .received start ty payload)
    (hd : classifyFrame ty payload = .discarded) (hw : s.lens.window = none) (hp : s.lens.provisional = none) :
    readOwn (readSoFar s rx n) b = readSoFar s none (n + 1) := by
  unfold readOwn
  dsimp only
  rw [show (readSoFar s rx n).lens.rx = rx from rfl, hr, applyReception, hd, frameTaken]
  refine (nothingTaken_idle (by exact hw) (by exact hp) start).trans ?_
  unfold readSoFar
  dsimp only
  rw [Nat.succ_mul, ← Nat.add_assoc]

/-- The CHECK makes the sum 0 (R44). -/
theorem sumBytes_check (body : List Byte) : sumBytes (body ++ [0 - sumBytes body]) = 0 := by
  simp only [sumBytes, List.foldl_append, List.foldl_cons, List.foldl_nil]
  bv_omega

/-- A whole frame of a type that the part sends, read from hunting on, leaves the receiver hunting (R45, 3.2). -/
theorem readOwns_whole (hl : payload.length ≤ 64) (hty : ty = 0x10 ∨ ty = 0x11) (hrx : s.lens.rx = none)
    (hback : s.lens.readBack = 0) (hw : s.lens.window = none) (hp : s.lens.provisional = none) :
    let body := ty :: BitVec.ofNat 8 payload.length :: payload
    (0xA5 :: body ++ [0 - sumBytes body]).foldl readOwn s = readSoFar s none (payload.length + 4) := by
  intro body
  have hlen : (BitVec.ofNat 8 payload.length).toNat = payload.length := by
    rw [BitVec.toNat_ofNat]
    omega
  have hdiscarded : classifyFrame ty payload = .discarded :=
    classifyFrame_discarded (fun h => by rcases hty with rfl | rfl <;> cases h) (fun h => by rcases hty with rfl | rfl <;> cases h)
      fun h => by rcases hty with rfl | rfl <;> cases h
  have hsync : readOwn s 0xA5 = readSoFar s (some { start := s.lens.sentAt + s.lens.readBack * byteTime, bytes := [] }) 1 := by
    rw [readOwn_collects (hrx ▸ receive_sync (ownCharacter_good _) rfl), hback]
  have htype : ∀ start n, readOwn (readSoFar s (some { start := start, bytes := [] }) n) ty =
      readSoFar s (some { start := start, bytes := [ty] }) (n + 1) := fun _ _ =>
    readOwn_readSoFar fun _ => receive_type (ownCharacter_good ty)
  have hlength : ∀ start n, readOwn (readSoFar s (some { start := start, bytes := [ty] }) n) (BitVec.ofNat 8 payload.length) =
      readSoFar s (some { start := start, bytes := [ty, BitVec.ofNat 8 payload.length] }) (n + 1) := fun _ _ =>
    readOwn_readSoFar fun _ => receive_len (ownCharacter_good _) (show (BitVec.ofNat 8 payload.length).toNat ≤ 64 by omega)
  rw [show (0xA5 :: body ++ [0 - sumBytes body] : List Byte) = 0xA5 :: ty :: BitVec.ofNat 8 payload.length ::
      (payload ++ [0 - sumBytes body]) from rfl, List.foldl_cons, hsync, List.foldl_cons, htype, List.foldl_cons, hlength,
    List.foldl_append, readOwns_payload [] payload (by rw [hlen]; simp)]
  refine (readOwn_discards (fun _ => receive_last (ownCharacter_good _) (le_of_eq hlen) (sumBytes_check body)) hdiscarded hw
    hp).trans ?_
  congr 1
  omega

end

/-- A frame completes when it has been read back whole (R47, R54). -/
theorem frameCompletes_eq {f : TxFrame} (hf : s.lens.sending = some f) (hback : s.lens.readBack = 0) {rx : Option Assembly}
    {n : Nat} (hread : ∀ now, f.bytes.foldl readOwn { s with now := now } = readSoFar { s with now := now } rx n) :
    frameCompletes s = completeFrame f (readSoFar (reachTime (f.stop s) s) rx n) := by
  have hall : (f.stop s - s.lens.sentAt) / byteTime = f.bytes.length := by
    rw [TxFrame.stop, Nat.add_sub_cancel_left, Nat.mul_div_cancel _ (by decide)]
  have hwhole : readBackUntil (f.stop s) (reachTime (f.stop s) s) = readSoFar (reachTime (f.stop s) s) rx n := by
    unfold readBackUntil
    rw [show (reachTime (f.stop s) s).lens.sending = some f from hf]
    dsimp only
    rw [show (reachTime (f.stop s) s).lens = s.lens from rfl, hall, hback, List.take_length, List.drop_zero]
    exact hread _
  unfold frameCompletes
  rw [hf]
  dsimp only
  rw [hwhole, show (readSoFar (reachTime (f.stop s) s) rx n).lens.sending = some f from hf]

theorem completeFrame_readSoFar {f : TxFrame} {stop : Nat} (h : f.stop s = stop) (rx : Option Assembly) (n : Nat) :
    completeFrame f (readSoFar (reachTime stop s) rx n) = { s with now := max s.now stop, lens := { s.lens with
      rx := rx, sending := none, lineSince := s.lens.sentAt + n * byteTime, readBack := n
      window := if isDemand f && f.live && s.lens.link.up then some { opens := stop, closes := stop + twoMs }
        else s.lens.window } } := by
  subst h
  rfl

/-! ### A frame cancelled (R48) -/

/-- The first bit from the present one on that the part releases. -/
theorem nextReleased_eq_some {f : TxFrame} {bit : Nat} (hle : (s.now - s.lens.sentAt) / bitTime ≤ bit)
    (hbit : f.bits[bit]? = some true)
    (hbefore : ∀ k, (s.now - s.lens.sentAt) / bitTime ≤ k → k < bit → f.bits[k]? = some false) :
    nextReleased f s = some bit := by
  obtain ⟨d, rfl⟩ := Nat.exists_eq_add_of_le hle
  refine Option.map_eq_some_iff.2 ⟨d, List.findIdx?_eq_some_iff_getElem.2 ?_, rfl⟩
  have hdrop := hbit
  rw [← List.getElem?_drop] at hdrop
  obtain ⟨hlt, hget⟩ := List.getElem?_eq_some_iff.1 hdrop
  refine ⟨hlt, by rw [hget]; rfl, fun j hj => ?_⟩
  have hfalse := hbefore ((s.now - s.lens.sentAt) / bitTime + j) (Nat.le_add_right _ _) (Nat.add_lt_add_left hj _)
  rw [← List.getElem?_drop] at hfalse
  obtain ⟨_, hlow⟩ := List.getElem?_eq_some_iff.1 hfalse
  rw [hlow]
  decide

/-- After the last stop bit there is none. -/
theorem nextReleased_eq_none {f : TxFrame} (h : f.stop s ≤ s.now) : nextReleased f s = none := by
  have hpast : f.bits.length ≤ (s.now - s.lens.sentAt) / bitTime := by
    rw [f.bits_length, Nat.le_div_iff_mul_le (by decide)]
    rw [TxFrame.stop, byteTime] at h
    have : f.bytes.length * (11 * bitTime) = 11 * f.bytes.length * bitTime := by ring
    omega
  unfold nextReleased
  dsimp only
  rw [List.drop_eq_nil_of_le hpast]
  rfl

theorem frameCancelled_none {f : TxFrame} (hf : s.lens.sending = some f) (h : nextReleased f s = none) :
    frameCancelled s = s := by
  unfold frameCancelled
  rw [hf, Option.bind_some, h]

/-- The bit in which a frame is cancelled is the present one by then. -/
theorem bit_at_cancellation {now sentAt bit : Nat} (hle : (now - sentAt) / bitTime ≤ bit) :
    (max now (sentAt + bit * bitTime) - sentAt) / bitTime = bit := by
  have hpos : 0 < bitTime := by decide
  rcases le_total now (sentAt + bit * bitTime) with h | h
  · rw [max_eq_right h, Nat.add_sub_cancel_left, Nat.mul_div_cancel _ hpos]
  · rw [max_eq_left h]
    exact le_antisymm hle ((Nat.le_div_iff_mul_le hpos).2 (Nat.le_sub_of_add_le' h))

/-- The character of a released bit is on the line: it began at its start bit. -/
theorem characterOnLine_of_released {f : TxFrame} {bit : Nat} (hf : s.lens.sending = some f)
    (hnow : (s.now - s.lens.sentAt) / bitTime = bit) (hbit : f.bits[bit]? = some true) :
    characterOnLine s = some (s.lens.sentAt + bit / 11 * byteTime) := by
  obtain ⟨hlt, hne⟩ := TxFrame.released hbit
  have hdiv : (s.now - s.lens.sentAt) / byteTime = bit / 11 := by
    rw [byteTime, Nat.mul_comm, ← Nat.div_div_eq_div_mul, hnow]
  have hmod : (s.now - s.lens.sentAt) % byteTime ≠ 0 := fun hzero => by
    obtain ⟨c, hc⟩ := Nat.dvd_of_mod_eq_zero hzero
    have hpos : 0 < bitTime := by decide
    rw [hc, byteTime, Nat.mul_comm 11, Nat.mul_assoc, Nat.mul_div_cancel_left _ hpos] at hnow
    omega
  rw [characterOnLine, hf]
  dsimp only
  rw [hdiv, if_pos ⟨hlt, hmod⟩]

/-- A frame stopped in a released bit, its whole characters read back: the character in which it is goes on (R47, R48). -/
theorem frameCancelled_eq {f : TxFrame} {bit : Nat} (hf : s.lens.sending = some f)
    (hle : (s.now - s.lens.sentAt) / bitTime ≤ bit) (hbit : f.bits[bit]? = some true)
    (hbefore : ∀ k, (s.now - s.lens.sentAt) / bitTime ≤ k → k < bit → f.bits[k]? = some false)
    (hread : bit / 11 ≤ s.lens.readBack) :
    let stopped := { s with
      now := max s.now (s.lens.sentAt + bit * bitTime)
      lens := { s.lens with sending := none, charStart := some (s.lens.sentAt + bit / 11 * byteTime) } }
    frameCancelled s = if f.cancels ≠ 0 then raiseEvent (.linkCollision f.kind) stopped
      else if !f.live || s.lens.waiting.isSome then stopped else joinTransmitter { f with cancels := 1 } stopped := by
  intro stopped
  let t := reachTime (s.lens.sentAt + bit * bitTime) s
  have hnow : (t.now - s.lens.sentAt) / bitTime = bit := bit_at_cancellation hle
  have hallRead : AllRead t := fun _ => by
    refine le_trans (le_of_eq ?_) hread
    rw [show t.lens.sentAt = s.lens.sentAt from rfl, byteTime, Nat.mul_comm, ← Nat.div_div_eq_div_mul, hnow]
  have hback : readBackUntil t.now t = t := readBackUntil_of_allRead hallRead
  have hstopped : stopDriving t = stopped := by
    rw [stopDriving_of_read (s := t) hf hback, characterOnLine_of_released (s := t) hf hnow hbit]
    rfl
  have hcancelled : frameCancelled s = cancelFrame f t := by
    unfold frameCancelled
    rw [hf, Option.bind_some, nextReleased_eq_some hle hbit hbefore]
    dsimp only
    rw [show readBackUntil _ _ = t from hback, show t.lens.sending = some f from hf]
  rw [hcancelled, cancelFrame, hstopped]

end Sys2Proof.Machine

namespace Sys2Proof.Proofs

open Sys2Proof Sys2Proof.Machine

/-- Settles O37: the bits of a frame, and for each event of the transmitter its equation. -/
theorem transmitterSends : Obligations.TransmitterSends := by
  refine ⟨fun part lens => Bool.and_eq_true_iff, fun s => ⟨fun hs => ?_, fun f hf => ?_, fun f => ?_, fun f hf hs => ?_,
    fun f payload hf hl => ?_, fun f bit hf hle hbit hbefore => ?_, fun f hf => ⟨fun hdone => ?_, fun hread => ?_⟩⟩⟩
  · simp [State.drivesLens, stopDriving, exec, execLensFrameComplete, execLensFrameCancelled, frameCompletes, frameCancelled, hs]
  · rw [State.drivesLens, hf]
  · exact ⟨f.bits_length, fun j k b => f.bits_getElem?⟩
  · intro start starts
    refine ⟨fun hc hlow => ?_, fun hbusy => ?_⟩
    · have hstarts : exec .lensFrameStart s = .next (startFrame s) := by
        simp [exec, execLensFrameStart, frameStarts, hf, hs, hc, hlow]
      refine ⟨fun hwithin => ?_, fun u hrx hover hu => ?_⟩
      · rw [hstarts, startFrame_within hf hwithin]
        rfl
      · obtain ⟨a, ha⟩ := Option.isSome_iff_exists.1 hrx
        have hgap : abandonOnGap (reachTime (s.lens.lineSince + 2 * byteTime) s) = u := by
          rw [← abandonByGap_over ha hs hc hover]
          cases hu
          rfl
        have hnow : u.now = start := by
          rw [← hgap]
          simp [start]
        have hbegun : ∀ g, frameBegun g u = starts g u := fun g => congrArg (fun n => { u with
          now := n, lens := { u.lens with waiting := none, sending := some g, sentAt := n, readBack := 0 } }) hnow
        rw [hstarts, startFrame, hgap]
        cases u.lens.waiting with
        | none => rfl
        | some g => exact congrArg _ (hbegun g)
    · have hwaits : frameStarts s = s := if_pos (by simpa [hf, hs] using hbusy)
      exact congrArg _ hwaits
  · intro body hbytes hrx hback hw hp stop
    have hstop : f.stop s = stop := by
      rw [TxFrame.stop, hbytes]
      simp [body, stop]
    have hread : ∀ now, f.bytes.foldl readOwn { s with now := now } =
        readSoFar { s with now := now } s.lens.rx (payload.length + 4) := fun now => by
      rw [hbytes, hrx]
      exact readOwns_whole (s := { s with now := now }) hl (by cases f.kind; exacts [.inl rfl, .inr rfl]) hrx hback hw hp
    have hcompletes := frameCompletes_eq hf hback hread
    have hwindow : (if isDemand f && f.live && s.lens.link.up then some { opens := stop, closes := stop + twoMs }
        else s.lens.window) = if f.kind = .demand ∧ f.live = true ∧ s.lens.link.up = true then
          some { opens := stop, closes := stop + 8 * 54000 } else none := by
      rw [hw]
      exact if_congr (by simp [isDemand, and_assoc]) rfl rfl
    rw [hstop, completeFrame_readSoFar hstop, hwindow] at hcompletes
    exact congrArg _ hcompletes
  · intro stopped hread
    have hcancelled := frameCancelled_eq hf hle hbit hbefore hread
    refine ⟨fun hcancels hlive hwaiting => ?_, fun hcancels hdrop => ?_, fun hcancels => ?_⟩
    all_goals refine congrArg _ (hcancelled.trans ?_)
    · rw [if_neg (by rw [hcancels]; decide), hlive, hwaiting]
      rfl
    · rw [if_neg (by rw [hcancels]; decide), if_pos (by simpa using hdrop)]
    · rw [if_pos (Nat.pos_iff_ne_zero.1 hcancels)]
  · exact congrArg _ (frameCancelled_none hf (nextReleased_eq_none hdone))
  · intro passed
    rw [stopDriving_of_read hf (readBackUntil_of_allRead hread), characterOnLine, hf]

end Sys2Proof.Proofs
end

section
/-! SUPPORT. The gyro port's pins in a transaction, and a sample event by what the port makes of the sample: occurrences and
completions are offered over the stabiliser already integrated (R87 to R94, R212). -/

namespace Sys2Proof.Machine

/-! ### The pins (R87) -/

/-- The level GCLK rests at (R87). -/
theorem GyroPort.clockIdle_eq (g : GyroPort) :
    g.clockIdle = (g.state ≠ .unconfigured && g.setup.polarity = .idleHigh) := by
  rw [clockIdle]
  cases g.state <;> cases g.setup.polarity <;> rfl

/-- GCLK is away from its idle level after an odd number of edges, of the 112 (R87). -/
theorem GyroPort.gclk_of_halves {g : GyroPort} {now h : Nat} (ht : g.transaction = true) (hh : min (g.halvesOver now) 112 = h) :
    g.gclk now = if h % 2 = 1 then !g.clockIdle else g.clockIdle := by
  simp only [gclk, ht, hh, Bool.true_and]
  by_cases hodd : h % 2 = 1 <;> simp [hodd, beq_eq_false_iff_ne.2]

/-- The bit of a transaction that GDO carries: the command byte's first, then low (R87). -/
theorem PortSetup.commandBits_getD (p : PortSetup) (k : Nat) :
    p.commandBits.getD k false = if k < 8 then p.command.getLsbD (7 - k) else false := by
  split
  · next h =>
    rw [commandBits, List.getD_append _ _ _ _ (by simpa using h)]
    simp [List.getD_eq_getElem?_getD, h]
  · next h =>
    rw [commandBits, List.getD_append_right _ _ _ _ (by simpa using h)]
    simp only [List.getD_eq_getElem?_getD, List.getElem?_replicate]
    split <;> rfl

/-- GDO in a transaction, half a clock period ahead of the sampling edges (R87). -/
theorem GyroPort.gdo_of_transaction {g : GyroPort} {now k : Nat} (ht : g.transaction = true)
    (hlo : 2 * k + g.setup.samplingEdge ≤ g.halvesOver now + 1) (hhi : g.halvesOver now < 2 * k + g.setup.samplingEdge + 1) :
    g.gdo now = if k < 8 then g.setup.command.getLsbD (7 - k) else false := by
  have hk : (g.halvesOver now + 1 - g.setup.samplingEdge) / 2 = k := by omega
  rw [gdo, ht, hk, PortSetup.commandBits_getD, decide_eq_true (by omega)]
  rfl

/-! ### What the report unit leaves alone (R196, R199) -/

/-- An occurrence leaves the stabiliser to be changed after it or before it. -/
theorem raiseEvent_stab (p : EventPayload) (s : State) (t : Stabiliser) :
    { raiseEvent p s with stab := t } = raiseEvent p { s with stab := t } := by
  rw [raiseEvent_eq, raiseEvent_eq]

/-- So does the offer of a report that moves no window. -/
theorem offer_stab {r : Report} (hm : r.moves = none) (s : State) (t : Stabiliser) :
    { offer r s with stab := t } = offer r { s with stab := t } := by
  rw [offer_eq hm, offer_eq hm]

/-- The stabiliser is read the same after an occurrence as before it. -/
theorem raiseEvent_modify_stab (p : EventPayload) (f : Stabiliser → Stabiliser) (s : State) :
    { raiseEvent p s with stab := f (raiseEvent p s).stab } = raiseEvent p { s with stab := f s.stab } := by
  rw [raiseEvent_eq, raiseEvent_eq]

theorem offer_modify_stab {r : Report} (hm : r.moves = none) (f : Stabiliser → Stabiliser) (s : State) :
    { offer r s with stab := f (offer r s).stab } = offer r { s with stab := f s.stab } := by
  rw [offer_eq hm, offer_eq hm]

/-! ### Pan detection and integration (R91, R92) -/

/-- Both axes after the pan detection and the integration of a RUNNING port. -/
def Stabiliser.sampled (rx ry : Int) (t : Stabiliser) : Stabiliser :=
  { t with x := integrate .running rx (panStep rx t.x), y := integrate .running ry (panStep ry t.y) }

/-- Both axes after the integration of a FAILED port, which leaves the pan states alone. -/
def Stabiliser.faded (t : Stabiliser) : Stabiliser :=
  { t with x := integrate .failed 0 t.x, y := integrate .failed 0 t.y }

/-- The accumulator of a RUNNING port's axis, with the leak of its pan state (R92). -/
theorem integrate_running (r : Int) (a : StabAxis) : integrate .running r a = { a with
    acc := max (-16777215) (min 16777215 (a.acc + r * a.settings.gain
      - truncDiv (a.acc * (if a.pan = .steady then a.settings.leakSteady else a.settings.leakPan : Nat)) 65536)) } := by
  cases h : a.pan <;> simp only [integrate, leakCoefficient, h] <;> rfl

theorem panStep_bias (r bias : Int) (a : StabAxis) : panStep r { a with bias := bias } = { panStep r a with bias := bias } := by
  cases h : a.pan <;> simp only [panStep, h] <;> split_ifs <;> rfl

/-- A capture that ends DONE leaves its biases behind (R94). -/
def Stabiliser.calibrated (biasX biasY : Int) (t : Stabiliser) : Stabiliser :=
  { t with x := { t.x with bias := biasX }, y := { t.y with bias := biasY }, capture := none }

theorem Stabiliser.sampled_bias (rx ry : Int) (t : Stabiliser) :
    (t.sampled rx ry).x.bias = t.x.bias ∧ (t.sampled rx ry).y.bias = t.y.bias := by
  have hbias : ∀ r (a : StabAxis), (integrate .running r (panStep r a)).bias = a.bias := fun r a =>
    (congrArg StabAxis.bias (panStep_bias r a.bias a) :)
  exact ⟨hbias .., hbias ..⟩

/-- New biases count from the next sample on (R94). -/
theorem Stabiliser.sampled_calibrated (rx ry biasX biasY : Int) (t : Stabiliser) :
    (t.calibrated biasX biasY).sampled rx ry = (t.sampled rx ry).calibrated biasX biasY := by
  simp only [sampled, calibrated, panStep_bias]
  rfl

theorem abortCapture_none {s : State} (h : s.stab.capture = none) : abortCapture s = s := by rw [abortCapture, h]

/-- Integration comes after the completions and the occurrences of a sample, and can as well come before them. -/
theorem integrateBoth_offer {r : Report} (hm : r.moves = none) (rx ry : Int) (s : State) :
    integrateBoth rx ry (offer r s) = offer r (integrateBoth rx ry s) := by
  rw [offer_eq hm, offer_eq hm]
  rfl

theorem integrateBoth_raiseEvent (p : EventPayload) (rx ry : Int) (s : State) :
    integrateBoth rx ry (raiseEvent p s) = raiseEvent p (integrateBoth rx ry s) := by
  rw [raiseEvent_eq, raiseEvent_eq]
  rfl

theorem integrateBoth_abortCapture (rx ry : Int) (s : State) :
    integrateBoth rx ry (abortCapture s) = abortCapture (integrateBoth rx ry s) := by
  simp only [abortCapture, show (integrateBoth rx ry s).stab.capture = s.stab.capture from rfl]
  cases s.stab.capture with
  | none => rfl
  | some c => exact integrateBoth_offer rfl ..

theorem integrateBoth_reportPan (rx ry : Int) (axis : ImageAxis) (before after : PanState) (s : State) :
    integrateBoth rx ry (reportPan axis before after s) = reportPan axis before after (integrateBoth rx ry s) := by
  unfold reportPan
  split_ifs
  · rfl
  · exact (integrateBoth_abortCapture ..).trans (congrArg abortCapture (integrateBoth_raiseEvent ..))
  · exact integrateBoth_raiseEvent ..

/-- A changed pan state is reported (R91). -/
def panReported (axis : ImageAxis) (before after : PanState) (s : State) : State :=
  if before = after then s else raiseEvent (.panState axis after) s

@[simp] theorem panReported_stab (axis : ImageAxis) (before after : PanState) (s : State) :
    (panReported axis before after s).stab = s.stab := by
  unfold panReported
  split <;> simp

theorem panReported_with_stab (axis : ImageAxis) (before after : PanState) (s : State) (t : Stabiliser) :
    { panReported axis before after s with stab := t } = panReported axis before after { s with stab := t } := by
  unfold panReported
  split
  · rfl
  · exact raiseEvent_stab ..

/-- With no capture to end, or without entering PANNING, a changed pan state is reported and no more (R91). -/
theorem reportPan_of_not_ending {axis : ImageAxis} {before after : PanState} {s : State}
    (h : s.stab.capture = none ∨ ¬ (before = .steady ∧ after = .panning)) :
    reportPan axis before after s = panReported axis before after s := by
  unfold reportPan panReported
  split_ifs with hsame hpan
  · rfl
  · have hsteady : before = .steady := by cases before <;> simp_all
    exact abortCapture_none (by simpa using h.resolve_right fun hnot => hnot ⟨hsteady, hpan⟩)
  · rfl

/-- A capture ends ABORTED: its completion is offered, with the biases in force (R94). -/
def captureAborted (count : Nat) (tag : Half) (bias : Int × Int) (s : State) : State :=
  offer (.completion .aborted tag 0x0043 (.bias bias.1 bias.2 count) none) s

/-- An axis that enters PANNING ends a capture ABORTED, after its PAN_STATE (R91, R94, log entry 51). -/
theorem reportPan_of_ending {axis : ImageAxis} {s : State} {c : BiasCapture} (h : s.stab.capture = some c) :
    reportPan axis .steady .panning s = captureAborted c.count c.tag (s.stab.x.bias, s.stab.y.bias)
      (raiseEvent (.panState axis .panning) { s with stab := { s.stab with capture := none } }) := by
  have hstab : (raiseEvent (.panState axis .panning) s).stab = s.stab := by simp
  simp only [reportPan, abortCapture, hstab, h, endCapture, raiseEvent_stab]
  rfl

/-! ### The reports of both axes, x before y (log entry 39) -/

section
variable {bx ax bY ay : PanState} {s : State} {c : BiasCapture}

theorem reportPans_of_not_ending (h : s.stab.capture = none
      ∨ ¬ (bx = .steady ∧ ax = .panning) ∧ ¬ (bY = .steady ∧ ay = .panning)) :
    reportPan .y bY ay (reportPan .x bx ax s) = panReported .y bY ay (panReported .x bx ax s) := by
  rw [reportPan_of_not_ending (h.imp_right And.left), reportPan_of_not_ending]
  rw [panReported_stab]
  exact h.imp_right And.right

theorem reportPans_of_x_ending (h : s.stab.capture = some c) (hx : bx = .steady ∧ ax = .panning) :
    reportPan .y bY ay (reportPan .x bx ax s) =
      panReported .y bY ay (captureAborted c.count c.tag (s.stab.x.bias, s.stab.y.bias)
        (raiseEvent (.panState .x .panning) { s with stab := { s.stab with capture := none } })) := by
  obtain ⟨rfl, rfl⟩ := hx
  rw [reportPan_of_ending h, reportPan_of_not_ending (.inl (by simp [captureAborted]))]

theorem reportPans_of_y_ending (h : s.stab.capture = some c) (hx : ¬ (bx = .steady ∧ ax = .panning))
    (hy : bY = .steady ∧ ay = .panning) :
    reportPan .y bY ay (reportPan .x bx ax s) = captureAborted c.count c.tag (s.stab.x.bias, s.stab.y.bias)
      (raiseEvent (.panState .y .panning)
        (panReported .x bx ax { s with stab := { s.stab with capture := none } })) := by
  obtain ⟨rfl, rfl⟩ := hy
  rw [reportPan_of_not_ending (.inr hx), reportPan_of_ending (c := c) (by rw [panReported_stab, h]), panReported_with_stab,
    panReported_stab]

end

/-! ### A sample judged (R88, R89) -/

section
variable {g : GyroPort} {rates : Int × Int}

theorem judgeSample_running {good : Bool} (hs : g.state = .running) (hk : good = true ∨ g.badRun < 15) :
    judgeSample good rates g =
      { g with badRun := if good then 0 else g.badRun + 1, last := if good then some rates else g.last } := by
  cases good with
  | true => simp [judgeSample, hs]
  | false =>
    have hlt : ¬ g.badRun + 1 ≥ 16 := by have := hk.resolve_left (by decide); omega
    simp [judgeSample, hs, hlt]

theorem judgeSample_fails (hs : g.state = .running) (hk : 15 ≤ g.badRun) :
    judgeSample false rates g = { g with state := .failed, badRun := 0 } := by
  simp [judgeSample, hs, hk]

theorem judgeSample_failed_bad (hs : g.state = .failed) : judgeSample false rates g = { g with goodRun := 0 } := by
  simp [judgeSample, hs]

theorem judgeSample_failed_good (hs : g.state = .failed) (hk : g.goodRun < 15) :
    judgeSample true rates g = { g with goodRun := g.goodRun + 1, last := some rates } := by
  have hlt : ¬ g.goodRun + 1 ≥ 16 := by omega
  simp [judgeSample, hs, hlt]

theorem judgeSample_recovers (hs : g.state = .failed) (hk : 15 ≤ g.goodRun) :
    judgeSample true rates g = { g with state := .running, goodRun := 0, last := some rates } := by
  simp [judgeSample, hs, hk]

end

/-! ### What the stabiliser does with a sample (R90 to R94) -/

/-- A capture as it stands after a sample short of its last: it counts a good one (R94). -/
def BiasCapture.collected (good : Bool) (rates : Int × Int) (c : BiasCapture) : BiasCapture :=
  if good then { c with count := c.count + 1, sumX := c.sumX + rates.1, sumY := c.sumY + rates.2 } else c

theorem BiasCapture.collected_tag (good : Bool) (rates : Int × Int) (c : BiasCapture) : (c.collected good rates).tag = c.tag := by
  cases good <;> rfl

/-- The stabiliser's part of a sample event, the port judged: collecting, pan detection, integration. -/
def sampleApplied (good : Bool) (rates : Int × Int) (s : State) : State :=
  let rx := correctedRate s.gyro.state (s.gyro.last.map Prod.fst) s.stab.x.bias
  let ry := correctedRate s.gyro.state (s.gyro.last.map Prod.snd) s.stab.y.bias
  integrateBoth rx ry (detectPans rx ry (collectSample good rates s))

section
variable {b : GyroBytes} {s t : State} {g : GyroPort} {good : Bool} {rates : Int × Int}

theorem sampleEnds_same (hgood : sampleGood s.gyro.setup b = good) (hrates : gyroRates b = rates)
    (hg : judgeSample good rates s.gyro = g) (hstate : g.state = s.gyro.state)
    (ht : { s with gyro := { g with transaction := false } } = t) : sampleEnds b s = sampleApplied good rates t := by
  subst ht
  simp only [sampleEnds, hgood, hrates, hg, hstate, bne_self_eq_false, Bool.false_eq_true, if_false, beq_iff_eq,
    Bool.and_eq_true, bne_iff_ne, ne_eq, and_not_self, sampleApplied]

theorem sampleEnds_fails (hgood : sampleGood s.gyro.setup b = good) (hrates : gyroRates b = rates)
    (hg : judgeSample good rates s.gyro = g) (hstate : g.state = .failed) (hs : s.gyro.state = .running)
    (ht : { s with gyro := { g with transaction := false } } = t) :
    sampleEnds b s = sampleApplied good rates (enterFailed (raiseEvent (.gyroState .failed) t)) := by
  subst ht
  simp [sampleEnds, hgood, hrates, hg, hstate, hs, sampleApplied]

theorem sampleEnds_recovers (hgood : sampleGood s.gyro.setup b = good) (hrates : gyroRates b = rates)
    (hg : judgeSample good rates s.gyro = g) (hstate : g.state = .running) (hs : s.gyro.state = .failed)
    (ht : { s with gyro := { g with transaction := false } } = t) :
    sampleEnds b s = sampleApplied good rates (raiseEvent (.gyroState .running) t) := by
  subst ht
  simp [sampleEnds, hgood, hrates, hg, hstate, hs, sampleApplied]

end

section
variable {good : Bool} {rates : Int × Int} {s : State}

/-- No capture collects a bad sample, nor any while the port does not run (R94). -/
theorem collectSample_of_not_collecting (h : s.stab.capture = none ∨ good = false ∨ s.gyro.state ≠ .running) :
    collectSample good rates s = s := by
  unfold collectSample
  cases hc : s.stab.capture with
  | none => rfl
  | some c =>
    refine if_neg ?_
    rcases h with h | h | h
    · cases hc.symm.trans h
    · simp [h]
    · simp [h]

theorem detectPans_of_not_running {rx ry : Int} (hs : s.gyro.state ≠ .running) : detectPans rx ry s = s :=
  if_pos (bne_iff_ne.2 hs)

/-- A capture counts a good sample and passes over a bad one (R94). -/
theorem collectSample_counts {c : BiasCapture} (hs : s.gyro.state = .running) (hc : s.stab.capture = some c)
    (hk : good = true → c.count < 255) :
    collectSample good rates s = { s with stab := { s.stab with capture := some (c.collected good rates) } } := by
  cases good with
  | false =>
    rw [collectSample_of_not_collecting (.inr (.inl rfl)), show c.collected false rates = c from rfl, ← hc]
  | true =>
    have hlt : ¬ c.count + 1 ≥ 256 := by have := hk rfl; omega
    simp [collectSample, hc, hs, hlt, BiasCapture.collected]

/-- The 256th good sample ends a capture DONE, its means the new biases (R94). -/
theorem collectSample_done {c : BiasCapture} (hs : s.gyro.state = .running) (hc : s.stab.capture = some c)
    (hk : 255 ≤ c.count) :
    let biasX := roundDiv (c.sumX + rates.1) 256
    let biasY := roundDiv (c.sumY + rates.2) 256
    collectSample true rates s = offer (.completion .done c.tag 0x0043 (.bias biasX biasY 256) none)
      { s with stab := s.stab.calibrated biasX biasY } := by
  intro biasX biasY
  have hge : c.count + 1 ≥ 256 := by omega
  simp only [collectSample, hc, hs, hge, Bool.true_and, beq_self_eq_true, if_true]
  rfl

/-- A FAILED port: r is 0, and only the leak with the panning coefficient is left (R89 to R92). -/
theorem sampleApplied_failed (hs : s.gyro.state = .failed) :
    sampleApplied good rates s = { s with stab := s.stab.faded } := by
  have hcollect : collectSample good rates s = s :=
    collectSample_of_not_collecting (.inr (.inr (by rw [hs]; decide)))
  simp only [sampleApplied, hcollect, detectPans_of_not_running (hs ▸ by decide : s.gyro.state ≠ .running), integrateBoth, hs,
    correctedRate]
  rfl

theorem correctedRate_running (rate : Option Int) (bias : Int) :
    correctedRate .running rate bias = (rate.map fun v => v - bias).getD 0 := by
  cases rate <;> rfl

/-- A RUNNING port: the sample collected, both axes panned and integrated, and the pan states reported (R90 to R94). -/
theorem sampleApplied_running {rx ry : Int} (hs : s.gyro.state = .running)
    (hx : rx = (s.gyro.last.map fun v => v.1 - s.stab.x.bias).getD 0)
    (hy : ry = (s.gyro.last.map fun v => v.2 - s.stab.y.bias).getD 0) :
    let t := collectSample good rates s
    sampleApplied good rates s = reportPan .y t.stab.y.pan (panStep ry t.stab.y).pan
      (reportPan .x t.stab.x.pan (panStep rx t.stab.x).pan { t with stab := t.stab.sampled rx ry }) := by
  intro t
  have ht : t.gyro.state = .running := by simp [t, hs]
  simp only [sampleApplied, hs, correctedRate_running, Option.map_map, Function.comp_def, ← hx, ← hy]
  change integrateBoth rx ry (detectPans rx ry t) = _
  rw [detectPans, if_neg (by simp [ht]), integrateBoth_reportPan, integrateBoth_reportPan, integrateBoth, ht]
  rfl

/-- A port that fails: the pan runs 0, the leak alone, and no capture left in progress (R89, R91, R92, R94). -/
def Stabiliser.failing (t : Stabiliser) : Stabiliser :=
  { t with x := { t.x with panRun := 0 }, y := { t.y with panRun := 0 }, capture := none }.faded

theorem sampleApplied_fails (p : EventPayload) (hs : s.gyro.state = .failed) (hc : s.stab.capture = none) :
    sampleApplied good rates (enterFailed (raiseEvent p s)) = raiseEvent p { s with stab := s.stab.failing } := by
  rw [sampleApplied_failed (by simpa using hs), enterFailed, abortCapture_none (by simpa using hc),
    ← raiseEvent_modify_stab p Stabiliser.failing]
  simp only [Stabiliser.failing, raiseEvent_frame, ← hc]

/-- A capture in progress is ended ABORTED behind the port's own event (log entry 51). -/
theorem sampleApplied_fails_ending (p : EventPayload) {c : BiasCapture} (hs : s.gyro.state = .failed)
    (hc : s.stab.capture = some c) : sampleApplied good rates (enterFailed (raiseEvent p s)) =
      captureAborted c.count c.tag (s.stab.x.bias, s.stab.y.bias) (raiseEvent p { s with stab := s.stab.failing }) := by
  have hbias : (raiseEvent p s).stab = s.stab := by simp
  rw [sampleApplied_failed (by simpa using hs), enterFailed, abortCapture, hbias, hc,
    ← raiseEvent_modify_stab p Stabiliser.failing]
  simp only [endCapture]
  rw [offer_modify_stab rfl Stabiliser.faded, hbias]
  rfl

end

section
variable {good : Bool} {rates : Int × Int} {s : State} {rx ry : Int} {c : BiasCapture} (hs : s.gyro.state = .running)
  (hx : rx = (s.gyro.last.map fun v => v.1 - s.stab.x.bias).getD 0)
  (hy : ry = (s.gyro.last.map fun v => v.2 - s.stab.y.bias).getD 0)
include hs hx hy

/-- With no capture in progress the pan states alone are reported. -/
theorem sampleApplied_no_capture (hc : s.stab.capture = none) : sampleApplied good rates s =
    panReported .y s.stab.y.pan (panStep ry s.stab.y).pan (panReported .x s.stab.x.pan (panStep rx s.stab.x).pan
      { s with stab := s.stab.sampled rx ry }) := by
  rw [sampleApplied_running hs hx hy, collectSample_of_not_collecting (.inl hc), reportPans_of_not_ending]
  exact .inl hc

/-- So it is behind an occurrence: that of a port which runs again. -/
theorem sampleApplied_raised (p : EventPayload) (hc : s.stab.capture = none) : sampleApplied good rates (raiseEvent p s) =
    panReported .y s.stab.y.pan (panStep ry s.stab.y).pan (panReported .x s.stab.x.pan (panStep rx s.stab.x).pan
      (raiseEvent p { s with stab := s.stab.sampled rx ry })) := by
  rw [sampleApplied_no_capture (rx := rx) (ry := ry) (by simpa using hs) (by simpa using hx) (by simpa using hy)
    (by simpa using hc), raiseEvent_modify_stab p (Stabiliser.sampled rx ry)]
  simp only [raiseEvent_frame]

/-- A capture short of its last sample goes on collecting while no axis enters PANNING. -/
theorem sampleApplied_counting (hc : s.stab.capture = some c) (hk : good = true → c.count < 255)
    (hsteadyX : ¬ (s.stab.x.pan = .steady ∧ (panStep rx s.stab.x).pan = .panning))
    (hsteadyY : ¬ (s.stab.y.pan = .steady ∧ (panStep ry s.stab.y).pan = .panning)) :
    sampleApplied good rates s =
      panReported .y s.stab.y.pan (panStep ry s.stab.y).pan (panReported .x s.stab.x.pan (panStep rx s.stab.x).pan
        { s with stab := { s.stab.sampled rx ry with capture := some (c.collected good rates) } }) := by
  rw [sampleApplied_running hs hx hy, collectSample_counts hs hc hk, reportPans_of_not_ending (.inr ⟨hsteadyX, hsteadyY⟩)]
  rfl

/-- It is ended by x entering PANNING, the sample collected. -/
theorem sampleApplied_x_ending (hc : s.stab.capture = some c) (hk : good = true → c.count < 255)
    (hpanX : s.stab.x.pan = .steady ∧ (panStep rx s.stab.x).pan = .panning) :
    sampleApplied good rates s = panReported .y s.stab.y.pan (panStep ry s.stab.y).pan
      (captureAborted (c.collected good rates).count c.tag (s.stab.x.bias, s.stab.y.bias)
        (raiseEvent (.panState .x .panning) { s with stab := { s.stab.sampled rx ry with capture := none } })) := by
  rw [sampleApplied_running hs hx hy, collectSample_counts hs hc hk, reportPans_of_x_ending rfl hpanX]
  simp only [Stabiliser.sampled_bias]
  rw [← c.collected_tag good rates]
  rfl

/-- It is ended by y entering PANNING alone, behind a change of x's pan state. -/
theorem sampleApplied_y_ending (hc : s.stab.capture = some c) (hk : good = true → c.count < 255)
    (hsteadyX : ¬ (s.stab.x.pan = .steady ∧ (panStep rx s.stab.x).pan = .panning))
    (hpanY : s.stab.y.pan = .steady ∧ (panStep ry s.stab.y).pan = .panning) :
    sampleApplied good rates s = captureAborted (c.collected good rates).count c.tag (s.stab.x.bias, s.stab.y.bias)
      (raiseEvent (.panState .y .panning) (panReported .x s.stab.x.pan (panStep rx s.stab.x).pan
        { s with stab := { s.stab.sampled rx ry with capture := none } })) := by
  rw [sampleApplied_running hs hx hy, collectSample_counts hs hc hk, reportPans_of_y_ending rfl hsteadyX hpanY]
  simp only [Stabiliser.sampled_bias]
  rw [← c.collected_tag good rates]
  rfl

/-- The last sample of a capture: its completion with the new biases, then the pan states (R94). -/
theorem sampleApplied_done (hg : good = true) (hc : s.stab.capture = some c) (hk : 255 ≤ c.count) :
    let biasX := roundDiv (c.sumX + rates.1) 256
    let biasY := roundDiv (c.sumY + rates.2) 256
    sampleApplied good rates s =
      panReported .y s.stab.y.pan (panStep ry s.stab.y).pan (panReported .x s.stab.x.pan (panStep rx s.stab.x).pan
        (offer (.completion .done c.tag 0x0043 (.bias biasX biasY 256) none)
          { s with stab := (s.stab.sampled rx ry).calibrated biasX biasY })) := by
  intro biasX biasY
  subst hg
  rw [sampleApplied_running hs hx hy, collectSample_done hs hc hk, offer_modify_stab rfl (Stabiliser.sampled rx ry),
    reportPans_of_not_ending (.inl (by simp [Stabiliser.sampled, Stabiliser.calibrated])), Stabiliser.sampled_calibrated]
  simp only [offer_frame, Stabiliser.calibrated, panStep_bias]
  rfl

end

/-! ### The steps (R87, R88) -/

theorem exec_sampleEvent {s : State} (gdi : GdiLevels) (ht : s.gyro.transaction = true) : exec (.sampleEvent gdi) s =
    .next (sampleEnds (s.gyro.setup.readGdi gdi) (reachTime s.gyro.transactionEnd s)) :=
  congrArg Host.Outcome.next (if_pos ht)

theorem exec_sampleTimerExpiry {s : State} {q : Nat} (hq : s.gyro.timer = some q) (hs : s.gyro.state ≠ .unconfigured) :
    exec .sampleTimerExpiry s = .next { s with now := max s.now q, gyro := { s.gyro with
      transaction := true, timer := some (q + s.gyro.setup.period) } } := by
  refine congrArg Host.Outcome.next ?_
  unfold sampleTimerExpires
  rw [hq]
  cases h : s.gyro.state with
  | unconfigured => exact absurd h hs
  | running => rfl
  | failed => rfl

end Sys2Proof.Machine

namespace Sys2Proof.Proofs

open Sys2Proof Sys2Proof.Machine

/-- Settles O31: the pins by the half clock periods that are over; the sample event by the port's state and the sample. -/
theorem sampleEvents : Obligations.SampleEvents := by
  intro s gdi q hq period
  have hperiod : s.gyro.setup.period = period := by simp only [PortSetup.period, refclk, period, mul_ite]
  clear_value period
  subst hperiod
  have hstart := GyroPort.transactionStart_of_timer hq
  refine ⟨exec_sampleTimerExpiry hq, ?_, fun ht => ?_⟩
  · intro idle gone edge
    have hgone : ∀ {h}, gone h → h ≤ s.gyro.halvesOver s.now := fun {h} hg => by
      rcases Nat.eq_zero_or_pos h with rfl | hpos
      · exact Nat.zero_le _
      · rw [GyroPort.le_halvesOver hpos, hstart]
        exact hg
    have hnot : ∀ {h}, ¬ gone (h + 1) → s.gyro.halvesOver s.now ≤ h := fun {h} hg => by
      by_contra hlt
      have hle : h + 1 ≤ s.gyro.halvesOver s.now := by omega
      rw [GyroPort.le_halvesOver (by omega), hstart] at hle
      exact hg hle
    have hidle : s.gyro.clockIdle = idle := s.gyro.clockIdle_eq
    have hedge : s.gyro.setup.samplingEdge = edge := s.gyro.setup.samplingEdge_eq
    have hedge2 : edge = 1 ∨ edge = 2 := by simp only [edge]; split <;> simp
    clear_value edge gone idle
    subst hidle hedge
    refine ⟨fun ht => by simp [GyroPort.gsel, GyroPort.gclk, GyroPort.gdo, ht], fun ht => ⟨by simp [GyroPort.gsel, ht],
      fun k hk => ⟨fun hlo hhi => ?_, fun hlo hhi => ?_⟩, fun hlo => ?_, fun k hk hlo hhi => ?_, fun hlo => ?_⟩⟩
    · have hlo := hgone hlo
      have hhi := hnot hhi
      rw [GyroPort.gclk_of_halves ht (h := 2 * k) (by omega), if_neg (by omega)]
    · have hlo := hgone hlo
      have hhi := hnot hhi
      rw [GyroPort.gclk_of_halves ht (h := 2 * k + 1) (by omega), if_pos (by omega)]
    · have hlo := hgone hlo
      rw [GyroPort.gclk_of_halves ht (h := 112) (by omega), if_neg (by decide)]
    · have hlo := hgone hlo
      have hhi := hnot hhi
      rw [GyroPort.gdo_of_transaction ht (k := k) (by omega) (by omega), if_pos hk]
    · have hlo := hgone hlo
      rw [GyroPort.gdo_of_transaction ht (k := (s.gyro.halvesOver s.now + 1 - s.gyro.setup.samplingEdge) / 2) (by omega)
        (by omega), if_neg (by omega)]
  · intro read good yaw pitch last rx ry pan add leak x y x' y' report ended port faded kept answers run
    have hgood : sampleGood s.gyro.setup (s.gyro.setup.readGdi gdi) = good := rfl
    have hrates : gyroRates (s.gyro.setup.readGdi gdi) = (yaw, pitch) := by
      simp only [gyroRates, ofLe, mul_zero, add_zero]
      rfl
    have hport : ∀ g : GyroPort, g.last = last →
        { reachTime s.gyro.transactionEnd s with gyro := { g with transaction := false } } = port g s.stab := fun g hg => by
      rw [GyroPort.transactionEnd, hstart]
      simp only [port, ← hg]
      rfl
    have hpan : pan = panStep := by
      funext r a
      rfl
    have hadd : ∀ r a, add r (leak a) a = integrate .running r a := fun r a => (integrate_running r a).symm
    have hx : x = panStep rx s.stab.x := congrFun (congrFun hpan _) _
    have hy : y = panStep ry s.stab.y := congrFun (congrFun hpan _) _
    have hx' : x' = integrate .running rx x := hadd ..
    have hy' : y' = integrate .running ry y := hadd ..
    have hkept : kept = integrate .failed 0 := rfl
    have hfaded : faded = fun a => integrate .failed 0 { a with panRun := 0 } := rfl
    clear_value x' y' x y good yaw pitch pan kept faded
    subst hx' hy' hx hy hkept hfaded
    have hends : ∀ {t}, sampleEnds (s.gyro.setup.readGdi gdi) (reachTime s.gyro.transactionEnd s) = t → answers t :=
      fun h => (exec_sampleEvent gdi ht).trans (congrArg Host.Outcome.next h)
    refine ⟨fun hs hk => ?_, fun hs hbad hk => ?_, fun hs hc => ⟨fun hbad => ?_, fun hg hk => ?_, fun hg hk => ?_⟩⟩
    · have hkept := sampleEnds_same (s := reachTime s.gyro.transactionEnd s) hgood hrates (judgeSample_running hs hk) rfl
        (hport _ rfl)
      refine ⟨fun hc => ?_, fun c hc hk => ?_, fun c hc hg hk => ?_⟩
      · exact hends (hkept.trans (sampleApplied_no_capture hs rfl rfl hc))
      · exact ⟨fun hx hy => hends (hkept.trans (sampleApplied_counting hs rfl rfl hc hk hx hy)),
          fun hx => hends (hkept.trans (sampleApplied_x_ending hs rfl rfl hc hk hx)),
          fun hx hy => hends (hkept.trans (sampleApplied_y_ending hs rfl rfl hc hk hx hy))⟩
      · exact hends (hkept.trans (sampleApplied_done hs rfl rfl hg hc hk))
    · subst hbad
      have hfails := sampleEnds_fails (s := reachTime s.gyro.transactionEnd s) hgood hrates (judgeSample_fails hs hk) rfl hs
        (hport _ rfl)
      intro failed
      refine ⟨fun hc => ?_, fun c hc => ?_⟩
      · exact hends (hfails.trans (sampleApplied_fails _ rfl hc))
      · exact hends (hfails.trans (sampleApplied_fails_ending _ rfl hc))
    · subst hbad
      have hkept := sampleEnds_same (s := reachTime s.gyro.transactionEnd s) hgood hrates (judgeSample_failed_bad hs) rfl
        (hport _ rfl)
      exact hends (hkept.trans (sampleApplied_failed hs))
    · subst hg
      have hkept := sampleEnds_same (s := reachTime s.gyro.transactionEnd s) hgood hrates (judgeSample_failed_good hs hk)
        rfl (hport _ rfl)
      exact hends (hkept.trans (sampleApplied_failed hs))
    · subst hg
      have hrecovers := sampleEnds_recovers (s := reachTime s.gyro.transactionEnd s) hgood hrates
        (judgeSample_recovers hs hk) rfl hs (hport _ rfl)
      exact hends (hrecovers.trans (sampleApplied_raised rfl rfl rfl _ hc))

end Sys2Proof.Proofs
end

section
/-! SUPPORT. GYRO SETUP, STAB SETUP, STAB MODE, STAB RECENTRE and BIAS CAPTURE, branch by branch (R86, R93 to R97). -/

namespace Sys2Proof.Machine

section
variable {r : CommandRecord} {s : State}

/-! ### GYRO SETUP (R86) -/

/-- A polarity, a phase or a sample rate that names nothing is refused (R86). -/
theorem gyroSetup_refused (h : ClockPolarity.ofCode (r.byte 6) = none ∨ ClockPhase.ofCode (r.byte 7) = none
    ∨ (r.half 8 ≠ 1000 ∧ r.half 8 ≠ 2000)) : gyroSetup r s = refuses .refusedRange s := by
  unfold gyroSetup
  split
  · next p f hp hf =>
    refine if_pos ?_
    rw [hp, hf] at h
    simpa using h
  · rfl

/-- The port of a GYRO SETUP: the setup replaced, the transaction stopped, the runs 0, the timer at once, and an UNCONFIGURED
port RUNNING (R86, R89). -/
def GyroPort.setUp (p : PortSetup) (now : Nat) (g : GyroPort) : GyroPort :=
  { g with
    setup := p, transaction := false, badRun := 0, goodRun := 0, timer := some now
    state := if g.state = .unconfigured then .running else g.state }

theorem gyroSetup_accepted {p : ClockPolarity} {f : ClockPhase} (hp : ClockPolarity.ofCode (r.byte 6) = some p)
    (hf : ClockPhase.ofCode (r.byte 7) = some f) (hr : r.half 8 = 1000 ∨ r.half 8 = 2000) :
    let setup : PortSetup := {
      clockKHz := max 1000 (min 10000 (r.half 4)), polarity := p, phase := f, sampleRate := r.half 8
      command := byteOf (r.byte 10), validMask := byteOf (r.byte 11), validValue := byteOf (r.byte 12) }
    let t := abortCapture { s with gyro := s.gyro.setUp setup s.now }
    gyroSetup r s = completes (if 1000 ≤ r.half 4 ∧ r.half 4 ≤ 10000 then .done else .clamped)
      (if s.gyro.state = .unconfigured then raiseEvent (.gyroState .running) t else t) := by
  intro setup t
  have hrate : ¬ (r.half 8 ≠ 1000 ∧ r.half 8 ≠ 2000) := by omega
  simp only [gyroSetup, hp, hf, if_neg hrate]
  refine congrArg (completes · _) (doneOrClamped_of_iff ?_)
  rw [bne_iff_ne, clampNat]
  omega

/-! ### STAB SETUP (R95) -/

/-- The settings of one axis from byte `n` on, every number brought into its range (R95). -/
def settingsAt (r : CommandRecord) (n : Nat) : StabSettings :=
  { gain := max 1 (min 65535 (r.half n)), negative := r.byte (n + 2) == 255
    leakSteady := min 4095 (r.half (n + 3)), leakPan := min 4095 (r.half (n + 5))
    panThreshold := max 1 (min 32767 (r.half (n + 7))), panEnter := max 1 (min 255 (r.byte (n + 9)))
    panExit := max 1 (min 255 (r.byte (n + 10))) }

/-- They stand in the record as they are stored. -/
abbrev SameSettings (r : CommandRecord) (n : Nat) : Prop :=
  (settingsAt r n).gain = r.half n ∧ (settingsAt r n).leakSteady = r.half (n + 3) ∧ (settingsAt r n).leakPan = r.half (n + 5)
    ∧ (settingsAt r n).panThreshold = r.half (n + 7) ∧ (settingsAt r n).panEnter = r.byte (n + 9)
    ∧ (settingsAt r n).panExit = r.byte (n + 10)

theorem stabSettingsOf_none {n : Nat} (h : r.byte (n + 2) ≠ 1 ∧ r.byte (n + 2) ≠ 255) : stabSettingsOf r n = none := by
  unfold stabSettingsOf
  split
  · next heq => exact absurd heq h.1
  · next heq => exact absurd heq h.2
  · rfl

theorem stabSettingsOf_some {n : Nat} (h : r.byte (n + 2) = 1 ∨ r.byte (n + 2) = 255) :
    ∃ changed, stabSettingsOf r n = some (settingsAt r n, changed) ∧ (changed = true ↔ ¬ SameSettings r n) := by
  have hchanged : ∀ a b c d e f : Bool, (a || b || c || d || e || f) = true ↔
      ¬ (a = false ∧ b = false ∧ c = false ∧ d = false ∧ e = false ∧ f = false) := by decide
  rcases h with h | h <;> simp only [stabSettingsOf, settingsAt, h]
  all_goals
    refine ⟨_, rfl, ?_⟩
    rw [hchanged]
    simp only [bne_eq_false_iff_eq]
    rfl

theorem stabSetup_refused (h : (r.byte 6 ≠ 1 ∧ r.byte 6 ≠ 255) ∨ (r.byte 17 ≠ 1 ∧ r.byte 17 ≠ 255) ∨ 1 < r.byte 28) :
    stabSetup r s = refuses .refusedRange s := by
  unfold stabSetup
  split
  · next x y optical hx hy ho =>
    rcases h with h | h | h
    · rw [stabSettingsOf_none h] at hx
      cases hx
    · rw [stabSettingsOf_none (n := 15) h] at hy
      cases hy
    · rw [flagOfCode_of_gt h] at ho
      cases ho
  · rfl

theorem stabSetup_accepted (hx : r.byte 6 = 1 ∨ r.byte 6 = 255) (hy : r.byte 17 = 1 ∨ r.byte 17 = 255)
    (ho : r.byte 28 ≤ 1) : stabSetup r s = completes
      (if SameSettings r 4 ∧ SameSettings r 15 ∧ 1000 ≤ r.half 26 ∧ r.half 26 ≤ 20000 then .done else .clamped)
      { s with stab := { s.stab with
        x := { s.stab.x with settings := settingsAt r 4 }, y := { s.stab.y with settings := settingsAt r 15 }
        pixelPitch := max 1000 (min 20000 (r.half 26)), optical := r.byte 28 == 1 } } := by
  obtain ⟨cx, hcx, hsx⟩ := stabSettingsOf_some (n := 4) hx
  obtain ⟨cy, hcy, hsy⟩ := stabSettingsOf_some (n := 15) hy
  have hpitch : (clampNat 1000 20000 (r.half 26) != r.half 26) = true ↔ ¬ (1000 ≤ r.half 26 ∧ r.half 26 ≤ 20000) := by
    rw [bne_iff_ne, clampNat]
    omega
  have hany : ∀ {a b c : Prop}, (¬ a ∨ ¬ b) ∨ ¬ c ↔ ¬ (a ∧ b ∧ c) := by
    intro a b c
    rw [not_and_or, not_and_or, or_assoc]
  have hst := doneOrClamped_of_iff (c := cx || cy || clampNat 1000 20000 (r.half 26) != r.half 26)
    (p := SameSettings r 4 ∧ SameSettings r 15 ∧ 1000 ≤ r.half 26 ∧ r.half 26 ≤ 20000)
    (by rw [Bool.or_eq_true, Bool.or_eq_true, hsx, hsy, hpitch]; exact hany)
  rw [← hst]
  unfold stabSetup
  rw [hcx, hcy, flagOfCode_of_le ho]
  rfl

/-! ### STAB MODE (R96) -/

theorem stabMode_none (h : StabMode.ofCode (r.byte 4) = none) : stabMode r s = refuses .refusedRange s := by
  simp only [stabMode, h]

theorem stabMode_some {m : StabMode} (h : StabMode.ofCode (r.byte 4) = some m) :
    stabMode r s = completes .done { s with stab :=
      { (if s.stab.mode = .off ∧ m ≠ .off then (recentre s).stab else s.stab) with mode := m } } := by
  simp only [stabMode, h]
  split <;> rfl

/-! ### BIAS CAPTURE (R93) -/

/-- A BIAS CAPTURE next in the queue: a completion is offered if it makes one (R93, R190). -/
theorem exec_biasCapture {c : Option Completion} {t : State} (h : NextIs s r) (hc : r.code = 0x0043)
    (hb : biasCapture r (popCommand s) = (t, c)) :
    exec .biasCapture s = .next (c.elim t fun c => offer (completionReport r c) t) := by
  have hnext : nextCommand s = some r := by simp [nextCommand, h.1, h.2]
  have hrow : r.is 0x0043 = true := CommandRecord.is_of_code hc (by decide)
  refine congrArg Host.Outcome.next ?_
  simp only [runBiasCapture, hnext, hrow, hb, if_true]
  cases c <;> rfl

theorem biasChecks_busy (h : s.stab.capture.isSome = true) : firstRefusal (biasChecks s) = some .refusedBusy := if_pos h

/-- With no capture in progress the port and the pan states decide (R93). -/
theorem biasChecks_state (hc : s.stab.capture = none)
    (h : s.gyro.state ≠ .running ∨ s.stab.x.pan = .panning ∨ s.stab.y.pan = .panning) :
    firstRefusal (biasChecks s) = some .refusedState := by
  simp only [biasChecks, firstRefusal, hc, Option.isSome_none, Bool.false_eq_true, if_false, bne_iff_ne, Bool.or_eq_true,
    beq_iff_eq]
  rcases h with h | h
  · rw [if_pos h]
  · rw [if_pos h, ite_self]

theorem exec_biasCapture_refused {st : Status} (h : NextIs s r) (hc : r.code = 0x0043)
    (hst : firstRefusal (biasChecks (popCommand s)) = some st) :
    exec .biasCapture s = .next (completed r st .none (popCommand s)) :=
  exec_biasCapture (c := some { status := st }) h hc (by simp only [biasCapture, hst])

theorem exec_biasCapture_begins (h : NextIs s r) (hc : r.code = 0x0043)
    (hst : firstRefusal (biasChecks (popCommand s)) = none) :
    exec .biasCapture s = .next { popCommand s with
      stab := { s.stab with capture := some { count := 0, sumX := 0, sumY := 0, tag := r.tag } } } :=
  exec_biasCapture (c := none) h hc (by simp only [biasCapture, hst]; rfl)

end

end Sys2Proof.Machine

namespace Sys2Proof.Proofs

open Sys2Proof Sys2Proof.Machine

/-- Settles O58: command by command, refused and executed. -/
theorem stabiliserCommands : Obligations.StabiliserCommands := by
  intro s r h
  have hrow : ∀ {n : Nat}, r.code = BitVec.ofNat 16 n → n < 65536 → r.is n = true := CommandRecord.is_of_code
  refine ⟨fun hc hbad => ?_, fun p f hc hp hf hr => ?_, fun hc hbad => ?_, fun hc hx hy ho => ?_, ?_⟩
  · exact next_runCommand (body := gyroSetup) (fun _ => rfl) h (hrow hc (by decide)) (gyroSetup_refused hbad)
  · have hexec := next_runCommand (c := .gyroSetup) (fun _ => rfl) h (hrow hc (by decide))
      (gyroSetup_accepted (s := popCommand s) hp hf hr)
    intro began t
    have ht : t = abortCapture began := by
      simp only [t, abortCapture, show began.stab = s.stab from rfl]
      cases s.stab.capture <;> rfl
    rw [ht]
    exact hexec
  · exact next_runCommand (body := stabSetup) (fun _ => rfl) h (hrow hc (by decide)) (stabSetup_refused hbad)
  · exact next_runCommand (body := stabSetup) (fun _ => rfl) h (hrow hc (by decide)) (stabSetup_accepted hx hy ho)
  · intro zeroed
    refine ⟨fun hc hm => ?_, fun m hc hm => ?_, fun hc => ?_, fun hc hbusy => ?_, fun hc hnone hbad => ?_,
      fun hc hnone hrun hx hy => ?_⟩
    · exact next_runCommand (body := stabMode) (fun _ => rfl) h (hrow hc (by decide)) (stabMode_none hm)
    · exact next_runCommand (body := stabMode) (fun _ => rfl) h (hrow hc (by decide)) (stabMode_some hm)
    · exact next_runCommand (body := stabRecentre) (fun _ => rfl) h (hrow hc (by decide)) rfl
    · exact exec_biasCapture_refused h hc (biasChecks_busy hbusy)
    · exact exec_biasCapture_refused h hc (biasChecks_state hnone hbad)
    · refine exec_biasCapture_begins h hc (firstRefusal_eq_none.2 ?_)
      simp [biasChecks, popCommand, hnone, hrun, hx, hy]

end Sys2Proof.Proofs
end

section
/-! SUPPORT. The STATUS parts of the gyro port, the stabiliser, the overlay unit, the audio unit, the record tracker and the
metadata writer, as bytes laid out field by field (11, R104, R127, R148, R174, R185, R208). -/

namespace Sys2Proof.Machine

/-- A part with nothing behind it. -/
theorem Places.last {k : Nat} {part : List Byte} {fields : List (Nat × Nat × Int)} (h : Places k (part ++ []) (fields ++ [])) :
    Places k part fields := by simpa using h

/-- Two runs of fields that take turns in the record may be listed one behind the other. -/
theorem Places.interleaved {k : Nat} {bytes : List Byte} {a b c d : List (Nat × Nat × Int)}
    (h : Places k bytes (a ++ (b ++ (c ++ d)))) : Places k bytes (b ++ d ++ (a ++ c)) :=
  h.congr fun f => by
    simp only [List.mem_append]
    tauto

/-- The last good rates of the gyro port, 0 with none (R104). -/
theorem places_rates {k : Nat} (v : Option (Int × Int)) {bytes : List Byte} {fields : List (Nat × Nat × Int)}
    (h : Places (k + 4) bytes fields) :
    Places k (leInt 2 ((v.map Prod.fst).getD 0) ++ (leInt 2 ((v.map Prod.snd).getD 0) ++ bytes)) ((match v with
      | some v => [(k, 2, v.1), (k + 2, 2, v.2)]
      | none => []) ++ fields) := by
  cases v with
  | none => exact Places.gap (n := 2) (Places.gap (n := 2) h)
  | some v => exact Places.leInt (Places.leInt h)

/-- The settings of one axis, in the layout of STAB SETUP (R95). -/
theorem places_settings {k : Nat} (t : StabSettings) {bytes : List Byte} {fields : List (Nat × Nat × Int)}
    (h : Places (k + 11) bytes fields) : Places k (settingsBytes t ++ bytes) ([(k, 2, (t.gain : Int)),
      (k + 2, 1, if t.negative then -1 else 1), (k + 3, 2, (t.leakSteady : Int)), (k + 5, 2, (t.leakPan : Int)),
      (k + 7, 2, (t.panThreshold : Int)), (k + 9, 1, (t.panEnter : Int)), (k + 10, 1, (t.panExit : Int))] ++ fields) := by
  have hsign : (((if t.negative then 255 else 1 : Byte).toNat : Nat) : Int) = (if t.negative then -1 else 1) % 256 := by
    cases t.negative <;> rfl
  simp only [settingsBytes, List.append_assoc, List.cons_append, List.nil_append]
  exact Places.leNat (Places.byte hsign (Places.leNat (Places.leNat (Places.leNat (Places.byteOf (Places.byteOf h))))))

/-- One slot of the overlay unit (R127). -/
theorem places_slot {k : Nat} (x : OverlaySlot) {bytes : List Byte} {fields : List (Nat × Nat × Int)}
    (h : Places (k + 2) bytes fields) : Places k (slotBytes x ++ bytes)
      ([(k, 1, (x.state.code : Int)), (k + 1, 1, (x.list.length : Int))] ++ fields) :=
  Places.byteOf (Places.byteOf h)

/-- One route of the audio unit (R148). -/
theorem places_route {k : Nat} (q : Route) {bytes : List Byte} {fields : List (Nat × Nat × Int)}
    (h : Places (k + 4) bytes fields) : Places k (routeBytes q ++ bytes)
      ([(k, 1, (q.source.number : Int)), (k + 1, 2, q.gain.getD (-32768)), (k + 3, 1, flagValue q.limiter)] ++ fields) := by
  simp only [routeBytes, List.append_assoc, List.cons_append, List.nil_append]
  exact Places.byteOf (Places.leInt (Places.flag h))

/-- One output of the audio unit (R148). -/
theorem places_output {k : Nat} (q : AudioOutput) {bytes : List Byte} {fields : List (Nat × Nat × Int)}
    (h : Places (k + 10) bytes fields) : Places k (outputBytes q ++ bytes)
      ([(k, 2, (q.r : Int)), (k + 2, 3, (q.peak : Int)), (k + 5, 1, flagValue q.clip), (k + 6, 1, (q.displayed : Int)),
        (k + 7, 1, (q.decay : Int)), (k + 8, 1, (q.held : Int)), (k + 9, 1, (q.hold : Int))] ++ fields) := by
  simp only [outputBytes, List.append_assoc, List.cons_append, List.nil_append]
  exact Places.leNat (Places.leNat (Places.flag (Places.byteOf (Places.byteOf (Places.byteOf (Places.byteOf h))))))

/-- One clip record, all 0 for a record the list does not hold (R174). -/
theorem places_clip {k : Nat} (c : Option Clip) {bytes : List Byte} {fields : List (Nat × Nat × Int)}
    (h : Places (k + 14) bytes fields) : Places k (clipBytes c ++ bytes) ((match c with
      | some c => [(k, 2, (c.number : Int)), (k + 2, 1, (c.state.code : Int)),
          (k + 3, 1, flagValue c.start.isSome + 2 * flagValue c.stop.isSome + 4 * flagValue c.stopSeq.isSome),
          (k + 4, 4, ((c.start.getD 0 : Nat) : Int)), (k + 8, 4, ((c.stop.getD 0 : Nat) : Int)),
          (k + 12, 2, (((c.stopSeq.getD 0).toNat : Nat) : Int))]
      | none => []) ++ fields) := by
  cases c with
  | none => exact Places.gap (n := 14) h
  | some c =>
    have hflags : ((byteOf (bitsOf [c.start.isSome, c.stop.isSome, c.stopSeq.isSome])).toNat : Int) =
        (flagValue c.start.isSome + 2 * flagValue c.stop.isSome + 4 * flagValue c.stopSeq.isSome) % 256 := by
      cases c.start <;> cases c.stop <;> cases c.stopSeq <;> rfl
    have hstop : (c.stopSeq.map fun q => q.toNat).getD 0 = (c.stopSeq.getD 0).toNat := by cases c.stopSeq <;> rfl
    simp only [clipBytes, hstop, List.append_assoc, List.cons_append, List.nil_append]
    exact Places.leNat (Places.byteOf (Places.byte hflags (Places.leNat (Places.leNat (Places.leNat h)))))

/-- The colours of a palette (R127). -/
theorem places_palette (k : Nat) (colours : List Colour) (none : Colour) :
    Places k (colours.flatMap fun c => [c.luma, c.cb, c.cr]) ((List.range colours.length).flatMap fun i =>
      [(k + 3 * i, 1, ((colours.getD i none).luma.toNat : Int)), (k + 1 + 3 * i, 1, ((colours.getD i none).cb.toNat : Int)),
        (k + 2 + 3 * i, 1, ((colours.getD i none).cr.toNat : Int))]) := by
  induction colours generalizing k with
  | nil => exact places_nil k
  | cons c colours ih =>
    rw [List.length_cons, List.range_succ_eq_map, List.flatMap_cons, List.flatMap_cons, List.flatMap_map]
    refine Places.toNat (Places.toNat (Places.toNat ?_))
    have h := ih (k + 3)
    change Places (k + 3) (colours.flatMap _) ((List.range colours.length).flatMap _)
    simpa only [List.getD_cons_succ, Nat.mul_succ, Nat.add_assoc, Nat.add_comm, Nat.add_left_comm] using h

/-- The ring setup with a RECORD window (R151, R174). -/
theorem places_ring_setup {s : State} {size : Nat} {q : RingSetup} {bytes : List Byte} {fields : List (Nat × Nat × Int)}
    (hr : s.ring = some (size, q)) (h : Places 24 bytes fields) : Places 4 (ringBytes s ++ bytes)
      ([(4, 1, 1), (5, 1, (q.highWater : Int)), (6, 1, (q.drainLevel : Int)), (7, 1, flagValue q.button),
        (8, 1, (q.preRoll : Int))] ++ ([(10, 2, (s.record.nextClip : Int))]
        ++ ([(12, 4, (size : Int)), (16, 8, (q.marker.toNat : Int))] ++ fields))) := by
  simp only [ringBytes, hr, List.append_assoc, List.cons_append, List.nil_append]
  exact Places.byte rfl (Places.byteOf (Places.byteOf (Places.flag (Places.byteOf (Places.zero (Places.leNat (Places.leNat
    (Places.leNat h))))))))

/-- The ring setup without one: all ones but for the next clip's number (R208). -/
theorem places_ring_setup_none {s : State} {bytes : List Byte} {fields : List (Nat × Nat × Int)} (hr : s.ring = none)
    (h : Places 24 bytes fields) : Places 4 (ringBytes s ++ bytes)
      ([(5, 4, -1)] ++ ([(10, 2, (s.record.nextClip : Int))] ++ ([(12, 12, -1)] ++ fields))) := by
  simp only [ringBytes, hr, List.append_assoc, List.cons_append, List.nil_append]
  exact Places.zero (Places.ones (Places.zero (Places.leNat (Places.ones h))))

theorem ringBytes_length (s : State) : (ringBytes s).length = 20 := by
  unfold ringBytes
  cases s.ring <;> simp [beatBytes]

theorem clipBytes_length (c : Option Clip) : (clipBytes c).length = 14 := by
  cases c <;> simp [clipBytes]

/-- A value of `n` bytes, all ones when absent (R208). -/
theorem Places.leOption {k n : Nat} {v : Option Nat} {bytes : List Byte} {fields : List (Nat × Nat × Int)}
    (h : Places (k + n) bytes fields) : Places k (leOption n v ++ bytes) ((k, n, match v with
      | some x => (x : Int)
      | none => -1) :: fields) := by
  cases v with
  | none => exact h.ones
  | some x => exact h.leNat

theorem places_leOption (k n : Nat) (v : Option Nat) : Places k (leOption n v) [(k, n, match v with
    | some x => (x : Int)
    | none => -1)] := by
  simpa using Places.leOption (v := v) (places_nil (k + n))

/-- One axis of the stabiliser (R104). -/
theorem places_stabAxis (a : StabAxis) : Places 4 (stabAxisBytes a) [(4, 2, a.bias), (6, 4, a.acc), (10, 1, (a.pan.code : Int)),
    (11, 1, (a.panRun : Int)), (12, 4, a.corr16), (16, 4, a.o16), (20, 4, a.a16), (24, 4, a.e16)] := by
  simp only [stabAxisBytes, List.append_assoc, List.cons_append, List.nil_append]
  exact Places.leInt (Places.leInt (Places.byteOf (Places.byteOf (Places.leInt (Places.leInt (Places.leInt
    (places_leInt ..)))))))

end Sys2Proof.Machine

namespace Sys2Proof.Proofs

open Sys2Proof Sys2Proof.Machine

/-- Settles O30: the bytes of every part, one field after another. -/
theorem statusPartsOfSignals : Obligations.StatusPartsOfSignals := by
  intro s index tag lap lost flag laid half absent g t settings stab o slot u route output r clip m
  refine ⟨?_, ?_, ?_, ?_, ?_, ?_, fun hl => ?_, ?_, ?_, ?_, ?_, ?_, ?_, ?_, ?_, ?_⟩
  · refine status_laid rfl rfl rfl (by simp) ?_
    simp only [List.append_assoc, List.cons_append, List.nil_append]
    exact Places.interleaved (a := []) (b := [_, _, _, _, _, _, _, _, _]) (d := [_, _, _]) (Places.byteOf (Places.leNat
      (Places.byteOf (Places.byteOf (Places.leNat (Places.toNat (Places.toNat (Places.toNat (Places.flag
      (places_rates s.gyro.last (Places.byteOf (Places.byteOf (Places.flag (places_nil _))))))))))))))
  · refine status_laid rfl rfl rfl (by simp) ?_
    simp only [List.cons_append, List.nil_append]
    exact Places.byteOf (Places.leNat (Places.flag (Places.flag (Places.flag (Places.byteOf (places_nil _))))))
  · refine status_laid rfl rfl rfl (by simp [settingsBytes]) ?_
    exact places_settings t.x.settings (places_settings t.y.settings (places_nil _)).last
  · exact status_laid rfl rfl rfl (by simp [stabAxisBytes]) (places_stabAxis t.x)
  · exact status_laid rfl rfl rfl (by simp [stabAxisBytes]) (places_stabAxis t.y)
  · refine status_laid rfl rfl rfl (by simp [slotBytes]) ?_
    simp only [List.append_assoc]
    exact places_slot o.s0 (places_slot o.s1 (places_slot o.s2 (Places.leNat (Places.byteOf (Places.toNat (Places.toNat
      (Places.toNat (Places.toNat (Places.byteOf (Places.byteOf (places_nil _)))))))))))
  · refine status_laid rfl rfl rfl (by simp [show s.overlay.palette.length = 8 from hl]) ?_
    have hp := places_palette 4 o.palette ⟨0, 0, 0⟩
    rw [hl] at hp
    exact hp
  · refine status_laid rfl rfl rfl (by simp [routeBytes, PerChannel.toList]) ?_
    simp only [PerChannel.toList, List.flatMap_cons, List.flatMap_nil, List.append_assoc, List.nil_append]
    exact places_route _ (places_route _ (places_route _ (places_route _ (Places.leNat (Places.leNat (Places.byteOf
      (Places.byteOf (places_leNat ..))))))))
  · refine status_laid rfl rfl rfl (by simp [outputBytes]) ?_
    exact places_output _ (places_output _ (places_nil _)).last
  · refine status_laid rfl rfl rfl (by simp [outputBytes]) ?_
    exact places_output _ (places_output _ (places_nil _)).last
  · refine status_laid rfl rfl rfl (by simp) ?_
    simp only [List.append_assoc, List.cons_append, List.nil_append]
    exact Places.byteOf (Places.leNat (Places.byteOf (Places.leInt (Places.flag (places_nil _)))))
  · refine status_laid rfl rfl rfl (by simp [ringBytes_length, Timecode.bytes]) ?_
    rw [List.append_assoc]
    have htail := places_timecode (k := 24) (t := r.timecode) (Places.flag (c := s.frame.dropFrame) (places_nil _))
    cases hr : s.ring with
    | none => exact (places_ring_setup_none hr htail).interleaved
    | some ring => exact (places_ring_setup hr htail).interleaved
  · refine status_laid rfl rfl rfl (by simp [leOption_length]) ?_
    simp only [List.append_assoc, List.cons_append, List.nil_append]
    exact Places.leOption (Places.leOption (Places.leNat (Places.byteOf (Places.flag (Places.leNat (Places.leNat
      (Places.leOption (places_leOption ..))))))))
  · refine status_laid rfl rfl rfl (by simp [clipBytes_length]) ?_
    exact places_clip _ (places_clip _ (places_nil _)).last
  · refine status_laid rfl rfl rfl (by simp [clipBytes_length]) ?_
    exact places_clip _ (places_clip _ (places_nil _)).last
  · have hmark : (s.metadata.waiting.map fun w => w.mark.toNat).getD 0 =
        ((s.metadata.waiting.map WaitingMetadata.mark).getD 0).toNat := by
      cases s.metadata.waiting <;> rfl
    refine status_laid rfl rfl rfl (by simp) ?_
    rw [hmark]
    simp only [List.append_assoc, List.cons_append, List.nil_append]
    exact Places.flag (Places.flag (Places.leNat (Places.leNat (Places.zero (Places.zero (Places.leNat
      (places_leNat ..)))))))

end Sys2Proof.Proofs
end

section
/-! SUPPORT. What keeps the overlay unit and the audio unit in range: one slot SHOWN and one EDIT, lists of at most 32 elements
and hold counters of at most 50 (R117, R118), and the limiter gains, the peaks, the meters, the cadence phase and the drift
(R137, R140 to R142, R145, R146). -/

namespace Sys2Proof.Machine

/-! ### The overlay's slots (R118 to R122) -/

/-- The overlay unit's part of a state that meets OverlayInv. -/
def Overlay.wf (o : Overlay) : Prop :=
  o.countIn .shown = 1 ∧ o.countIn .edit = 1 ∧ (∀ x ∈ o.slots, x.list.length ≤ 32) ∧ o.overrunHold ≤ 50 ∧ o.clipHold ≤ 50

theorem overlayInv_iff (s : State) : OverlayInv s ↔ s.overlay.wf := Iff.rfl

/-- Every slot is in one of the four states. -/
theorem Overlay.countIn_total (o : Overlay) :
    o.countIn .shown + o.countIn .edit + o.countIn .pending + o.countIn .free = 3 := by
  have hstates : ∀ l : List OverlaySlot, (l.filter fun x => x.state == .shown).length
      + (l.filter fun x => x.state == .edit).length + (l.filter fun x => x.state == .pending).length
      + (l.filter fun x => x.state == .free).length = l.length := by
    intro l
    induction l with
    | nil => rfl
    | cons x l ih => cases hx : x.state <;> simp [hx] <;> omega
  exact hstates o.slots

@[simp] theorem Overlay.slots_mapSlots (f : OverlaySlot → OverlaySlot) (o : Overlay) :
    (o.mapSlots f).slots = o.slots.map f := rfl

/-- Where `f` brings exactly the slots in state `b` to state `a`, as many are then in `a` as were in `b`. -/
theorem Overlay.countIn_mapSlots {f : OverlaySlot → OverlaySlot} {a b : OverlayState} {o : Overlay}
    (h : ∀ x ∈ o.slots, (f x).state = a ↔ x.state = b) : (o.mapSlots f).countIn a = o.countIn b := by
  rw [countIn, slots_mapSlots, List.filter_map, List.length_map, countIn]
  refine congrArg List.length (List.filter_congr fun x hx => ?_)
  rw [Bool.eq_iff_iff]
  simp [h x hx]

theorem Overlay.has_iff {st : OverlayState} {o : Overlay} : o.has st = true ↔ 0 < o.countIn st := by
  simp [has, countIn, List.length_pos_iff_exists_mem]

/-- With one slot in a state, that state's list is this slot's. -/
theorem Overlay.listIn_eq {st : OverlayState} {o : Overlay} (h : o.countIn st = 1) {x : OverlaySlot} (hx : x ∈ o.slots)
    (hs : x.state = st) : o.listIn st = x.list := by
  obtain ⟨y, hy⟩ := List.length_eq_one_iff.1 h
  have hxy : x = y := by
    have hmem : x ∈ o.slots.filter fun x => x.state == st := List.mem_filter.2 ⟨hx, by simp [hs]⟩
    rwa [hy, List.mem_singleton] at hmem
  have hfind : (o.slots.find? fun x => x.state == st) = some y := by rw [← List.head?_filter, hy]; rfl
  rw [listIn, hfind, hxy]

/-- A change of the slots that leaves one SHOWN, one EDIT and every list short. -/
theorem Overlay.wf.mapSlots {f : OverlaySlot → OverlaySlot} {a b : OverlayState} {o : Overlay} (h : o.wf)
    (hshown : ∀ x ∈ o.slots, (f x).state = .shown ↔ x.state = a) (ha : o.countIn a = 1)
    (hedit : ∀ x ∈ o.slots, (f x).state = .edit ↔ x.state = b) (hb : o.countIn b = 1)
    (hlist : ∀ x ∈ o.slots, x.list.length ≤ 32 → (f x).list.length ≤ 32) : (o.mapSlots f).wf := by
  obtain ⟨-, -, hlong, hoverrun, hclip⟩ := h
  refine ⟨(countIn_mapSlots hshown).trans ha, (countIn_mapSlots hedit).trans hb, fun y hy => ?_, hoverrun, hclip⟩
  rw [slots_mapSlots] at hy
  obtain ⟨x, hx, rfl⟩ := List.mem_map.1 hy
  exact hlist x hx (hlong x hx)

/-- The swap shows the one slot that is PENDING (R122). -/
theorem Overlay.wf.swapped {o : Overlay} (h : o.wf) (hp : o.has .pending = true) : (o.mapSlots swapSlot).wf := by
  have htotal := o.countIn_total
  have hpending := has_iff.1 hp
  have hall := h
  obtain ⟨hshown, hedit, -⟩ := hall
  refine h.mapSlots (a := .pending) (b := .edit) (fun x _ => ?_) (by omega) (fun x _ => ?_) hedit fun x _ hx => ?_
  all_goals unfold swapSlot
  · cases hx : x.state <;> simp [hx]
  · cases hx : x.state <;> simp [hx]
  · cases x.state <;> exact hx

/-- OVERLAY COMMIT makes the PENDING slot EDIT, or the one FREE slot when none is PENDING (R121). -/
theorem Overlay.wf.committed {o : Overlay} (h : o.wf) : (o.mapSlots (commitSlot (o.has .pending))).wf := by
  have htotal := o.countIn_total
  have hall := h
  obtain ⟨hshown, hedit, -⟩ := hall
  have hlist : ∀ (p : Bool) (x : OverlaySlot), x.list.length ≤ 32 → (commitSlot p x).list.length ≤ 32 := fun p x hx => by
    unfold commitSlot
    cases x.state <;> cases p <;> first | exact hx | exact Nat.zero_le _
  cases hp : o.has .pending with
  | true =>
    have hpending := has_iff.1 hp
    refine h.mapSlots (a := .shown) (b := .pending) (fun x _ => ?_) hshown (fun x _ => ?_) (by omega) fun x _ => hlist true x
    all_goals unfold commitSlot; cases hx : x.state <;> simp [hx]
  | false =>
    have hnone : ¬ 0 < o.countIn .pending := by rw [← has_iff, hp]; decide
    have hstate : ∀ x ∈ o.slots, x.state ≠ .pending := fun x hx hs =>
      hnone (List.length_pos_of_mem (List.mem_filter.2 ⟨hx, by simp [hs]⟩))
    refine h.mapSlots (a := .shown) (b := .free) (fun x hm => ?_) hshown (fun x hm => ?_) (by omega) fun x _ => hlist false x
    all_goals
      have hx := hstate x hm
      unfold commitSlot
      cases hs : x.state <;> simp_all

/-- The EDIT slot's list changed to a short one (R119, R120). -/
theorem Overlay.wf.edited {o : Overlay} (h : o.wf) {f : List Element → List Element}
    (hf : (f (o.listIn .edit)).length ≤ 32) : (o.mapSlots (editSlot f)).wf := by
  have hall := h
  obtain ⟨hshown, hedit, -⟩ := hall
  refine h.mapSlots (a := .shown) (b := .edit) (fun x _ => ?_) hshown (fun x _ => ?_) hedit fun x hm hx => ?_
  all_goals unfold editSlot
  · cases hs : x.state <;> simp [hs]
  · cases hs : x.state <;> simp [hs]
  · cases hs : x.state with
    | edit => rw [← Overlay.listIn_eq hedit hm hs]; exact hf
    | shown => exact hx
    | pending => exact hx
    | free => exact hx

/-! ### One audio output (R137, R139 to R142) -/

/-- The limiter gain falls to a quotient below it, or rises to at most 16,384 (R137). -/
theorem limiterGain_le {threshold release r : Nat} (y : Int) (h : r ≤ 16384) : limiterGain threshold release r y ≤ 16384 := by
  unfold limiterGain
  split
  · rename_i hover
    exact (Nat.div_lt_of_lt_mul hover).le.trans h
  · exact Nat.min_le_left ..

theorem natAbs_saturate_le (v : Int) : (saturate v).natAbs ≤ 8388607 := by
  unfold saturate clampInt fullScale
  omega

theorem segmentCount_le (peak : Nat) : segmentCount peak ≤ 32 := List.length_filter_le _ meterTable

theorem AudioOutput.wf.processed {o : AudioOutput} (h : o.wf) (threshold release : Nat) (inputs : PerChannel Int) :
    (processOutput threshold release inputs o).1.wf := by
  obtain ⟨hr, hoff, hpeak, hshown, hheld⟩ := h
  refine ⟨?_, fun hlimiter => ?_, max_le hpeak (natAbs_saturate_le _), hshown, hheld⟩
  · change nextGain threshold release o _ ≤ 16384
    unfold nextGain
    split
    · exact limiterGain_le _ hr
    · exact hr
  · have hlimiter : o.route.limiter = false := hlimiter
    change nextGain threshold release o _ = 16384
    rw [nextGain, hlimiter]
    exact hoff hlimiter

/-- The displayed segment follows the period's count, which is at most 32, or falls (R141). -/
theorem moveDisplayed_le {interval c : Nat} {o : AudioOutput} (hc : c ≤ 32) (ho : o.displayed ≤ 32) :
    (moveDisplayed interval c o).displayed ≤ 32 := by
  unfold moveDisplayed
  repeat' split
  · exact hc
  · exact (Nat.sub_le ..).trans ho
  · exact ho

/-- The held segment stays above the displayed one, or follows it (R142). -/
theorem moveHeld_le {time : Nat} {o : AudioOutput} (hd : o.displayed ≤ 32) (hh : o.held ≤ 32) :
    (moveHeld time o).displayed ≤ (moveHeld time o).held ∧ (moveHeld time o).held ≤ 32 := by
  unfold moveHeld
  split
  · exact ⟨le_rfl, hd⟩
  · next hover =>
    split
    · exact ⟨le_rfl, hd⟩
    · exact ⟨Nat.le_of_not_lt hover, hh⟩

theorem moveDisplayed_keeps (interval c : Nat) (o : AudioOutput) : (moveDisplayed interval c o).r = o.r
    ∧ (moveDisplayed interval c o).route = o.route ∧ (moveDisplayed interval c o).held = o.held := by
  unfold moveDisplayed
  repeat' split
  all_goals exact ⟨rfl, rfl, rfl⟩

theorem moveHeld_keeps (time : Nat) (o : AudioOutput) : (moveHeld time o).r = o.r ∧ (moveHeld time o).route = o.route := by
  unfold moveHeld
  repeat' split
  all_goals exact ⟨rfl, rfl⟩

/-- A mark moves the meters and clears the period's peak (R144). -/
theorem AudioOutput.wf.closed {o : AudioOutput} (h : o.wf) (u : AudioUnit) : (closeOutput u o).wf := by
  obtain ⟨hr, hoff, -, hshown, hheld⟩ := h
  obtain ⟨hr₁, hroute₁, hheld₁⟩ := moveDisplayed_keeps u.decayInterval (segmentCount o.peak) o
  have hd := moveDisplayed_le (interval := u.decayInterval) (segmentCount_le o.peak) (hshown.trans hheld)
  unfold closeOutput
  generalize moveDisplayed u.decayInterval (segmentCount o.peak) o = p at *
  obtain ⟨hr₂, hroute₂⟩ := moveHeld_keeps u.holdTime p
  obtain ⟨hle, hmost⟩ := moveHeld_le (time := u.holdTime) hd (hheld₁ ▸ hheld)
  refine ⟨?_, fun hl => ?_, Nat.zero_le _, hle, hmost⟩
  · exact (hr₂.trans hr₁).trans_le hr
  · have hl : (moveHeld u.holdTime p).route.limiter = false := hl
    rw [hroute₂, hroute₁] at hl
    exact (hr₂.trans hr₁).trans (hoff hl)

/-- A new route; when its limiter setting changes, the gain starts from 16,384 (R136). -/
theorem AudioOutput.wf.routed {o : AudioOutput} (h : o.wf) (route : Route) :
    ({ o with route := route, r := if route.limiter = o.route.limiter then o.r else 16384 } : AudioOutput).wf := by
  obtain ⟨hr, hoff, hrest⟩ := h
  refine ⟨?_, fun hl => ?_, hrest⟩
  · dsimp only
    split
    · exact hr
    · exact le_rfl
  · dsimp only at hl ⊢
    split
    · next hsame => exact hoff (hsame ▸ hl)
    · rfl

theorem AudioOutput.wf.resetJob (o : AudioOutput) : o.resetJob.wf :=
  ⟨le_rfl, fun _ => rfl, Nat.zero_le _, le_rfl, Nat.zero_le _⟩

/-! ### The audio unit (R144 to R147) -/

/-- The audio unit's part of a state that meets AudioInv. -/
def AudioUnit.wf (u : AudioUnit) : Prop :=
  u.outputs.c1.wf ∧ u.outputs.c2.wf ∧ u.outputs.c3.wf ∧ u.outputs.c4.wf ∧ u.phase ≤ 4 ∧ -32768 ≤ u.drift ∧ u.drift ≤ 32767

theorem audioInv_iff (s : State) : AudioInv s ↔ s.audio.wf := Iff.rfl

theorem AudioUnit.wf_iff (u : AudioUnit) :
    u.wf ↔ (∀ c, (u.outputs.get c).wf) ∧ u.phase ≤ 4 ∧ -32768 ≤ u.drift ∧ u.drift ≤ 32767 := by
  refine ⟨fun ⟨h1, h2, h3, h4, hrest⟩ => ⟨fun c => ?_, hrest⟩, fun ⟨h, hrest⟩ => ⟨h .c1, h .c2, h .c3, h .c4, hrest⟩⟩
  cases c
  · exact h1
  · exact h2
  · exact h3
  · exact h4

/-- Each output changed to one in range (R144, R150). -/
theorem AudioUnit.wf.mapOutputs {u : AudioUnit} (h : u.wf) {f : AudioOutput → AudioOutput} (hf : ∀ o, o.wf → (f o).wf) :
    ({ u with outputs := u.outputs.map f } : AudioUnit).wf := by
  obtain ⟨h1, h2, h3, h4, hrest⟩ := h
  exact ⟨hf _ h1, hf _ h2, hf _ h3, hf _ h4, hrest⟩

/-- One output replaced by one in range (R136). -/
theorem AudioUnit.wf.setOutput {u : AudioUnit} (h : u.wf) (c : Channel) {o : AudioOutput} (ho : o.wf) :
    ({ u with outputs := u.outputs.set c o } : AudioUnit).wf := by
  rw [wf_iff] at h ⊢
  obtain ⟨houts, hrest⟩ := h
  refine ⟨fun d => ?_, hrest⟩
  by_cases hd : d = c
  · subst hd
    simpa using ho
  · simpa [PerChannel.get_set_other u.outputs o hd] using houts d

theorem AudioUnit.wf.restarted {u : AudioUnit} (h : u.wf) : u.restart.wf := by
  obtain ⟨h1, h2, h3, h4, -⟩ := h
  exact ⟨h1, h2, h3, h4, Nat.zero_le _, by simp [restart], by simp [restart]⟩

/-- The cadence check moves the phase on within 0 to 4 and keeps the drift within 16 bits (R145, R146). -/
theorem settleCadence_wf {s : State} (h : s.audio.wf) : (settleCadence s).audio.wf := by
  have hmoved : ∀ flag, ({ s.audio with
      drift := nextDrift s.audio.drift s.audio.count (expectedCount s.frame.rate s.audio.phase)
      phase := if s.audio.phase ≥ 4 then 0 else s.audio.phase + 1, driftFlag := flag } : AudioUnit).wf := fun flag => by
    obtain ⟨h1, h2, h3, h4, -⟩ := h
    refine ⟨h1, h2, h3, h4, ?_, ?_⟩
    · dsimp only
      split <;> omega
    · dsimp only [nextDrift, clampInt]
      omega
  unfold settleCadence
  dsimp only
  split
  · obtain ⟨h1, h2, h3, h4, hphase, hdrift⟩ := h
    split
    · exact ⟨h1, h2, h3, h4, Nat.zero_le _, hdrift⟩
    · exact ⟨h1, h2, h3, h4, hphase, hdrift⟩
  · split
    · simpa using hmoved true
    · exact hmoved _

theorem audioMark_wf {s : State} (h : s.audio.wf) : (audioMark s).audio.wf :=
  settleCadence_wf (s := { s with audio := { s.audio with outputs := s.audio.outputs.map (closeOutput s.audio) } })
    (h.mapOutputs fun _ ho => ho.closed s.audio)

end Sys2Proof.Machine
end

section
/-! SUPPORT. Every step keeps the overlay unit and the audio unit in range: the operations that touch them, and every other
operation, which leaves both alone (R108 to R150). -/

namespace Sys2Proof.Machine

/-- From `s` to `t` the overlay's invariant is kept, and the audio unit's. -/
structure PictureKept (s t : State) : Prop where
  overlay : OverlayInv s → OverlayInv t
  audio : AudioInv s → AudioInv t

theorem PictureKept.refl (s : State) : PictureKept s s := ⟨id, id⟩

theorem PictureKept.trans {s t u : State} (h : PictureKept s t) (k : PictureKept t u) : PictureKept s u :=
  ⟨k.overlay ∘ h.overlay, k.audio ∘ h.audio⟩

/-- Both units left alone. -/
theorem PictureKept.of_eq {s t : State} (ho : t.overlay = s.overlay) (ha : t.audio = s.audio) : PictureKept s t := by
  refine ⟨?_, ?_⟩
  · rw [overlayInv_iff, overlayInv_iff, ho]; exact id
  · rw [audioInv_iff, audioInv_iff, ha]; exact id

/-- The audio unit left alone. -/
theorem PictureKept.of_overlay {s t : State} (ho : s.overlay.wf → t.overlay.wf) (ha : t.audio = s.audio) :
    PictureKept s t :=
  ⟨ho, (PictureKept.of_eq (s := s) (t := { t with overlay := s.overlay }) rfl ha).audio⟩

/-- The overlay left alone. -/
theorem PictureKept.of_audio {s t : State} (ho : t.overlay = s.overlay) (ha : s.audio.wf → t.audio.wf) :
    PictureKept s t :=
  ⟨(PictureKept.of_eq (s := s) (t := { t with audio := s.audio }) ho rfl).overlay, ha⟩

theorem PictureKept.of_path (s : State) (p : PathUnit) : PictureKept s { s with path := p } := ⟨id, id⟩

/-! ### A viewfinder read (R108, R110, R122) -/

theorem swapOverlay_kept (s : State) : PictureKept s (swapOverlay s) := by
  refine .of_overlay (fun h => ?_) (by simp)
  unfold swapOverlay
  split
  · next hp => simpa using h.swapped hp
  · exact h

/-- A viewfinder frame start counts, swaps and takes the snapshot (R110). -/
theorem frameStart_kept (s : State) : PictureKept s (frameStart s) := by
  have hcount : PictureKept s { s with overlay := { s.overlay with frameCount := s.overlay.frameCount + 1 } } :=
    ⟨id, id⟩
  exact (hcount.trans (swapOverlay_kept _)).trans ⟨id, id⟩

theorem overlayRead_kept (w : WindowRecord) (addr len back : Nat) (beats : List BeatData) (s : State) :
    PictureKept s (overlayRead w addr len back beats s).1 := by
  unfold overlayRead
  dsimp only
  repeat' split
  · exact frameStart_kept s
  all_goals exact .refl s

theorem beatsReturn_kept (b : PassBurst) (len : Nat) (cls : Option ReadClass) (beats : List BeatData) (s : State) :
    PictureKept s (beatsReturn b len cls beats s) := by
  have hsubstituted : PictureKept s (substituteBeats cls b.issued len s.path.beatsBack.length beats s).1 := by
    unfold substituteBeats
    repeat' split
    · exact overlayRead_kept ..
    all_goals exact .refl s
  simp only [beatsReturn]
  split
  · exact hsubstituted.trans (.of_eq rfl rfl)
  · exact hsubstituted.trans (.of_eq (by simp) (by simp))

/-! ### The owners of a write (R117, R133, R139) -/

/-- A clip sets the clip hold to 50 (R117, R139). -/
theorem handClip_kept (c : Channel) (clip : Option ClipEnd) (wasClear : Bool) (s : State) :
    PictureKept s (handClip c clip wasClear s) := by
  refine .of_overlay (fun ⟨hshown, hedit, hlong, hoverrun, hclip⟩ => ?_) (by simp)
  have hheld : ({ s.overlay with clipHold := 50 } : Overlay).wf := ⟨hshown, hedit, hlong, hoverrun, le_rfl⟩
  unfold handClip
  repeat' split
  · simpa using hheld
  · exact hheld
  · exact ⟨hshown, hedit, hlong, hoverrun, hclip⟩

theorem processFrame_kept (mode : FlagByteMode) (a b : BeatData) (s : State) :
    PictureKept s (processFrame mode a b s).1 := by
  have houtputs : PictureKept s { s with
      audio := { s.audio with outputs := (processFrame mode a b s).1.audio.outputs } } := by
    refine .of_audio rfl fun ⟨h1, h2, h3, h4, hrest⟩ => ?_
    simp only [processFrame, handClip_frame]
    exact ⟨h1.processed .., h2.processed .., h3.processed .., h4.processed .., hrest⟩
  simp only [processFrame, handClip_frame] at houtputs ⊢
  exact (((houtputs.trans (handClip_kept ..)).trans (handClip_kept ..)).trans (handClip_kept ..)).trans (handClip_kept ..)

theorem processFrames_kept (mode : FlagByteMode) (beats : List Beat) (s : State) :
    PictureKept s (processFrames mode beats s).1 := by
  fun_induction processFrames mode beats s with
  | case1 a b rest s r t ih => exact (processFrame_kept ..).trans ih
  | case2 => exact .refl _

theorem audioWrite_kept (w : WindowRecord) (addr : Nat) (beats : List Beat) (s : State) :
    PictureKept s (audioWrite w addr beats s).1 := by
  unfold audioWrite
  repeat' split
  · exact .of_eq (by simp) (by simp)
  · exact (processFrames_kept ..).trans ⟨id, id⟩
  · exact .refl s

/-- A write held back sets the overrun hold to 50 (R117, R168). -/
theorem holdBackWrite_kept (off : Nat) (h : Option HeaderFields) (s : State) : PictureKept s (holdBackWrite off h s) := by
  refine .of_overlay (fun ⟨hshown, hedit, hlong, _, hclip⟩ => ?_) (by simp)
  have hheld : ({ s.overlay with overrunHold := 50 } : Overlay).wf := ⟨hshown, hedit, hlong, le_rfl, hclip⟩
  simp only [holdBackWrite]
  repeat' split
  all_goals simpa using hheld

theorem encoderWrite_kept (w : WindowRecord) (addr : Nat) (beats : List Beat) (s : State) :
    PictureKept s (encoderWrite w addr beats s).1 := by
  have hraised : ∀ p, PictureKept s (raiseEvent p s) := fun p => .of_eq (by simp) (by simp)
  unfold encoderWrite
  split
  · dsimp only
    split
    · split
      · exact (hraised _).trans (holdBackWrite_kept ..)
      · exact holdBackWrite_kept ..
    · split
      · exact .of_eq (by simp) (by simp)
      · exact .of_eq (by simp) (by simp)
  · exact .refl s

/-! ### A frame mark (R117, R144) -/

/-- Before the audio period closes and the hold counters fall, a mark leaves both units alone (R29). -/
theorem MarkFrom.overlay_eq {m : Option (Nat × Nat)} {capture : Option CaptureRecord} {s u v t : State}
    (h : MarkFrom m capture s u v t) : v.overlay = s.overlay := by
  have hu : u.overlay = s.overlay := by rw [h.begun]
  rw [h.worked, ← hu]
  exact (markDemands_frame m u).2.2.2.2.2.2.1

theorem audioMark_kept (s : State) : PictureKept s (audioMark s) := .of_audio (by simp) audioMark_wf

theorem holdsAtMark_kept (s : State) : PictureKept s (holdsAtMark s) :=
  .of_overlay (fun ⟨hshown, hedit, hlong, hoverrun, hclip⟩ =>
    ⟨hshown, hedit, hlong, (Nat.sub_le ..).trans hoverrun, (Nat.sub_le ..).trans hclip⟩) rfl

theorem markRest_kept (b : State) (r : Option CaptureRecord) (c : Correction) (s : State) :
    PictureKept s (markRest b r c s) := by
  have hopened : PictureKept s (openCycle c s) := .of_eq (by simp) (by simp)
  have hclosed := (hopened.trans (audioMark_kept _)).trans (holdsAtMark_kept _)
  unfold markRest
  generalize holdsAtMark (audioMark (openCycle c s)) = u at hclosed ⊢
  exact hclosed.trans (.of_eq (by simp) (by simp))

theorem MarkFrom.kept {m : Option (Nat × Nat)} {capture : Option CaptureRecord} {s u v t : State}
    (h : MarkFrom m capture s u v t) : PictureKept s t := by
  rw [h.made]
  exact (PictureKept.of_eq h.overlay_eq h.audio_eq).trans (markRest_kept ..)

/-! ### Acceptance and the arbiter (R1, R8, R13, R14) -/

theorem sensorWrite_kept (w : WindowRecord) (addr len : Nat) (s : State) : PictureKept s (sensorWrite w addr len s) := by
  unfold sensorWrite
  repeat' split
  · exact (captureStart_marks ..).kept
  · exact .of_eq (by simp) (by simp)
  · exact .refl s

theorem ownerWrite_kept (cls : ReadClass) (addr : Nat) (beats : List Beat) (s : State) :
    PictureKept s (ownerWrite cls addr beats s).1 := by
  unfold ownerWrite
  split
  · exact .of_eq (by simp) (by simp)
  · exact sensorWrite_kept ..
  · exact encoderWrite_kept ..
  · exact audioWrite_kept ..
  · exact .refl s

theorem acceptWrite_kept (b : WriteBurst) (s : State) : PictureKept s (acceptWrite b s) := by
  unfold acceptWrite
  split
  · exact .of_eq (by simp) (by simp)
  · exact .of_eq (by simp) (by simp)
  · next cls _ =>
    have howner := ownerWrite_kept cls b.addr.toNat b.beats s
    split <;> rename_i heq <;> rw [heq] at howner <;> exact howner.trans (.of_eq (by simp) (by simp))

theorem acceptRequest_kept (r : Request) (s : State) : PictureKept s (acceptRequest r s) := by
  cases r with
  | write b => exact acceptWrite_kept b s
  | read b => exact .of_eq (by simp [acceptRequest]) (by simp [acceptRequest])

theorem settle_kept (s : State) : PictureKept s (settle s) := by
  unfold settle
  generalize s.path.waiting.length = n
  fun_induction settleWaiting n s with
  | case1 => exact .refl _
  | case2 => exact .refl _
  | case3 n s r rest hr hl ih => exact ((PictureKept.of_path s _).trans (acceptRequest_kept ..)).trans ih
  | case4 n s r rest hr hl ahead b behind ho ih => exact ((PictureKept.of_path s _).trans (acceptWrite_kept ..)).trans ih
  | case5 => exact .refl _

theorem presentRequest_kept (r : Request) (s : State) : PictureKept s (presentRequest r s) := by
  unfold presentRequest
  exact (PictureKept.of_path s _).trans (settle_kept _)

theorem issueNext_kept (s : State) : PictureKept s (issueNext s) := by
  unfold issueNext
  repeat' split
  · exact .refl s
  · exact .of_eq (by simp) (by simp)
  · unfold issuePass
    split
    · exact (PictureKept.of_path s _).trans (settle_kept _)
    · exact .refl s

/-! ### The commands of the overlay and of the audio unit (R119 to R126, R136 to R147) -/

theorem overlayBegin_kept (r : CommandRecord) (s : State) : PictureKept s (overlayBegin r s).1 :=
  .of_overlay (fun h => h.edited (Nat.zero_le _)) rfl

/-- An element is appended to a list of fewer than 32 (R120). -/
theorem overlayElement_kept (r : CommandRecord) (s : State) : PictureKept s (overlayElement r s).1 := by
  unfold overlayElement
  split
  · exact .refl s
  · split
    · exact .refl s
    · next e _ _ hshort =>
      refine .of_overlay (fun h => h.edited (f := fun l => l ++ [e]) ?_) rfl
      rw [List.length_append, List.length_singleton]
      omega

theorem overlayCommit_kept (r : CommandRecord) (s : State) : PictureKept s (overlayCommit r s).1 :=
  .of_overlay Overlay.wf.committed rfl

theorem setPalette_kept (r : CommandRecord) (s : State) : PictureKept s (setPalette r s).1 := by
  unfold setPalette
  split <;> exact ⟨id, id⟩

theorem setZebra_kept (r : CommandRecord) (s : State) : PictureKept s (setZebra r s).1 := by
  simp only [setZebra]
  repeat' split
  all_goals exact ⟨id, id⟩

/-- AUDIO ROUTE replaces one output's entry (R136). -/
theorem audioRoute_kept (r : CommandRecord) (s : State) : PictureKept s (audioRoute r s).1 := by
  unfold audioRoute
  split
  · next out source limiter _ _ _ =>
    refine .of_audio rfl fun h => h.setOutput out (AudioOutput.wf.routed ?_ _)
    exact (s.audio.wf_iff.1 h).1 out
  · exact .refl s

theorem audioSyncReset_kept (r : CommandRecord) (s : State) : PictureKept s (audioSyncReset r s).1 :=
  .of_audio rfl AudioUnit.wf.restarted

theorem resetOverlay_kept (s : State) : PictureKept s (resetOverlay s) :=
  .of_overlay (fun ⟨_, _, _, hoverrun, hclip⟩ => ⟨rfl, rfl, by simp [resetOverlay, Overlay.slots], hoverrun, hclip⟩) rfl

theorem resetAudio_kept (s : State) : PictureKept s (resetAudio s) :=
  .of_audio rfl fun h => h.restarted.mapOutputs fun o _ => .resetJob o

theorem resetPart_kept (s : State) : PictureKept s (resetPart s) := by
  let u := resetFrame (resetStab (resetLens (resetReport s)))
  have hu : PictureKept s u := .of_eq (by simp [u]) (by simp [u])
  have hrecord : PictureKept (resetOverlay (resetAudio u)) (resetRecord (resetOverlay (resetAudio u))) :=
    .of_eq (by simp) (by simp)
  exact ((hu.trans (resetAudio_kept u)).trans (resetOverlay_kept _)).trans hrecord

/-- A command's step keeps both units in range when its meaning does (R190). -/
theorem runCommand_kept {accepts : CommandRecord → Bool} {body : CommandRecord → State → State × Completion}
    (h : ∀ r u, PictureKept u (body r u).1) (s : State) : PictureKept s (runCommand accepts body s) := by
  have hpop : PictureKept s (popCommand s) := .of_eq rfl rfl
  have hfinish : ∀ r x, PictureKept x.1 (finishCommand r x) := fun r x =>
    .of_eq (by simp [finishCommand]) (by simp [finishCommand])
  unfold runCommand
  repeat' split
  · exact (hpop.trans (h ..)).trans (hfinish ..)
  all_goals exact .refl s

end Sys2Proof.Machine
end

section
/-! SUPPORT. The steps of the other blocks leave the overlay unit and the audio unit alone, and so every step keeps both in
range. -/

namespace Sys2Proof.Machine

/-! ### The commands of the other blocks -/

/-- A command's meaning leaves the overlay unit and the audio unit alone. -/
def LeavesPicture (body : CommandRecord → State → State × Completion) : Prop :=
  ∀ r s, (body r s).1.overlay = s.overlay ∧ (body r s).1.audio = s.audio

theorem LeavesPicture.kept {accepts : CommandRecord → Bool} {body : CommandRecord → State → State × Completion}
    (h : LeavesPicture body) (s : State) : PictureKept s (runCommand accepts body s) :=
  runCommand_kept (fun r u => .of_eq (h r u).1 (h r u).2) s

/-- The commands of the other blocks, but BIAS CAPTURE and RESET JOB PART. -/
def otherCommands : List (CommandRecord → State → State × Completion) :=
  [setWindow, clearWindow, unknownCommand, setEventMask, ackEvent, serviceDone, raiseCommand, statusRequest,
    resetJobLens, resetJobStab, resetJobFrame, resetJobRecord, resetJobReport, setFrameRate, setTimecode, setTimecodeMode,
    lensEnable, lensDisable, lensReSeek, setAxisSource, setDirectDemand, setRocker, setOverride,
    engineAppend, engineModeRun, engineModeStep, engineModeHold, engineFlush, gyroSetup, stabSetup, stabMode, stabRecentre,
    recordSetup, recStart, recStop, clipDiscard]

theorem otherCommands_leave {body : CommandRecord → State → State × Completion} (h : body ∈ otherCommands) :
    LeavesPicture body := by
  revert body
  simp only [otherCommands, List.forall_mem_cons, LeavesPicture, List.not_mem_nil, false_implies, implies_true, and_true]
  and_intros
  all_goals
    intro r s
    simp only [setWindow, clearWindow, unknownCommand, setEventMask, ackEvent, serviceDone, raiseCommand, statusRequest,
      resetJobLens, resetJobStab, resetJobFrame, resetJobRecord, resetJobReport, setFrameRate, setTimecode, setTimecodeMode,
      lensEnable, lensDisable, lensReSeek, setAxisSource, setDirectDemand, setRocker, setOverride, engineAppend, engineModeRun,
      engineModeStep, setEngineMode, engineModeHold, engineFlush, gyroSetup, stabSetup, stabMode, stabRecentre, recordSetup,
      recStart, recStop, clipDiscard]
    repeat' split
  all_goals simp [completes, refuses]

/-- BIAS CAPTURE, whose completion may come later (R93). -/
theorem runBiasCapture_kept (s : State) : PictureKept s (runBiasCapture s) := by
  have hbody : ∀ r, PictureKept s (biasCapture r (popCommand s)).1 := fun r => by
    unfold biasCapture
    repeat' split
    all_goals exact .of_eq rfl rfl
  unfold runBiasCapture
  repeat' split
  · rename_i r _ _ _ t c heq
    have hrun := hbody r
    rw [heq] at hrun
    exact hrun.trans (.of_eq (by simp) (by simp))
  · rename_i r _ _ _ t heq
    have hrun := hbody r
    rwa [heq] at hrun
  all_goals exact .refl s

/-! ### The lens link's steps and the gyro port's (R43 to R59, R87, R88) -/

theorem readCharacter_kept {c : LineChar} {s t : State} {n : Nat} {r : Reception} (h : readCharacter c s = some (n, r, t)) :
    PictureKept s t := by
  obtain ⟨start, -, hs⟩ := Option.map_eq_some_iff.1 h
  cases hs
  exact .of_eq rfl rfl

theorem hearCharacter_kept (c : LineChar) (s : State) : PictureKept s (hearCharacter c s) := by
  unfold hearCharacter
  split
  · exact (readCharacter_kept (by assumption)).trans (.of_eq (by simp) (by simp))
  · exact (readCharacter_kept (by assumption)).trans (.of_eq (by simp) (by simp))
  · exact .refl s

theorem abandonByCharacter_kept (c : LineChar) (s : State) : PictureKept s (abandonByCharacter c s) := by
  unfold abandonByCharacter
  split
  · exact (readCharacter_kept (by assumption)).trans (.of_eq (by simp) (by simp))
  · exact .refl s

theorem abandonByGap_kept (s : State) : PictureKept s (abandonByGap s) := by
  unfold abandonByGap
  split
  · exact .refl s
  · exact .of_eq (by simp) (by simp)

theorem frameEnding_kept {c : LineChar} {s t : State} {n : Nat} {r : Received} (h : frameEnding c s = some (n, r, t)) :
    PictureKept s t := by
  unfold frameEnding at h
  split at h
  · next hr =>
    cases h
    exact (readCharacter_kept hr).trans (.of_eq rfl rfl)
  · cases h

/-- A received frame is taken by the step that names it (R45, R46, R51, R57). -/
theorem takeFrames_kept (check : LineChar) (s : State) : PictureKept s (discardFrame check s)
    ∧ PictureKept s (takePositionFrame check s) ∧ PictureKept s (takeIdentityFrame check s)
    ∧ PictureKept s (takeNoticeFrame check s) := by
  unfold discardFrame takePositionFrame takeIdentityFrame takeNoticeFrame
  refine ⟨?_, ?_, ?_, ?_⟩
  all_goals
    split
    · exact (frameEnding_kept (by assumption)).trans (.of_eq (by simp) (by simp))
    · exact .refl s

theorem frameCompletes_kept (s : State) : PictureKept s (frameCompletes s) := by
  simp only [frameCompletes]
  repeat' split
  all_goals exact .of_eq (by simp) (by simp)

theorem completeIfDone_kept (s : State) : PictureKept s (completeIfDone s) := by
  unfold completeIfDone
  repeat' split
  · exact frameCompletes_kept s
  all_goals exact .refl s

/-- The transmitter's steps and the timers (R47, R48, R50, R51, R54). -/
theorem lensTimed_kept (s : State) : PictureKept s (identityTimeout s) ∧ PictureKept s (frameStarts s)
    ∧ PictureKept s (frameCancelled s) ∧ PictureKept s (windowEnds s) ∧ PictureKept s (seekExpires s) := by
  simp only [identityTimeout, frameStarts, frameCancelled, windowEnds, seekExpires]
  and_intros <;> repeat' split
  all_goals exact .of_eq (by simp) (by simp)

theorem sampleTimerExpires_kept (s : State) : PictureKept s (sampleTimerExpires s) := by
  unfold sampleTimerExpires
  repeat' split
  all_goals exact .of_eq (by simp) (by simp)

theorem sampleEvent_kept (gdi : GdiLevels) (s : State) : PictureKept s (sampleEvent gdi s) := by
  unfold sampleEvent
  split <;> exact .of_eq (by simp) (by simp)

/-! ### Every step -/

/-- Every step of the table keeps both units in range. -/
theorem exec_kept {i : Instr} {s t : State} (h : exec i s = .next t) : PictureKept s t := by
  have hother : ∀ {accepts : CommandRecord → Bool} {body}, body ∈ otherCommands → PictureKept s (runCommand accepts body s) :=
    fun hb => (otherCommands_leave hb).kept s
  obtain ⟨htimeout, hstarts, hcancelled, hwindow, hseek⟩ := lensTimed_kept s
  cases i
  case pinReset cws e =>
    cases h
    obtain ⟨-, -, -, -, -, -, -, -, hoverlay, haudio, -⟩ := Proofs.pinResetMeetsInvariants cws e
    exact ⟨fun _ => hoverlay, fun _ => haudio⟩
  case upstreamWriteAccepted b =>
    simp only [exec, execUpstreamWriteAccepted] at h
    split at h <;> cases h
    exact presentRequest_kept ..
  case upstreamReadAccepted b =>
    simp only [exec, execUpstreamReadAccepted] at h
    split at h <;> cases h
    exact presentRequest_kept ..
  case arbiterIssue => cases h; exact issueNext_kept s
  case readReturn a =>
    simp only [exec, execReadReturn] at h
    repeat' split at h
    all_goals cases h
    · exact .of_eq (by simp) (by simp)
    · exact beatsReturn_kept ..
  case forwardedWriteResponse d =>
    simp only [exec, execForwardedWriteResponse] at h
    repeat' split at h
    all_goals cases h
    all_goals exact .of_eq (by simp) (by simp)
  case injectedWriteResponse d =>
    simp only [exec, execInjectedWriteResponse] at h
    split at h <;> cases h
    split <;> exact .of_eq (by simp) (by simp)
  case upstreamResponseReturned tag => cases h; exact .of_eq (by simp) (by simp)
  case frameMarkTimerExpiry => cases h; exact (timerExpiry_marks s).kept
  case metadataRecordJoins => cases h; exact .of_eq (by simp) (by simp)
  case lensFrameAbandoned cause =>
    cases cause <;> cases h
    · exact abandonByCharacter_kept ..
    · exact abandonByGap_kept s
  case lensFrameDiscarded check => cases h; obtain ⟨hk, -⟩ := takeFrames_kept check s; exact hk
  case positionTaken check => cases h; obtain ⟨-, hk, -⟩ := takeFrames_kept check s; exact hk
  case identityTaken check => cases h; obtain ⟨-, -, hk, -⟩ := takeFrames_kept check s; exact hk
  case noticeTaken check => cases h; obtain ⟨-, -, -, hk⟩ := takeFrames_kept check s; exact hk.trans (settle_kept _)
  case identityReplyTimeout => cases h; exact htimeout
  case lensFrameStart => cases h; exact hstarts
  case lensFrameComplete => cases h; exact frameCompletes_kept s
  case lensFrameCancelled => cases h; exact hcancelled
  case replyWindowExpiry => cases h; exact hwindow
  case seekTimerExpiry => cases h; exact hseek
  case lensCharacterReceived event =>
    cases event <;> cases h
    · exact (completeIfDone_kept s).trans (.of_eq (by simp) (by simp))
    · exact hearCharacter_kept ..
    · exact .of_eq (by simp) (by simp)
  case sampleTimerExpiry => cases h; exact sampleTimerExpires_kept s
  case sampleEvent gdi => cases h; exact sampleEvent_kept gdi s
  case quietIntervalEnd => cases h; exact .of_eq (by simp) (by simp)
  case reportLeavesQueue => cases h; exact (PictureKept.of_eq (by simp) (by simp)).trans (settle_kept _)
  case heldReportJoins => cases h; exact (PictureKept.of_eq (by simp) (by simp)).trans (settle_kept _)
  case biasCapture => cases h; exact runBiasCapture_kept s
  case overlayBegin => cases h; exact runCommand_kept overlayBegin_kept s
  case overlayElement => cases h; exact runCommand_kept overlayElement_kept s
  case overlayCommit => cases h; exact runCommand_kept overlayCommit_kept s
  case setPalette => cases h; exact runCommand_kept setPalette_kept s
  case setZebra => cases h; exact runCommand_kept setZebra_kept s
  case audioRoute => cases h; exact runCommand_kept audioRoute_kept s
  case audioLimiter => cases h; exact runCommand_kept (fun _ _ => ⟨id, id⟩) s
  case audioMeter => cases h; exact runCommand_kept (fun _ _ => ⟨id, id⟩) s
  case audioSyncReset => cases h; exact runCommand_kept audioSyncReset_kept s
  case resetJobAudio => cases h; exact runCommand_kept (fun _ => resetAudio_kept) s
  case resetJobOverlay => cases h; exact runCommand_kept (fun _ => resetOverlay_kept) s
  case resetJobPart => cases h; exact runCommand_kept (fun _ => resetPart_kept) s
  case setWindow => cases h; exact (hother (by simp [otherCommands])).trans (settle_kept _)
  case clearWindow => cases h; exact (hother (by simp [otherCommands])).trans (settle_kept _)
  case recordSetup => cases h; exact (hother (by simp [otherCommands])).trans (settle_kept _)
  case recStart => cases h; exact (hother (by simp [otherCommands])).trans (settle_kept _)
  all_goals
    cases h
    exact hother (by simp [otherCommands])

theorem step_kept {s t : State} (h : step s = .next t) : PictureKept s t := by
  unfold step at h
  split at h
  · next c rest _ =>
    exact (PictureKept.of_eq (s := s) (t := { s with pending := rest }) rfl rfl).trans (exec_kept h)
  · cases h
    exact .of_eq rfl rfl

end Sys2Proof.Machine

namespace Sys2Proof.Proofs

open Sys2Proof Sys2Proof.Machine

/-- Settles O9: the operations that touch the overlay unit or the audio unit keep it in range, and every other operation
leaves both alone. -/
theorem stepKeepsPictureAndSound : Obligations.StepKeepsPictureAndSound := by
  intro s t h
  have hk := step_kept h
  exact ⟨hk.overlay, hk.audio⟩

end Sys2Proof.Proofs
end

section
/-! SUPPORT. The overlay's and the audio unit's commands, branch by branch (R112, R119 to R121, R125, R126, R136, R138, R143,
R147). -/

namespace Sys2Proof.Machine

/-! ### The slots at OVERLAY BEGIN, ELEMENT and COMMIT (R119 to R121) -/

theorem editSlot_eq (f : List Element → List Element) :
    editSlot f = fun x => if x.state = .edit then { x with list := f x.list } else x := by
  funext ⟨st, l⟩
  cases st <;> rfl

theorem Overlay.has_pending_iff (o : Overlay) : o.has .pending = true ↔
    o.s0.state = .pending ∨ o.s1.state = .pending ∨ o.s2.state = .pending := by
  simp [has, slots]

theorem commitSlot_eq {waits : Bool} {p : Prop} [Decidable p] (h : waits = true ↔ p) :
    commitSlot waits = fun x => if x.state = .edit then { x with state := .pending }
      else if x.state = .pending ∨ (x.state = .free ∧ ¬ p) then { state := .edit, list := [] } else x := by
  funext ⟨st, l⟩
  cases st with
  | free => cases waits <;> simp [commitSlot, ← h]
  | shown => rfl
  | edit => rfl
  | pending => rfl

/-! ### What an OVERLAY ELEMENT names (R112 to R116) -/

/-- The condition of a visibility code 1 to 8 (R116). -/
def visibilityNamed : Nat → Visibility
  | 2 => .recording
  | 3 => .standby
  | 4 => .overrun
  | 5 => .lensLost
  | 6 => .stabLimit
  | 7 => .audioOver
  | 8 => .avDrift
  | _ => .always

theorem Visibility.ofCode_eq_none {n : Nat} (h : n = 0 ∨ 8 < n) : Visibility.ofCode n = none := by
  unfold Visibility.ofCode
  split <;> first | omega | rfl

theorem Visibility.ofCode_eq_some {n : Nat} (h0 : n ≠ 0) (h8 : n ≤ 8) : Visibility.ofCode n = some (visibilityNamed n) := by
  interval_cases n
  · exact absurd rfl h0
  all_goals rfl

/-- The bar source of a code 1 to 7 (R115). -/
def barNamed : Nat → BarSource
  | 5 => .zoom
  | 6 => .focus
  | 7 => .ringFill
  | n => .audio (if n = 1 then .c1 else if n = 2 then .c2 else if n = 3 then .c3 else .c4)

theorem BarSource.ofCode_eq_none {n : Nat} (h : n = 0 ∨ 7 < n) : BarSource.ofCode n = none := by
  unfold BarSource.ofCode
  split <;> first | omega | rfl

theorem BarSource.ofCode_eq_some {n : Nat} (h0 : n ≠ 0) (h7 : n ≤ 7) : BarSource.ofCode n = some (barNamed n) := by
  interval_cases n
  · exact absurd rfl h0
  all_goals rfl

section
variable {r : CommandRecord} {s : State}

/-- The text source of a code 1 to 6, STATIC with the record's text (R114). -/
def textNamed (r : CommandRecord) : Nat → TextSource
  | 2 => .timecode
  | 3 => .focal
  | 4 => .iris
  | 5 => .zoom
  | 6 => .clip
  | _ => .static ((r.bytes 16 (r.byte 7)).map fun c => c.toNat)

/-- A STATIC text that is too long, or has a code outside 32 to 127 (R120). -/
abbrev BadText (r : CommandRecord) : Prop :=
  16 < r.byte 7 ∨ ∃ c ∈ r.bytes 16 (r.byte 7), c.toNat < 32 ∨ 127 < c.toNat

/-- The check of a STATIC text finds what is bad about it. -/
theorem staticText_ok_iff : (r.byte 7 ≤ 16 && ((r.bytes 16 (r.byte 7)).map fun b => b.toNat).all
    (fun c => 32 ≤ c && c ≤ 127)) = true ↔ ¬ BadText r := by
  simp [BadText]

theorem textSourceOf_eq_none {n : Nat} (h : n = 0 ∨ 6 < n ∨ (n = 1 ∧ BadText r)) : textSourceOf r n = none := by
  rcases h with h | h | ⟨rfl, h⟩
  · subst h; rfl
  · unfold textSourceOf
    split <;> first | omega | rfl
  · exact if_neg fun hok => staticText_ok_iff.1 hok h

theorem textSourceOf_eq_some {n : Nat} (h0 : n ≠ 0) (h6 : n ≤ 6) (h1 : n = 1 → ¬ BadText r) :
    textSourceOf r n = some (textNamed r n) := by
  interval_cases n
  · exact absurd rfl h0
  · exact if_pos (staticText_ok_iff.2 (h1 rfl))
  all_goals rfl

/-- The kind an OVERLAY ELEMENT names (R112). -/
def kindNamed (r : CommandRecord) : ElementKind :=
  match r.byte 4 % 16 with
  | 1 => .box (max 1 (min 8 (r.byte 6 % 16)))
  | 2 => .cross (max 1 (min 8 (r.byte 6 % 16)))
  | 3 => .text (textNamed r (r.byte 6 % 16)) (r.byte 6 / 16)
  | 4 => .bar (barNamed (r.byte 6 % 16))
  | _ => .tally

/-- A TEXT element's fields that are refused (R120). -/
abbrev BadTextElement (r : CommandRecord) : Prop :=
  r.byte 4 % 16 = 3 ∧ (r.byte 6 % 16 = 0 ∨ 6 < r.byte 6 % 16 ∨ r.byte 6 / 16 = 0 ∨ 2 < r.byte 6 / 16
    ∨ (r.byte 6 % 16 = 1 ∧ BadText r))

/-- A BAR element's source that is refused (R120). -/
abbrev BadBar (r : CommandRecord) : Prop := r.byte 4 % 16 = 4 ∧ (r.byte 6 % 16 = 0 ∨ 7 < r.byte 6 % 16)

theorem elementKindOf_eq_none (h : r.byte 4 % 16 = 0 ∨ 5 < r.byte 4 % 16 ∨ BadTextElement r ∨ BadBar r) :
    elementKindOf r = none := by
  rcases h with h | h | ⟨hkind, h⟩ | ⟨hkind, h⟩
  · simp only [elementKindOf, h]
  · simp only [elementKindOf]
    split <;> first | omega | rfl
  · have hsource : r.byte 6 / 16 = 0 ∨ 2 < r.byte 6 / 16 ∨ textSourceOf r (r.byte 6 % 16) = none := by
      rcases h with h | h | h | h | h
      · exact .inr (.inr (textSourceOf_eq_none (.inl h)))
      · exact .inr (.inr (textSourceOf_eq_none (.inr (.inl h))))
      · exact .inl h
      · exact .inr (.inl h)
      · exact .inr (.inr (textSourceOf_eq_none (.inr (.inr h))))
    simp only [elementKindOf, hkind]
    split
    · next source hsome => exact if_neg (by rw [hsome] at hsource; simp at hsource; omega)
    · rfl
  · simp only [elementKindOf, hkind, BarSource.ofCode_eq_none h, Option.map_none]

/-- A BOX or CROSS thickness within 1 to 8 (R112). -/
abbrev SameThickness (r : CommandRecord) : Prop :=
  (r.byte 4 % 16 = 1 ∨ r.byte 4 % 16 = 2) → 1 ≤ r.byte 6 % 16 ∧ r.byte 6 % 16 ≤ 8

theorem elementKindOf_eq_some (h0 : r.byte 4 % 16 ≠ 0) (h5 : r.byte 4 % 16 ≤ 5) (htext : ¬ BadTextElement r)
    (hbar : ¬ BadBar r) :
    ∃ changed, elementKindOf r = some (kindNamed r, changed) ∧ (changed = true ↔ ¬ SameThickness r) := by
  have hthick : (clampNat 1 8 (r.byte 6 % 16) != r.byte 6 % 16) = true ↔ ¬ (1 ≤ r.byte 6 % 16 ∧ r.byte 6 % 16 ≤ 8) := by
    rw [bne_iff_ne, clampNat]
    omega
  have hkinds : r.byte 4 % 16 = 1 ∨ r.byte 4 % 16 = 2 ∨ r.byte 4 % 16 = 3 ∨ r.byte 4 % 16 = 4 ∨ r.byte 4 % 16 = 5 := by omega
  rcases hkinds with hk | hk | hk | hk | hk
  · exact ⟨_, by simp only [elementKindOf, kindNamed, hk]; rfl, hthick.trans (by simp [SameThickness, hk])⟩
  · exact ⟨_, by simp only [elementKindOf, kindNamed, hk]; rfl, hthick.trans (by simp [SameThickness, hk])⟩
  · have hsource := textSourceOf_eq_some (r := r) (n := r.byte 6 % 16) (fun h => htext ⟨hk, .inl h⟩)
      (Nat.not_lt.1 fun h => htext ⟨hk, .inr (.inl h)⟩) fun h hb => htext ⟨hk, .inr (.inr (.inr (.inr ⟨h, hb⟩)))⟩
    have hscale : r.byte 6 / 16 = 1 ∨ r.byte 6 / 16 = 2 := by
      have hlow : r.byte 6 / 16 ≠ 0 := fun h => htext ⟨hk, .inr (.inr (.inl h))⟩
      have hhigh : ¬ 2 < r.byte 6 / 16 := fun h => htext ⟨hk, .inr (.inr (.inr (.inl h)))⟩
      omega
    exact ⟨false, by simp only [elementKindOf, kindNamed, hk, hsource, if_pos hscale], by simp [SameThickness, hk]⟩
  · have hsource := BarSource.ofCode_eq_some (n := r.byte 6 % 16) (fun h => hbar ⟨hk, .inl h⟩)
      (Nat.not_lt.1 fun h => hbar ⟨hk, .inr h⟩)
    exact ⟨false, by simp only [elementKindOf, kindNamed, hk, hsource, Option.map_some], by simp [SameThickness, hk]⟩
  · exact ⟨false, by simp only [elementKindOf, kindNamed, hk], by simp [SameThickness, hk]⟩

/-- A TEXT element keeps its text bytes with source STATIC alone (R112, log entry 23). -/
theorem storedText_kindNamed (htext : ¬ BadTextElement r) : storedText r (kindNamed r) =
    if r.byte 4 % 16 = 3 ∧ r.byte 6 % 16 ≠ 1 then [] else r.bytes 16 (r.byte 7) := by
  by_cases hk : r.byte 4 % 16 = 3
  · have hsources : r.byte 6 % 16 = 1 ∨ r.byte 6 % 16 = 2 ∨ r.byte 6 % 16 = 3 ∨ r.byte 6 % 16 = 4 ∨ r.byte 6 % 16 = 5
        ∨ r.byte 6 % 16 = 6 := by
      have hlow : r.byte 6 % 16 ≠ 0 := fun h => htext ⟨hk, .inl h⟩
      have hhigh : ¬ 6 < r.byte 6 % 16 := fun h => htext ⟨hk, .inr (.inl h)⟩
      omega
    rcases hsources with hd | hd | hd | hd | hd | hd <;> simp [kindNamed, hk, hd, textNamed, storedText]
  · rw [if_neg fun h => hk h.1]
    unfold kindNamed
    split
    · rfl
    · rfl
    · next h => exact absurd h hk
    · rfl
    · rfl

/-- What an OVERLAY ELEMENT is refused REFUSED_RANGE for (R120). -/
abbrev BadElement (r : CommandRecord) : Prop :=
  r.byte 4 % 16 = 0 ∨ 5 < r.byte 4 % 16 ∨ 7 < r.byte 4 / 16 ∨ r.byte 5 % 16 = 0 ∨ 8 < r.byte 5 % 16 ∨ 1 < r.byte 5 / 16
    ∨ BadTextElement r ∨ BadBar r

/-- The element that an OVERLAY ELEMENT names, its numbers brought into range (R112, R120). -/
def elementNamed (r : CommandRecord) : Element :=
  { kind := kindNamed r, x := min 4095 (r.half 8), y := min 4095 (r.half 10), w := max 1 (min 4096 (r.half 12))
    h := max 1 (min 4096 (r.half 14)), palette := r.byte 4 / 16, visibility := visibilityNamed (r.byte 5 % 16)
    blink := r.byte 5 / 16 == 1, detail := r.byte 6 % 16, scale := r.byte 6 / 16
    text := if r.byte 4 % 16 = 3 ∧ r.byte 6 % 16 ≠ 1 then [] else r.bytes 16 (r.byte 7) }

/-- Its numbers stand in the record as they are stored. -/
abbrev SameElement (r : CommandRecord) : Prop :=
  SameThickness r ∧ r.half 8 ≤ 4095 ∧ r.half 10 ≤ 4095 ∧ 1 ≤ r.half 12 ∧ r.half 12 ≤ 4096 ∧ 1 ≤ r.half 14 ∧ r.half 14 ≤ 4096

theorem elementOf_eq_none (h : BadElement r) : elementOf r = none := by
  unfold elementOf
  split
  · next kind changed visibility blink hkind hvis hblink =>
    refine if_pos ?_
    rcases h with h | h | h | h | h | h | h | h
    · rw [elementKindOf_eq_none (.inl h)] at hkind; cases hkind
    · rw [elementKindOf_eq_none (.inr (.inl h))] at hkind; cases hkind
    · exact h
    · rw [Visibility.ofCode_eq_none (.inl h)] at hvis; cases hvis
    · rw [Visibility.ofCode_eq_none (.inr h)] at hvis; cases hvis
    · rw [flagOfCode_of_gt h] at hblink; cases hblink
    · rw [elementKindOf_eq_none (.inr (.inr (.inl h)))] at hkind; cases hkind
    · rw [elementKindOf_eq_none (.inr (.inr (.inr h)))] at hkind; cases hkind
  · rfl

theorem elementOf_eq_some (h : ¬ BadElement r) :
    ∃ changed, elementOf r = some (elementNamed r, changed) ∧ (changed = true ↔ ¬ SameElement r) := by
  simp only [BadElement, not_or, Nat.not_lt] at h
  obtain ⟨h0, h5, hpalette, hv0, hv8, hblink, htext, hbar⟩ := h
  obtain ⟨c, hkind, hc⟩ := elementKindOf_eq_some h0 h5 htext hbar
  refine ⟨c || min 4095 (r.half 8) != r.half 8 || min 4095 (r.half 10) != r.half 10
    || clampNat 1 4096 (r.half 12) != r.half 12 || clampNat 1 4096 (r.half 14) != r.half 14, ?_, ?_⟩
  · rw [elementOf, hkind, Visibility.ofCode_eq_some hv0 hv8, flagOfCode_of_le hblink]
    dsimp only
    rw [if_neg (Nat.not_lt.2 hpalette), storedText_kindNamed htext]
    rfl
  · simp only [Bool.or_eq_true, hc, bne_iff_ne, clampNat]
    omega

/-! ### The overlay's commands (R119 to R121, R125, R126) -/

theorem overlayBegin_eq : overlayBegin r s = completes .done { s with
    overlay := s.overlay.mapSlots fun x => if x.state = .edit then { x with list := [] } else x } := by
  rw [← editSlot_eq fun _ => []]
  rfl

theorem overlayElement_refused (h : BadElement r) : overlayElement r s = refuses .refusedRange s := by
  simp only [overlayElement, elementOf_eq_none h]

theorem overlayElement_full (h : ¬ BadElement r) (hl : 32 ≤ (s.overlay.listIn .edit).length) :
    overlayElement r s = refuses .refusedFull s := by
  obtain ⟨c, he, -⟩ := elementOf_eq_some h
  simp only [overlayElement, he, ge_iff_le, if_pos hl]

theorem overlayElement_appended (h : ¬ BadElement r) (hl : (s.overlay.listIn .edit).length < 32) :
    overlayElement r s = completes (if SameElement r then .done else .clamped)
      { s with overlay := s.overlay.mapSlots fun x =>
          if x.state = .edit then { x with list := x.list ++ [elementNamed r] } else x } := by
  obtain ⟨c, he, hc⟩ := elementOf_eq_some h
  rw [← editSlot_eq fun l => l ++ [elementNamed r]]
  simp only [overlayElement, he, ge_iff_le, if_neg (Nat.not_le.2 hl), doneOrClamped_of_iff hc]

theorem overlayCommit_eq : overlayCommit r s = completes .done { s with
    overlay := s.overlay.mapSlots fun x =>
      if x.state = .edit then { x with state := .pending }
      else if x.state = .pending ∨ (x.state = .free
        ∧ ¬ (s.overlay.s0.state = .pending ∨ s.overlay.s1.state = .pending ∨ s.overlay.s2.state = .pending)) then
        { state := .edit, list := [] }
      else x } := by
  rw [← commitSlot_eq s.overlay.has_pending_iff]
  rfl

theorem setPalette_refused (h : 7 < r.byte 4) : setPalette r s = refuses .refusedRange s := if_pos h

theorem setPalette_accepted (h : r.byte 4 ≤ 7) : setPalette r s = completes
    (if r.half 6 ≤ 255 ∧ r.half 8 ≤ 255 ∧ r.half 10 ≤ 255 then .done else .clamped)
    { s with overlay := { s.overlay with
      palette := s.overlay.palette.set (r.byte 4)
        ⟨byteClamped (r.half 6), byteClamped (r.half 8), byteClamped (r.half 10)⟩ } } := by
  unfold setPalette
  rw [if_neg (Nat.not_lt.2 h)]
  refine congrArg (completes · _) (doneOrClamped_of_iff ?_)
  simp only [Bool.or_eq_true, decide_eq_true_eq]
  omega

/-- Two values stored as at most 255 compare as they do. -/
theorem byteClamped_lt_iff (m n : Nat) : byteClamped m < byteClamped n ↔ min 255 m < min 255 n := by
  rw [BitVec.lt_def, byteClamped, byteClamped, byteOf, byteOf, BitVec.toNat_ofNat, BitVec.toNat_ofNat]
  omega

theorem setZebra_unnamed (h : ZebraMode.ofCode (r.byte 4) = none) : setZebra r s = refuses .refusedRange s := by
  simp only [setZebra, h]

/-- In BAND a low bound above the high one is refused (R125). -/
theorem setZebra_crossed (hm : ZebraMode.ofCode (r.byte 4) = some .band) (h : min 255 (r.half 10) < min 255 (r.half 8)) :
    setZebra r s = refuses .refusedRange s := by
  simp only [setZebra, hm]
  exact if_pos ⟨trivial, (byteClamped_lt_iff ..).2 h⟩

theorem setZebra_accepted {m : ZebraMode} (hm : ZebraMode.ofCode (r.byte 4) = some m)
    (h : m = .band → min 255 (r.half 8) ≤ min 255 (r.half 10)) : setZebra r s = completes
      (if r.half 6 ≤ 255 ∧ r.half 8 ≤ 255 ∧ r.half 10 ≤ 255 ∧ r.half 12 ≤ 255 then .done else .clamped)
      { s with overlay := { s.overlay with zebra :=
        ⟨m, byteClamped (r.half 6), byteClamped (r.half 8), byteClamped (r.half 10), byteClamped (r.half 12)⟩ } } := by
  simp only [setZebra, hm]
  rw [if_neg fun hb => Nat.not_lt.2 (h hb.1) ((byteClamped_lt_iff ..).1 hb.2)]
  refine congrArg (completes · _) (doneOrClamped_of_iff ?_)
  simp only [Bool.or_eq_true, decide_eq_true_eq]
  omega

/-! ### The audio unit's commands (R136, R138, R143, R147) -/

theorem audioRoute_refused (h : r.byte 4 = 0 ∨ 4 < r.byte 4 ∨ r.byte 5 = 0 ∨ 4 < r.byte 5 ∨ 1 < r.byte 8) :
    audioRoute r s = refuses .refusedRange s := by
  unfold audioRoute
  split
  · next out source limiter hout hsource hlimiter =>
    rcases h with h | h | h | h | h
    · rw [Channel.ofNumber_none (.inl h)] at hout; cases hout
    · rw [Channel.ofNumber_none (.inr h)] at hout; cases hout
    · rw [Channel.ofNumber_none (.inl h)] at hsource; cases hsource
    · rw [Channel.ofNumber_none (.inr h)] at hsource; cases hsource
    · rw [flagOfCode_of_gt h] at hlimiter; cases hlimiter
  · rfl

/-- A gain is changed when it is neither MUTE nor within −96 to +48 (R136). -/
theorem gainOf_changed_iff (v : Int) : ((gainOf v).isSome && gainOf v != some v) = true ↔
    ¬ (v = -32768 ∨ (-96 ≤ v ∧ v ≤ 48)) := by
  by_cases hv : v = -32768
  · simp [gainOf, hv]
  · simp only [gainOf, if_neg hv, Option.isSome_some, Bool.true_and, bne_iff_ne, ne_eq, Option.some.injEq, clampInt]
    omega

theorem audioRoute_accepted {out source : Channel} (hout : Channel.number out = r.byte 4)
    (hsource : Channel.number source = r.byte 5) (hlimiter : r.byte 8 ≤ 1) :
    let v := r.signedHalf 6
    let o := s.audio.outputs.get out
    let on := r.byte 8 == 1
    audioRoute r s = completes (if v = -32768 ∨ (-96 ≤ v ∧ v ≤ 48) then .done else .clamped)
      { s with audio := { s.audio with outputs := s.audio.outputs.set out { o with
        route := { source := source, gain := if v = -32768 then none else some (max (-96) (min 48 v)), limiter := on }
        r := if on = o.route.limiter then o.r else 16384 } } } := by
  intro v o on
  unfold audioRoute
  rw [← hout, ← hsource, Channel.ofNumber_number, Channel.ofNumber_number, flagOfCode_of_le hlimiter]
  exact congrArg (completes · _) (doneOrClamped_of_iff (gainOf_changed_iff v))

theorem audioLimiter_eq : audioLimiter r s = completes
    (if 1 ≤ r.word 4 ∧ r.word 4 ≤ 8388607 ∧ 1 ≤ r.half 8 ∧ r.half 8 ≤ 1024 then .done else .clamped)
    { s with audio := { s.audio with
      threshold := max 1 (min 8388607 (r.word 4)), release := max 1 (min 1024 (r.half 8)) } } := by
  refine congrArg (completes · _) (doneOrClamped_of_iff ?_)
  simp only [Bool.or_eq_true, bne_iff_ne, clampNat]
  omega

theorem audioMeter_eq : audioMeter r s = completes
    (if 1 ≤ r.byte 4 ∧ r.byte 4 ≤ 15 ∧ r.half 6 ≤ 255 ∧ 1 ≤ r.half 8 ∧ r.half 8 ≤ 2000 then .done else .clamped)
    { s with audio := { s.audio with
      decayInterval := max 1 (min 15 (r.byte 4)), holdTime := min 255 (r.half 6)
      tolerance := max 1 (min 2000 (r.half 8)) } } := by
  refine congrArg (completes · _) (doneOrClamped_of_iff ?_)
  simp only [Bool.or_eq_true, bne_iff_ne, clampNat]
  omega

end

end Sys2Proof.Machine

namespace Sys2Proof.Proofs

open Sys2Proof Sys2Proof.Machine

/-- Settles O59: command by command, refused and executed. -/
theorem overlayAndAudioCommands : Obligations.OverlayAndAudioCommands := by
  intro s r h
  have hrow : ∀ {n : Nat}, r.code = BitVec.ofNat 16 n → n < 65536 → r.is n = true := CommandRecord.is_of_code
  refine ⟨fun hc hbad => ?_, fun out source hc hout hsource hl => ?_, fun hc => ?_, fun hc => ?_, fun hc => ?_, ?_⟩
  · exact next_runCommand (body := audioRoute) (fun _ => rfl) h (hrow hc (by decide)) (audioRoute_refused hbad)
  · exact next_runCommand (body := audioRoute) (fun _ => rfl) h (hrow hc (by decide)) (audioRoute_accepted hout hsource hl)
  · exact next_runCommand (body := audioLimiter) (fun _ => rfl) h (hrow hc (by decide)) audioLimiter_eq
  · exact next_runCommand (body := audioMeter) (fun _ => rfl) h (hrow hc (by decide)) audioMeter_eq
  · exact next_runCommand (body := audioSyncReset) (fun _ => rfl) h (hrow hc (by decide)) rfl
  · intro slots kind palette visibility blink detail scale text badText bad t source bar named condition element same byte
      colour
    refine ⟨fun hc => ?_, fun hc hbad => ?_, fun hc hok hl => ?_, fun st hc hok hl hst => ?_, fun hc => ?_, fun hc hp => ?_,
      fun hc hp => ?_, fun hc hz => ?_, fun m hc hm hb => ?_⟩
    · exact next_runCommand (body := overlayBegin) (fun _ => rfl) h (hrow hc (by decide)) overlayBegin_eq
    · exact next_runCommand (body := overlayElement) (fun _ => rfl) h (hrow hc (by decide)) (overlayElement_refused hbad)
    · exact next_runCommand (body := overlayElement) (fun _ => rfl) h (hrow hc (by decide)) (overlayElement_full hok hl)
    · have hstatus : (if SameElement r then Status.done else .clamped) = st := by
        rcases hst with ⟨hs, rfl⟩ | ⟨hs, rfl⟩
        · exact if_pos hs
        · exact if_neg hs
      subst hstatus
      exact next_runCommand (body := overlayElement) (fun _ => rfl) h (hrow hc (by decide)) (overlayElement_appended hok hl)
    · intro pending
      exact next_runCommand (body := overlayCommit) (fun _ => rfl) h (hrow hc (by decide)) overlayCommit_eq
    · exact next_runCommand (body := setPalette) (fun _ => rfl) h (hrow hc (by decide)) (setPalette_refused hp)
    · exact next_runCommand (body := setPalette) (fun _ => rfl) h (hrow hc (by decide)) (setPalette_accepted hp)
    · have hrefused : setZebra r (popCommand s) = refuses .refusedRange (popCommand s) := by
        rcases hz with hz | ⟨hband, hz⟩
        · exact setZebra_unnamed hz
        · exact setZebra_crossed (by rw [hband]; rfl) hz
      exact next_runCommand (fun _ => rfl) h (hrow hc (by decide)) hrefused
    · exact next_runCommand (body := setZebra) (fun _ => rfl) h (hrow hc (by decide)) (setZebra_accepted hm hb)

end Sys2Proof.Proofs
end

section
/-! SUPPORT. Where an element of each kind covers, and the strings that a snapshot gives (R112 to R116). -/

namespace Sys2Proof.Machine

/-! ### Visibility and the rectangle (R112, R116) -/

theorem Element.visible_iff {snap : Snapshot} {e : Element} : e.visible snap = true ↔
    snap.conditions.holds e.visibility = true ∧ (e.blink = true → snap.count.toNat / 16 % 2 = 0) := by
  unfold visible
  cases e.blink <;> simp

theorem Element.inRect_iff {e : Element} {p q : Nat} :
    e.inRect p q = true ↔ e.x ≤ p ∧ p < e.x + e.w ∧ e.y ≤ q ∧ q < e.y + e.h := by
  simp [inRect, and_assoc]

theorem Element.covers_iff {snap : Snapshot} {e : Element} {p q : Nat} : e.covers snap p q = true ↔
    e.visible snap = true ∧ e.inRect p q = true ∧ kindCovers snap e (p - e.x) (q - e.y) = true := by
  simp [covers, and_assoc]

/-! ### The kinds (R112, R113, R115) -/

/-- The band of a CROSS, from the rectangle's corner on (R112). -/
theorem inBand_iff {corner extent t v : Nat} (h : corner ≤ v) : inBand extent t (v - corner) = true ↔
    extent < t ∨ (corner + (extent - t) / 2 ≤ v ∧ v < corner + (extent - t) / 2 + t) := by
  unfold inBand
  split
  · next ht => exact iff_of_true rfl (.inl ht)
  · simp only [Bool.and_eq_true, decide_eq_true_eq]
    omega

theorem glyphSet_iff {code col row : Nat} : glyphSet code col row = true ↔
    code = 127 ∨ (33 ≤ code ∧ code ≤ 126 ∧ Config.glyph code col row = true) := by
  unfold glyphSet
  split
  · next h => exact iff_of_true rfl (.inl h)
  · next h127 =>
    split
    · next h => simp [h127, h.1, h.2]
    · next h =>
      refine iff_of_false (by simp) ?_
      rintro (h | ⟨hlow, hhigh, -⟩)
      · exact h127 h
      · exact h ⟨hlow, hhigh⟩

theorem textCovers_iff {text : List Nat} {scale dx dy : Nat} : textCovers text scale dx dy = true ↔
    ∃ code, text[dx / (8 * scale)]? = some code ∧ dy < 16 * scale
      ∧ (code = 127 ∨ (33 ≤ code ∧ code ≤ 126 ∧ Config.glyph code (dx % (8 * scale) / scale) (dy / scale) = true)) := by
  unfold textCovers
  cases text[dx / (8 * scale)]? with
  | none => simp
  | some code => simp [glyphSet_iff]

/-- Along a bar its fill is covered, and the peak-hold mark (R115). -/
theorem barCovers_iff {snap : Snapshot} {source : BarSource} {extent d : Nat} : barCovers snap source extent d = true ↔
    d < barFill snap source extent ∨ (0 < barMark snap source extent ∧ d + 1 = barMark snap source extent) := by
  simp [barCovers]

/-- The extent of a bar: its longer side, the width of a square one (R115). -/
def barExtent (e : Element) : Nat := if decide (e.h ≤ e.w) then e.w else e.h

/-- A length from the start of a bar reaches a pixel: from the left, or upward from the bottom (R115). -/
def barReaches (e : Element) (p q length : Nat) : Prop :=
  if decide (e.h ≤ e.w) then p < e.x + length else e.y + e.h < q + 1 + length

/-- A pixel is the last of a length from the start of a bar (R115). -/
def barEndsAt (e : Element) (p q m : Nat) : Prop :=
  if decide (e.h ≤ e.w) then p + 1 = e.x + m else q + m = e.y + e.h

theorem kindCovers_bar {snap : Snapshot} {e : Element} {p q : Nat} {source : BarSource} (hk : e.kind = .bar source)
    (h : e.inRect p q = true) : kindCovers snap e (p - e.x) (q - e.y) = true ↔
      barReaches e p q (barFill snap source (barExtent e))
        ∨ (0 < barMark snap source (barExtent e) ∧ barEndsAt e p q (barMark snap source (barExtent e))) := by
  obtain ⟨hx, hxw, hy, hyh⟩ := Element.inRect_iff.1 h
  unfold kindCovers barReaches barEndsAt barExtent
  rw [hk]
  by_cases hw : e.h ≤ e.w
  · simp only [hw, decide_true, if_true, barCovers_iff]
    omega
  · simp only [hw, decide_false, if_false, Bool.false_eq_true, barCovers_iff]
    omega

/-- A BOX covers an outline of its thickness (R112). -/
theorem kindCovers_box {snap : Snapshot} {e : Element} {p q t : Nat} (hk : e.kind = .box t) (h : e.inRect p q = true) :
    kindCovers snap e (p - e.x) (q - e.y) = true ↔
      p < e.x + t ∨ e.x + e.w ≤ p + t ∨ q < e.y + t ∨ e.y + e.h ≤ q + t := by
  obtain ⟨hx, -, hy, -⟩ := Element.inRect_iff.1 h
  simp only [kindCovers, hk, Bool.or_eq_true, decide_eq_true_eq]
  omega

/-- A CROSS covers its two bands (R112). -/
theorem kindCovers_cross {snap : Snapshot} {e : Element} {p q t : Nat} (hk : e.kind = .cross t) (h : e.inRect p q = true) :
    kindCovers snap e (p - e.x) (q - e.y) = true ↔
      (e.h < t ∨ (e.y + (e.h - t) / 2 ≤ q ∧ q < e.y + (e.h - t) / 2 + t))
        ∨ (e.w < t ∨ (e.x + (e.w - t) / 2 ≤ p ∧ p < e.x + (e.w - t) / 2 + t)) := by
  obtain ⟨hx, -, hy, -⟩ := Element.inRect_iff.1 h
  simp only [kindCovers, hk, Bool.or_eq_true, inBand_iff hy, inBand_iff hx]

/-- A TEXT covers the set positions of its characters' glyphs (R113). -/
theorem kindCovers_text {snap : Snapshot} {e : Element} {p q scale : Nat} {source : TextSource}
    (hk : e.kind = .text source scale) (h : e.inRect p q = true) : kindCovers snap e (p - e.x) (q - e.y) = true ↔
      ∃ code, (sourceText snap source)[(p - e.x) / (8 * scale)]? = some code ∧ q < e.y + 16 * scale
        ∧ (code = 127 ∨ (33 ≤ code ∧ code ≤ 126
          ∧ Config.glyph code ((p - e.x) % (8 * scale) / scale) ((q - e.y) / scale) = true)) := by
  obtain ⟨-, -, hy, -⟩ := Element.inRect_iff.1 h
  have hrow : q - e.y < 16 * scale ↔ q < e.y + 16 * scale := by omega
  simp only [kindCovers, hk, textCovers_iff, hrow]

/-- A position's value above the low end of its range, 0 when no position record is held (R115). -/
def valueAbove (lo hi : Nat) (v : Option Nat) : Nat :=
  match v with
  | some v => max lo (min hi v) - lo
  | none => 0

theorem barValue_zoom (snap : Snapshot) : barValue snap .zoom =
    (valueAbove snap.zoomMin snap.zoomMax (snap.lens.map fun v => v.zoom), snap.zoomMax - snap.zoomMin) := by
  unfold barValue
  cases snap.lens <;> rfl

theorem barValue_focus (snap : Snapshot) : barValue snap .focus =
    (valueAbove snap.focusMin snap.focusMax (snap.lens.map fun v => v.focus), snap.focusMax - snap.focusMin) := by
  unfold barValue
  cases snap.lens <;> rfl

/-- A bar of a source without a peak-hold mark covers its fill alone (R115). -/
theorem kindCovers_fill {snap : Snapshot} {e : Element} {p q : Nat} {source : BarSource} (hk : e.kind = .bar source)
    (h : e.inRect p q = true) (hm : barMark snap source (barExtent e) = 0) :
    kindCovers snap e (p - e.x) (q - e.y) = true ↔ barReaches e p q (barFill snap source (barExtent e)) := by
  rw [kindCovers_bar hk h, hm]
  simp

/-! ### The strings (R114) -/

theorem decimal_of_lt {n v : Nat} (h : v < 10) : decimal (n + 1) v = [48 + v] := if_pos h

theorem decimal_of_le {n v : Nat} (h : 10 ≤ v) : decimal (n + 1) v = decimal n (v / 10) ++ [48 + v % 10] :=
  if_neg (Nat.not_lt.2 h)

/-- The last place holds the last digit, the places before it the rest of the number, or spaces (R114). -/
theorem rightAlign_decimal_succ (n v : Nat) : rightAlign (n + 1) (decimal (n + 1) v) =
    (if v < 10 then List.replicate n 32 else rightAlign n (decimal n (v / 10))) ++ [48 + v % 10] := by
  split
  · next h => simp [decimal_of_lt h, rightAlign, Nat.mod_eq_of_lt h]
  · next h => simp [decimal_of_le (Nat.not_lt.1 h), rightAlign]

theorem rightAlign_decimal_three {v : Nat} (h : v < 1000) : rightAlign 3 (decimal 3 v) =
    [if v < 100 then 32 else 48 + v / 100, if v < 10 then 32 else 48 + v / 10 % 10, 48 + v % 10] := by
  have htop : v / 10 / 10 % 10 = v / 100 := by omega
  have htwo : v / 10 < 10 ↔ v < 100 := by omega
  rw [rightAlign_decimal_succ, rightAlign_decimal_succ, rightAlign_decimal_succ]
  simp only [htop, htwo]
  split_ifs <;> first | omega | rfl

theorem rightAlign_decimal_four {v : Nat} (h : v < 10000) : rightAlign 4 (decimal 4 v) =
    [if v < 1000 then 32 else 48 + v / 1000, if v < 100 then 32 else 48 + v / 100 % 10,
      if v < 10 then 32 else 48 + v / 10 % 10, 48 + v % 10] := by
  have htop : v / 10 / 100 = v / 1000 := by omega
  have hmid : v / 10 / 10 % 10 = v / 100 % 10 := by omega
  have htwo : v / 10 < 10 ↔ v < 100 := by omega
  have hthree : v / 10 < 100 ↔ v < 1000 := by omega
  rw [rightAlign_decimal_succ, rightAlign_decimal_three (by omega), htop, hmid]
  simp only [htwo, hthree]
  split_ifs <;> first | omega | rfl

/-- The iris of a number of tenths below 100: one digit or two before the point (R114). -/
theorem decimal_five_of_lt {v : Nat} (h : v < 100) :
    decimal 5 v = (if v < 10 then [] else [48 + v / 10]) ++ [48 + v % 10] := by
  split
  · next h1 => rw [decimal_of_lt h1, Nat.mod_eq_of_lt h1]; rfl
  · next h1 => rw [decimal_of_le (Nat.not_lt.1 h1), decimal_of_lt (by omega)]

/-- Three digits or four (R114). -/
theorem decimal_five_of_le {v : Nat} (hlow : 100 ≤ v) (hhigh : v < 10000) : decimal 5 v =
    (if v < 1000 then [] else [48 + v / 1000]) ++ [48 + v / 100 % 10, 48 + v / 10 % 10, 48 + v % 10] := by
  have hmid : v / 10 / 10 % 10 = v / 100 % 10 := by omega
  rw [decimal_of_le (by omega), decimal_of_le (by omega)]
  split
  · rw [decimal_of_lt (by omega), ← hmid, Nat.mod_eq_of_lt (a := v / 10 / 10) (by omega)]; rfl
  · rw [decimal_of_le (by omega), decimal_of_lt (by omega), hmid, show v / 10 / 10 / 10 = v / 1000 by omega]; rfl

theorem fixedDecimal_two (v : Nat) : fixedDecimal 2 v = [48 + v / 10 % 10, 48 + v % 10] := rfl

theorem fixedDecimal_four (v : Nat) :
    fixedDecimal 4 v = [48 + v / 1000 % 10, 48 + v / 100 % 10, 48 + v / 10 % 10, 48 + v % 10] := by
  simp [fixedDecimal, Nat.div_div_eq_div_mul]

/-- The zoom percent, of a range met or not, is at most 100 (R114). -/
theorem zoomPercent_eq {lo hi zoom : Nat} (h : lo ≤ hi) : zoomPercent lo hi zoom =
      (if hi - lo = 0 then 0 else (max lo (min hi zoom) - lo) * 100 / (hi - lo)) ∧ zoomPercent lo hi zoom ≤ 100 := by
  have heq : zoomPercent lo hi zoom = if hi - lo = 0 then 0 else (max lo (min hi zoom) - lo) * 100 / (hi - lo) :=
    if_congr (by omega) rfl rfl
  refine ⟨heq, ?_⟩
  rw [heq]
  split
  · exact Nat.zero_le _
  · refine Nat.div_le_of_le_mul ?_
    exact Nat.mul_le_mul (by omega) le_rfl

end Sys2Proof.Machine

namespace Sys2Proof.Proofs

open Sys2Proof Sys2Proof.Machine

/-- Settles O46: visibility and rectangle, then kind by kind, and the strings source by source. -/
theorem overlayCovers : Obligations.OverlayCovers := by
  intro snap e p q n holds visible inside band horizontal extent reached atEnd zoom focus above fill
  have hvisible : e.visible snap = true ↔ visible := Element.visible_iff
  refine ⟨?_, fun codes => rfl, rfl, ?_, fun v hv hf => ?_, fun v hv hlow hhigh => ?_, fun v hv hz => ?_, fun hl => ?_,
    fun m hc => ?_, fun hc => ?_⟩
  · have hinside : e.inRect p q = true ↔ inside := Element.inRect_iff
    rw [Element.covers_iff, hvisible, hinside]
    refine and_congr_right fun _ => and_congr_right fun hin => ?_
    have hrect := hinside.2 hin
    cases hk : e.kind with
    | tally => simp [kindCovers, hk]
    | box t => exact kindCovers_box hk hrect
    | cross t => exact kindCovers_cross hk hrect
    | text source scale => exact kindCovers_text hk hrect
    | bar source =>
      cases source with
      | audio c => exact kindCovers_bar hk hrect
      | zoom =>
        rw [kindCovers_fill hk hrect rfl, barFill, barValue_zoom]
        rfl
      | focus =>
        rw [kindCovers_fill hk hrect rfl, barFill, barValue_focus]
        rfl
      | ringFill => exact kindCovers_fill hk hrect rfl
  · intro f
    exact congrArg (· ++ [109, 109]) (rightAlign_decimal_four (by omega))
  · have htens : v.fNumber / 10 < 10 ↔ v.fNumber < 100 := by omega
    simp only [sourceText, hv, irisText]
    rw [decimal_five_of_lt (by omega), decimal_of_lt (Nat.mod_lt _ (by decide)), if_congr htens rfl rfl,
      Nat.div_div_eq_div_mul]
    simp only [List.append_assoc]
    rfl
  · have htens : v.fNumber / 10 < 1000 ↔ v.fNumber < 10000 := by omega
    simp only [sourceText, hv, irisText]
    rw [decimal_five_of_le (by omega) (by omega), decimal_of_lt (Nat.mod_lt _ (by decide)), if_congr htens rfl rfl]
    simp only [Nat.div_div_eq_div_mul, List.append_assoc]
    rfl
  · intro span percent
    obtain ⟨heq, hmost⟩ := zoomPercent_eq (zoom := v.zoom) hz
    simp only [sourceText, hv, zoomText]
    rw [rightAlign_decimal_three (by omega), heq]
    rfl
  · exact ⟨by rw [sourceText, hl]; rfl, by rw [sourceText, zoomText, hl]⟩
  · rw [sourceText, hc, clipText, fixedDecimal_four]
    rfl
  · rw [sourceText, hc]
    rfl

end Sys2Proof.Proofs
end
